-- ==== Sys2Proof/Word.lean ====
section
/-! DEFINITION. The words and the numbered sets of the ZS48: bytes, indices of entries, zones and sensors, and sets as
bit vectors (00_scope.md, Conventions: "In a record a set is a bit vector in which bit n stands for member n"). -/

namespace Sys2Proof

/-- One byte of the register window (Table 1 of Chapter 10). -/
abbrev Byte := BitVec 8

/-- Entry 0 to entry 47 (R1). -/
abbrev EntryIx := Fin 48

/-- Zone Z0 to Z15 (R116). -/
abbrev ZoneIx := Fin 16

/-- Sensor S0 to S7 (R81). -/
abbrev SensorIx := Fin 8

/-- A set of entries. -/
abbrev EntrySet := BitVec 48

/-- A set of zones. -/
abbrev ZoneSet := BitVec 16

/-- A set of sensors, or the eight soft flags F0 to F7. -/
abbrev SensorSet := BitVec 8

/-- The levels of the sixteen condition signals: bits 0 to 7 are S0 to S7, bits 8 to 15 are F0 to F7. -/
abbrev Levels := BitVec 16

/-- A set of weekdays, bit 0 Monday to bit 6 Sunday (Chapter 11). -/
abbrev DaySet := BitVec 7

/-- A set of entry notice categories: bit 0 START, 1 END, 2 SKIP, 3 OVERLAP, 4 PREEMPT (Chapter 11). -/
abbrev NoticeSet := BitVec 5

/-- A set of device notice categories: bit 0 COLD_START, 1 SUPPLY_RETURN, 2 CLOCK_FAULT, 3 CLOCK_SWITCHED (Chapter 11). -/
abbrev DeviceSet := BitVec 4

end Sys2Proof
end

