-- ==== Sys2Proof/Syntax.lean ====
section
/-! DEFINITION. The commands of the block: one constructor per row of spec/opcode_table.json. A row is one whole,
indivisible step of the part: the completion of a host command, one byte or condition on the bus, one event of a pin, of the
supply or of a clock, or one internal arrival reaching the block that takes it (95_what_each_step_holds.md). -/

namespace Sys2Proof

/-- A condition on the two-wire bus. A START (or repeated START) comes with its address byte and with the level of ADR,
which is sampled at that byte (R156). -/
inductive BusCondition where
  | stop
  | start (adr : Bool) (address : BitVec 7) (read : Bool)
deriving DecidableEq, Repr

/-- The order in which one second event reaches the paths that R60 and R119 leave open: the entries that their calendar
match reaches before their count, and the zones whose rest is counted before the entries (notes/assumptions/5.md). -/
structure SecondOrder where
  matchFirst : EntrySet
  restFirst : ZoneSet
deriving DecidableEq, Repr

/-- The order of a return from BACKUP that R97 and R146 leave open: after how many of the conditioner's events the engine takes
its mode back, and which sensors are compared with their pins before the others (notes/assumptions/18.md). -/
structure ReturnOrder where
  place : Nat
  sensors : List SensorIx
deriving DecidableEq, Repr

/-- One constructor per row of the table. The table gives no operands; the operands here are what the row's rule reads
from outside the block (a bus byte, a pin level, the entry or zone an arrival reaches, the order of a race). -/
inductive Instr where
  -- Completions of host commands. Their input is the transfer buffer (R160, R161).
  | load
  | modify
  | fetch
  | find
  | retire
  /-- `prg` is the level of the PRG line at the completion (R23). -/
  | setProtect (prg : Bool)
  | hold
  | release
  | rearm
  | start
  | stop
  | confirm
  | confirmFirst
  | setTime
  | readTime
  | selectClock
  | readClock
  | setFlags
  | clearLatches
  | setZones
  | readZones
  | configure
  | readConfig
  | engineStart
  | engineSuspend
  | nextNotice
  | unknownCommand
  -- The two-wire bus.
  | pointerByte (b : Byte)
  | transferBufferWrite (b : Byte)
  | commandWrite (b : Byte)
  | commandBegin
  | ignoredRegisterWrite (b : Byte)
  -- Time.
  | secondEvent (order : SecondOrder)
  | runCompleted (n : EntryIx)
  | capped (n : EntryIx)
  | waitLimitExpiry (n : EntryIx)
  | restEnd (z : ZoneIx)
  | grantWalk
  -- Signals.
  /-- `level` is the new electrical level of the pin. -/
  | sensorPinChange (k : SensorIx) (level : Bool)
  | sensorAcceptance (k : SensorIx)
  | patternTrigger (n : EntryIx)
  | permitFalse (n : EntryIx)
  | permitTrue (n : EntryIx)
  | pulseEdge (k : SensorIx)
  | followEvent (source follower : EntryIx)
  -- The Timebase.
  | crystalCheckPass
  | mainsCheckPass
  | checkTimeout
  | readyCandidateFault
  | clockSwitch
  | activeSourceFault
  -- Supply and reset.
  | entryToBackup
  | supplyDip
  | returnFromBackup (order : ReturnOrder)
  | coldStart
  | resetAssert
  | resetRelease
  -- The bus again.
  | byteRead
  /-- `cut` is the number of bits of a byte that the condition cuts off before its eighth bit (R158). -/
  | busStartOrStop (condition : BusCondition) (cut : Nat)
  | retentionMarkLost
deriving DecidableEq, Repr

end Sys2Proof
end

