-- ==== Sys2Proof/Decode.lean ====
section
/-! DEFINITION. The commands that a word spells by the table's bits. The table of this block gives no row any bits: a row is a
completion or an event, not an encoded word, so no word spells a command. -/

namespace Sys2Proof

/-- No row of spec/opcode_table.json gives bits, so every word spells none. -/
def decodeTableWord (_nbits _w : Nat) : Option Instr := none

end Sys2Proof
end

