-- ==== Sys2Proof/Machine/Bits.lean ====
section
/-! DEFINITION. Sets as bit vectors, and numbers as bytes. -/

namespace Sys2Proof.Machine

/-- The set of the members below `n` that `p` holds of: bit i stands for member i (00_scope.md, Conventions). -/
def bitsOf : (n : Nat) → (Nat → Bool) → BitVec n
  | 0, _ => 0#0
  | n + 1, p => BitVec.cons (p n) (bitsOf n p)

/-- The number of members of a set. -/
def setSize {w : Nat} (b : BitVec w) : Nat := ((List.range w).filter fun i => b.getLsbD i).length

/-- A number as one byte. -/
def byteOf (n : Nat) : Byte := BitVec.ofNat 8 n

/-- Byte `k` of a little-endian quantity (Chapter 11). -/
def byteAt (n k : Nat) : Byte := BitVec.ofNat 8 (n >>> (8 * k))

/-- A two-byte quantity, the lower byte at the lower address (Chapter 11). -/
def word16 (lo hi : Byte) : Nat := lo.toNat + 256 * hi.toNat

/-- A Bool as a bit of a byte. -/
def bitAt (b : Bool) (k : Nat) : Nat := if b then 2 ^ k else 0

end Sys2Proof.Machine
end

