-- ==== Sys2Proof/Config.lean ====
section
/-! DEFINITION. The free values: what the spec leaves to the world outside the part, or leaves open. None has a body, so no
proof can learn a value of one. Each is applied to the plain counter `State.ticks`, or to the operands it depends on. -/

namespace Sys2Proof.Config

/-- How many cycles of the crystal arrive in the k-th internal oscillator cycle (R67, R71; notes/assumptions/4.md). -/
opaque crystalCycles : Nat → Nat

/-- Whether a zero crossing of MREF arrives in the k-th internal oscillator cycle (R67, R72). -/
opaque mainsCrossing : Nat → Bool

/-- Whether VDD stands above 2.8 V in the k-th internal oscillator cycle (R146). -/
opaque vddAbove : Nat → Bool

/-- Which of the internal arrivals that wait comes first when nothing is commanded (notes/assumptions/3.md). -/
opaque idleChoice : Nat → Nat

/-- The order of a second event that the Timebase raises by itself: the entries matched first (R60). -/
opaque matchFirst : Nat → EntrySet

/-- The order of a second event that the Timebase raises by itself: the zones whose rest is counted first (R119). -/
opaque restFirst : Nat → ZoneSet

/-- The order of a return from BACKUP that comes by itself: where the engine's return falls (R97, R146). -/
opaque returnPlace : Nat → Nat

/-- The order of a return from BACKUP that comes by itself: the sensors compared first (R97). -/
opaque returnSensors : Nat → List SensorIx

/-- Whether the position `count` of a prescaler with divisor `divisor`, taken over by the internal prescaler, is rounded
up where it is no whole number of internal cycles (R76 does not say; notes/assumptions/8.md). -/
opaque fallbackRoundsUp : (count divisor : Nat) → Bool

end Sys2Proof.Config
end

