-- ==== Sys2Proof/Machine/State.lean ====
section
/-! DEFINITION. The state of the ZS48 as plain data, the reasons a step could stop, and the state after cold start. -/

namespace Sys2Proof.Machine

/-! ### The definition part of an entry (01, section 1.2) -/

/-- R3: what starts an entry. -/
inductive Kind where
  | calendar | pattern | follow | manual
deriving DecidableEq, Repr

/-- R7: what a run counts. -/
inductive RunUnit where
  | seconds | minutes | pulses
deriving DecidableEq, Repr

/-- R8: repeat. -/
inductive Repeat where
  | once | recurring
deriving DecidableEq, Repr

/-- R8: confirm, NONE or REQUIRED. -/
inductive Confirm where
  | notNeeded | required
deriving DecidableEq, Repr

/-- R8: retrigger. -/
inductive Retrigger where
  | ignore | restart
deriving DecidableEq, Repr

/-- R6: permit mode. -/
inductive PermitMode where
  | gate | abort
deriving DecidableEq, Repr

/-- R5: follow on. -/
inductive FollowOn where
  | completedOnly | anyEnd
deriving DecidableEq, Repr

/-- R6: the spec of one signal. -/
inductive Spec where
  | ignore | low | high | change | fall | rise
deriving DecidableEq, Repr

/-- R6: combine. -/
inductive Combine where
  | all | any
deriving DecidableEq, Repr

/-- R6: sense. -/
inductive Sense where
  | edge | level
deriving DecidableEq, Repr

/-- R6: the pattern field. An absent pattern keeps its settings, as stored fields are returned as written (section 1.2). -/
structure Pattern where
  present : Bool
  combine : Combine
  sense : Sense
  specs : Vector Spec 16
deriving DecidableEq, Repr

/-- R4: the calendar match; `none` is any. -/
structure CalendarMatch where
  second : Option Nat
  minute : Option Nat
  hour : Option Nat
  date : Option Nat
  month : Option Nat
  weekdays : DaySet
deriving DecidableEq, Repr

/-- Table 1 of Chapter 1: the definition part, without `held`, which LOAD alone reads (R8). -/
structure Definition where
  tag : Byte
  kind : Kind
  calendarMatch : CalendarMatch
  source : EntryIx
  followOn : FollowOn
  pattern : Pattern
  permitMode : PermitMode
  rep : Repeat
  confirm : Confirm
  retrigger : Retrigger
  priority : Fin 8
  preempt : Bool
  claim : ZoneSet
  duration : Nat
  unit : RunUnit
  pulseSource : SensorIx
  cap : Nat
  waitLimit : Nat
  notify : NoticeSet
deriving DecidableEq, Repr

/-! ### The calendar (03) -/

/-- R51: the six fields of the calendar; also a last start stamp (R66). -/
structure Calendar where
  second : Nat
  minute : Nat
  hour : Nat
  date : Nat
  month : Nat
  year : Nat
deriving DecidableEq, Repr

/-! ### The status part of an entry (01, section 1.3; 06, R98) -/

/-- R31: the seven outcomes. -/
inductive EntryOutcome where
  | completed | aborted | capped | stopped | skipped | blocked | interrupted
deriving DecidableEq, Repr

/-- R98: cap elapsed in minutes and the cap second count. -/
structure CapCount where
  elapsed : Nat
  seconds : Nat
deriving DecidableEq, Repr

/-- R98: the run state. `subMinute` is present for unit MINUTES, `capCount` when the run cap is above 0. -/
structure RunState where
  counter : Nat
  subMinute : Option Nat
  duration : Nat
  cap : Nat
  capCount : Option CapCount
deriving DecidableEq, Repr

/-- R134, R131: what a DUE entry holds. `remaining` is present in a preemption victim. -/
structure WaitState where
  remaining : Option Nat
  elapsed : Nat
  seconds : Nat
deriving DecidableEq, Repr

/-- R24: the seven non-EMPTY states, each with the parts of R9 that exist in it. -/
inductive Phase where
  | armed
  | held
  | due (w : WaitState)
  | running (r : RunState)
  | paused (r : RunState)
  | confirming
  | spent
deriving DecidableEq, Repr

/-- R9: one entry: its definition part, its status part and its stored values (R89). The turn position is its place in
`State.turn`. -/
structure Entry where
  defn : Definition
  phase : Phase
  lastOutcome : Option EntryOutcome
  lastStart : Option Calendar
  snapshot : Option Levels
  pending : NoticeSet
  storedPattern : Option Bool
  storedPermit : Option Bool
deriving DecidableEq, Repr

/-! ### The Timebase (04) -/

/-- R67: the clock sources. -/
inductive Source where
  | internal | crystal | mains50 | mains60
deriving DecidableEq, Repr

/-- R69: a check in progress. `elapsed` and `quiet` count internal oscillator cycles: since the check began, and since the
candidate's last cycle (`none` before its first). `code` is the crystal code of the check. -/
structure Check where
  source : Source
  good : Nat
  elapsed : Nat
  code : Nat
  quiet : Option Nat
deriving DecidableEq, Repr

/-- R69: the selector. A READY candidate keeps the crystal code of the check it passed (R80) and its activity watch (R76). -/
inductive Selector where
  | steady
  | starting (c : Check)
  | ready (source : Source) (code : Nat) (quiet : Nat)
deriving DecidableEq, Repr

/-- R69: the Timebase state. `sincePrescaler` is the internal time since the prescaler last moved (R76), `quiet` the internal
time since the active source's last cycle, both in internal oscillator cycles. -/
structure Timebase where
  active : Source
  selector : Selector
  prescaler : Nat
  sincePrescaler : Nat
  quiet : Nat
  crystalRunning : Bool
deriving DecidableEq, Repr

/-! ### The Signal Conditioner (05) -/

/-- R81: a running filter period; `held` counts internal oscillator cycles. -/
structure FilterPeriod where
  candidate : Bool
  held : Nat
deriving DecidableEq, Repr

/-- R81: one sensor: the electrical level of its pin, its accepted level after polarity, its latch, its filter period. -/
structure Sensor where
  pin : Bool
  accepted : Bool
  latch : Bool
  filter : Option FilterPeriod
deriving DecidableEq, Repr

/-! ### The Zone Arbiter (07) -/

/-- R116: a zone record: the six states with the owner and the rest remaining that each may hold. -/
inductive Zone where
  | free
  | resting (rest : Nat)
  | ownedOn (owner : EntryIx)
  | ownedOff (owner : EntryIx) (rest : Option Nat)
  | manualOn
  | manualOff (rest : Option Nat)
deriving DecidableEq, Repr

/-! ### The engine, the configuration and the supply (08) -/

/-- R137: the modes that can be remembered. -/
inductive RunMode where
  | suspended | live
deriving DecidableEq, Repr

/-- R137: the engine mode. -/
inductive Mode where
  | suspended | live | backup
deriving DecidableEq, Repr

/-- R137, R148: the engine mode, the remembered mode, and whether the RESET line holds the engine. -/
structure Engine where
  mode : Mode
  remembered : RunMode
  held : Bool
deriving DecidableEq, Repr

/-- R141: the configuration. Filter codes are two bits a sensor (R167). -/
structure SiteConfig where
  budget : Nat
  rests : Vector Nat 16
  zonePolarity : ZoneSet
  sensorPolarity : SensorSet
  latchModes : SensorSet
  filterCodes : BitVec 16
  crystalCode : Nat
deriving DecidableEq, Repr

/-- R141: the cold values. -/
def SiteConfig.cold : SiteConfig where
  budget := 0
  rests := Vector.replicate 16 0
  zonePolarity := 0
  sensorPolarity := 0
  latchModes := 0
  filterCodes := 0
  crystalCode := 3

/-- R141: the configuration, its valid flag and its lock. -/
structure Site where
  config : SiteConfig
  valid : Bool
  lock : Bool
deriving DecidableEq, Repr

/-- Section 8.4: the supply condition. -/
inductive SupplyCondition where
  | main | battery
deriving DecidableEq, Repr

/-- Section 8.4: the Supply Monitor. The qualification time counts internal oscillator cycles. -/
structure Supply where
  condition : SupplyCondition
  qualification : Nat
  mark : Bool
deriving DecidableEq, Repr

/-! ### The Command Interface (10) -/

/-- The transfer buffer as cells in canonical form (see Machine/Memory.lean). -/
abbrev Memory := List Host.Cell

/-- R164, Table 2 of Chapter 10: the result codes. -/
inductive ResultCode where
  | none | ok | unknownCommand | badIndex | emptySlot | occupied | invalidField | entryProtected | active | inUse
  | badLink | wrongState | engineNotLive | notSuspended | locked | noConfig | overBudget | zoneBusy | nothing
deriving DecidableEq, Repr

/-- R156, R157: where the bus transaction stands: none open, one addressed to another target, a write before its pointer byte,
a write after it, a write whose further bytes are NACKed, a read. -/
inductive BusPhase where
  | closed | ignored | awaitPointer | writing | nacking | reading
deriving DecidableEq, Repr

/-- R156: what the part last drove on SDA in answer to a byte or a condition. -/
inductive BusReply where
  | released
  | ack
  | nack
  | byte (b : Byte)
deriving DecidableEq, Repr

/-- Chapter 10: the interface. `code` is the command code taken and not yet completed. -/
structure Interface where
  pointer : Fin 52
  buffer : Memory
  code : Option Byte
  busy : Bool
  result : ResultCode
  detail : Byte
  phase : BusPhase
  reply : BusReply
deriving DecidableEq, Repr

/-- R162: the fresh condition of the interface. -/
def Interface.fresh : Interface where
  pointer := 0
  buffer := []
  code := none
  busy := false
  result := .none
  detail := 0
  phase := .closed
  reply := .released

/-- Input pins that no sensor record holds: the RESET line (true while asserted), and PRG and ADR as last sampled. -/
structure Pins where
  reset : Bool
  prg : Bool
  adr : Bool
deriving DecidableEq, Repr

/-! ### Arrivals on their way (log 6)

R87: "Each pattern trigger, permit transition and pulse edge reaches its entry as an arrival of its own, after the change
event that produced it." -/

/-- R94: a pattern trigger and the levels it carries. -/
structure PatternTrigger where
  entry : EntryIx
  levels : Levels
deriving DecidableEq, Repr

/-- R92: a permit transition. -/
structure PermitTransition where
  entry : EntryIx
  value : Bool
deriving DecidableEq, Repr

/-- R95, R103: a pulse edge, and the entries it has already reached. -/
structure PulseEdge where
  sensor : SensorIx
  reached : EntrySet
deriving DecidableEq, Repr

/-- R112: a follow event. -/
structure FollowLink where
  source : EntryIx
  follower : EntryIx
deriving DecidableEq, Repr

/-- R113, R128: the follow events of one arrival, and whether a walk follows once the last of them is taken or dropped. -/
structure FollowGroup where
  walk : Bool
  events : List FollowLink
deriving DecidableEq, Repr

/-- The second event under way: the counters it has already reached, and the follow events and the walk that it has caused
there (R68, R128; notes/assumptions/5.md). -/
structure Underway where
  entries : EntrySet
  zones : ZoneSet
  group : FollowGroup
deriving DecidableEq, Repr

/-- No counter reached. -/
def Underway.nothing : Underway where
  entries := 0
  zones := 0
  group := { walk := false, events := [] }

/-- Everything that is on its way: second events raised and not yet counted, pattern triggers, permit transitions, pulse
edges, follow events, walks caused and not yet made, and the second event under way. -/
structure Owed where
  seconds : Nat
  triggers : List PatternTrigger
  transitions : List PermitTransition
  pulses : List PulseEdge
  follows : List FollowGroup
  walks : Nat
  underway : Underway
deriving DecidableEq, Repr

/-- Nothing on its way. -/
def Owed.nothing : Owed where
  seconds := 0
  triggers := []
  transitions := []
  pulses := []
  follows := []
  walks := 0
  underway := Underway.nothing

/-! ### The whole state -/

/-- The state of the ZS48, the queue of commands that wait, and the model's own counter `ticks` at which free values are
read. -/
structure State where
  pending : List Instr
  table : Vector (Option Entry) 48
  turn : List EntryIx
  boundary : Nat
  calendar : Calendar
  timeValid : Bool
  timebase : Timebase
  sensors : Vector Sensor 8
  flags : SensorSet
  zones : Vector Zone 16
  engine : Engine
  site : Site
  supply : Supply
  device : DeviceSet
  iface : Interface
  pins : Pins
  owed : Owed
  ticks : Nat
deriving DecidableEq, Repr

/-- The reasons the part stops with a fault: none. No rule of the spec lets the ZS48 stop; a refused host command is a RESULT
code (R164). No meaning raises a fault, which is safe: nothing is cut short. -/
inductive Fault where
deriving DecidableEq, Repr

/-- The reasons a command has no meaning. -/
inductive Refusal where
  /-- Raised only by an arm of `exec` whose row has no meaning yet, by name; safe. No arm raises it. -/
  | notModelled (mnemonic : String)
deriving DecidableEq, Repr

/-- R69: the Timebase at cold start. -/
def Timebase.cold : Timebase where
  active := .internal
  selector := .steady
  prescaler := 0
  sincePrescaler := 0
  quiet := 0
  crystalRunning := false

/-- R51: the calendar at cold start. -/
def Calendar.cold : Calendar where
  second := 0
  minute := 0
  hour := 0
  date := 1
  month := 1
  year := 0

/-- The machine right after cold start (R147, Table 2 of Chapter 8), with every pin low and the RESET line released (DESIGN
CHOICE, notes/assumptions/1.md). -/
def State.reset : State where
  pending := []
  table := Vector.replicate 48 none
  turn := []
  boundary := 0
  calendar := Calendar.cold
  timeValid := false
  timebase := Timebase.cold
  sensors := Vector.replicate 8 { pin := false, accepted := false, latch := false, filter := none }
  flags := 0
  zones := Vector.replicate 16 .free
  engine := { mode := .suspended, remembered := .suspended, held := false }
  site := { config := SiteConfig.cold, valid := false, lock := false }
  supply := { condition := .main, qualification := 0, mark := true }
  device := 1
  iface := Interface.fresh
  pins := { reset := false, prg := false, adr := false }
  owed := Owed.nothing
  ticks := 0

end Sys2Proof.Machine
end

