-- ==== Sys2Proof/Machine/Time.lean ====
section
/-! DEFINITION. The calendar's arithmetic: month lengths, the derived weekday, the advance and the match (03). -/

namespace Sys2Proof.Machine

/-- R52: a year is a leap year when its year value is divisible by 4. -/
def leapYear (year : Nat) : Bool := year % 4 == 0

/-- R52, Table 1 of Chapter 3. -/
def daysInMonth (month year : Nat) : Nat :=
  match month with
  | 2 => if leapYear year then 29 else 28
  | 4 | 6 | 9 | 11 => 30
  | _ => 31

/-- Days of the months before `month` in `year`. -/
def daysBeforeMonth (year : Nat) : Nat → Nat
  | 0 => 0
  | 1 => 0
  | m + 2 => daysBeforeMonth year (m + 1) + daysInMonth (m + 1) year

/-- R53: the days from 2000-01-01, that day counting as 0. Of the years 0 to y-1, (y+3)/4 are leap years. -/
def dayCount (c : Calendar) : Nat :=
  365 * c.year + (c.year + 3) / 4 + daysBeforeMonth c.year c.month + (c.date - 1)

/-- R53: 1 for Monday to 7 for Sunday. -/
def weekday (c : Calendar) : Nat := (dayCount c + 5) % 7 + 1

/-- R55: one second on, as one carry chain. -/
def Calendar.advance (c : Calendar) : Calendar :=
  if c.second + 1 < 60 then { c with second := c.second + 1 }
  else if c.minute + 1 < 60 then { c with second := 0, minute := c.minute + 1 }
  else if c.hour + 1 < 24 then { c with second := 0, minute := 0, hour := c.hour + 1 }
  else if c.date + 1 ≤ daysInMonth c.month c.year then
    { c with second := 0, minute := 0, hour := 0, date := c.date + 1 }
  else if c.month + 1 < 13 then
    { c with second := 0, minute := 0, hour := 0, date := 1, month := c.month + 1 }
  else if c.year + 1 < 100 then
    { second := 0, minute := 0, hour := 0, date := 1, month := 1, year := c.year + 1 }
  else { second := 0, minute := 0, hour := 0, date := 1, month := 1, year := 0 }

/-- R51: "The fields always form a date and time that exists in the calendar of R52." -/
def Calendar.valid (c : Calendar) : Bool :=
  c.second < 60 && c.minute < 60 && c.hour < 24 && 1 ≤ c.date && c.date ≤ daysInMonth c.month c.year
    && 1 ≤ c.month && c.month ≤ 12 && c.year < 100

/-- One field of a calendar match: any, or equal (R58, Table 3). -/
def fieldMatches (want : Option Nat) (value : Nat) : Bool :=
  match want with
  | none => true
  | some v => v == value

/-- R58: whether the match takes the time. Bit 0 of the weekday set is Monday, weekday 1. -/
def CalendarMatch.matchesTime (m : CalendarMatch) (c : Calendar) : Bool :=
  fieldMatches m.second c.second && fieldMatches m.minute c.minute && fieldMatches m.hour c.hour
    && fieldMatches m.date c.date && fieldMatches m.month c.month && m.weekdays.getLsbD (weekday c - 1)

end Sys2Proof.Machine
end

