-- ==== Sys2Proof/Machine/Entry.lean ====
section
/-! DEFINITION. What reaches one entry and what it does there: patterns, triggers, counts, permit transitions and resolution,
each as a function of the entry and of the little it reads from the rest of the part. -/

namespace Sys2Proof.Machine

/-! ### Patterns (05, section 5.4) -/

/-- R88, Table 1 of Chapter 5: whether the spec of signal `i` holds for the levels after an event and the set it changed.
Against current levels alone nothing has changed, so a transition spec does not hold. -/
def specHolds (sp : Spec) (levels changed : Levels) (i : Nat) : Bool :=
  match sp with
  | .ignore => false
  | .low => !levels.getLsbD i
  | .high => levels.getLsbD i
  | .change => changed.getLsbD i
  | .fall => changed.getLsbD i && !levels.getLsbD i
  | .rise => changed.getLsbD i && levels.getLsbD i

/-- A spec that names a transition (R90). -/
def Spec.isTransition : Spec → Bool
  | .change | .fall | .rise => true
  | .ignore | .low | .high => false

/-- R88: whether the pattern is satisfied; IGNORE specs are not considered. -/
def Pattern.satisfied (p : Pattern) (levels changed : Levels) : Bool :=
  match p.combine with
  | .all => (List.finRange 16).all fun i => p.specs[i] == .ignore || specHolds p.specs[i] levels changed i
  | .any => (List.finRange 16).any fun i => specHolds p.specs[i] levels changed i

/-- R90: whether a pattern holds a CHANGE, FALL or RISE spec. -/
def Pattern.hasTransition (p : Pattern) : Bool := (List.finRange 16).any fun i => p.specs[i].isTransition

/-- R6: a PATTERN entry has a permit with LEVEL sense alone; an entry of another kind has one when its pattern is present. -/
def Definition.hasPermit (d : Definition) : Bool :=
  match d.kind with
  | .pattern => d.pattern.sense == .level
  | .calendar | .follow | .manual => d.pattern.present

/-- R6: whether the permit holds against the current levels; an entry with no permit counts as one that is true. -/
def Definition.permitHolds (d : Definition) (levels : Levels) : Bool :=
  !d.hasPermit || d.pattern.satisfied levels 0

/-- R89: the stored pattern value that the definition calls for. -/
def Definition.patternValue (d : Definition) (levels changed : Levels) : Option Bool :=
  match d.kind with
  | .pattern => some (d.pattern.satisfied levels changed)
  | .calendar | .follow | .manual => none

/-- R89: the stored permit value that the definition calls for. -/
def Definition.permitValue (d : Definition) (levels changed : Levels) : Option Bool :=
  if d.hasPermit then some (d.pattern.satisfied levels changed) else none

/-- R47, R48: a PATTERN entry with LEVEL sense. -/
def Definition.isLevel (d : Definition) : Bool := d.kind == .pattern && d.pattern.sense == .level

/-! ### States (02, section 2.1) -/

/-- DUE, RUNNING or PAUSED. -/
def Phase.isActive : Phase → Bool
  | .due _ | .running _ | .paused _ => true
  | .armed | .held | .confirming | .spent => false

/-- RUNNING or PAUSED: the states that own zones (R116). -/
def Phase.ownsZones : Phase → Bool
  | .running _ | .paused _ => true
  | .armed | .held | .due _ | .confirming | .spent => false

/-- Whether an entry is ARMED. -/
def Phase.isArmed : Phase → Bool
  | .armed => true
  | .held | .due _ | .running _ | .paused _ | .confirming | .spent => false

/-! ### Notices (02, section 2.7) -/

/-- The bit numbers of the entry notice categories (Chapter 11). -/
inductive Category where
  | start | ending | skip | overlap | preempt
deriving DecidableEq, Repr

/-- The set holding one category. -/
def Category.bit : Category → NoticeSet
  | .start => 1
  | .ending => 2
  | .skip => 4
  | .overlap => 8
  | .preempt => 16

/-- R49: a lifecycle point adds its category when the notify set holds it at that moment. -/
def Entry.note (e : Entry) (c : Category) : Entry :=
  { e with pending := e.pending ||| (c.bit &&& e.defn.notify) }

/-! ### What an arrival does at an entry -/

/-- What an entry reads from the rest of the part: whether the engine acts as LIVE, and the current signal levels. -/
structure View where
  live : Bool
  levels : Levels
deriving DecidableEq, Repr

/-- R120: what happens to the zones of an entry's claim set. -/
inductive ZoneEffect where
  | keep | release | pause | resume
deriving DecidableEq, Repr

/-- The result of an arrival at one entry: the entry, what its zones do, the outcome that goes to its followers (R112), and
whether it causes a walk by itself (R127). -/
structure Effect where
  entry : Entry
  zones : ZoneEffect
  ended : Option EntryOutcome
  walk : Bool
deriving DecidableEq, Repr

/-- An arrival that leaves all but the entry's own record alone. -/
def Effect.only (e : Entry) : Effect := { entry := e, zones := .keep, ended := none, walk := false }

/-- One arrival after another at the same entry. -/
def Effect.andThen (a : Effect) (f : Entry → Effect) : Effect :=
  let b := f a.entry
  { entry := b.entry
    zones := if b.zones = .keep then a.zones else b.zones
    ended := b.ended.or a.ended
    walk := a.walk || b.walk }

/-- R26: a taken trigger makes the entry DUE with wait elapsed 0 and remaining absent. -/
def Entry.becomeDue (e : Entry) (snapshot : Option Levels) : Entry :=
  { e with phase := .due { remaining := none, elapsed := 0, seconds := 0 }, snapshot := snapshot }

/-- R48: whether a LEVEL re-check takes a trigger. -/
def Entry.recheckTakes (v : View) (e : Entry) : Bool :=
  v.live && e.phase.isArmed && e.defn.isLevel && e.defn.pattern.satisfied v.levels 0

/-- R48: a LEVEL re-check point. -/
def Entry.recheck (v : View) (e : Entry) : Effect :=
  if e.recheckTakes v then { Effect.only (e.becomeDue (some v.levels)) with walk := true } else Effect.only e

/-- R31, Table 2 of Chapter 2: which outcomes are an end of a run. -/
def EntryOutcome.isEnd : EntryOutcome → Bool
  | .completed | .aborted | .capped | .stopped => true
  | .skipped | .blocked | .interrupted => false

/-- R31, Table 2 of Chapter 2: the notice of an outcome. -/
def Entry.noteOutcome (e : Entry) (o : EntryOutcome) : Entry :=
  match o with
  | .completed | .aborted | .capped | .stopped => e.note .ending
  | .skipped | .blocked => e.note .skip
  | .interrupted => e

/-- ONCE enters SPENT, RECURRING enters ARMED (R33, R36). -/
def Definition.afterUse (d : Definition) : Phase :=
  match d.rep with
  | .once => .spent
  | .recurring => .armed

/-- R33, Table 3 of Chapter 2: the next state. -/
def Definition.nextPhase (d : Definition) (o : EntryOutcome) : Phase :=
  match o with
  | .completed | .aborted | .capped =>
    match d.confirm with
    | .required => .confirming
    | .notNeeded => d.afterUse
  | .stopped | .skipped | .blocked => d.afterUse
  | .interrupted => .armed

/-- R32: resolution into the state `next`. The run state and the waits disappear with the old state; a follow event goes out
only while the engine is LIVE (R112); an entry that enters ARMED is re-checked. -/
def Entry.settle (v : View) (o : EntryOutcome) (next : Phase) (e : Entry) : Effect :=
  let zones := if e.phase.ownsZones then ZoneEffect.release else ZoneEffect.keep
  let settled := { e.noteOutcome o with phase := next, lastOutcome := some o }
  let rechecked := settled.recheck v
  { entry := rechecked.entry
    zones := zones
    ended := if v.live && o.isEnd then some o else none
    walk := rechecked.walk }

/-- R32 with the next state of R33. -/
def Entry.resolve (v : View) (o : EntryOutcome) (e : Entry) : Effect := e.settle v o (e.defn.nextPhase o)

/-- R28, R110: a restart reloads the counter and clears the other counts. -/
def RunState.restarted (r : RunState) : RunState :=
  { r with
    counter := r.duration
    subMinute := r.subMinute.map fun _ => 0
    capCount := r.capCount.map fun _ => { elapsed := 0, seconds := 0 } }

/-- R26 to R29: a trigger reaches an entry. The permit is read at `levels`; a taken trigger leaves `snapshot`. -/
def Entry.trigger (v : View) (levels : Levels) (snapshot : Option Levels) (e : Entry) : Effect :=
  if v.live then
    match e.phase with
    | .armed =>
      if e.defn.permitHolds levels then { Effect.only (e.becomeDue snapshot) with walk := true }
      else ({ e with snapshot := snapshot } : Entry).resolve v .blocked
    | .due _ | .confirming => Effect.only (e.note .overlap)
    | .running r =>
      match e.defn.retrigger with
      | .restart => Effect.only { e with phase := .running r.restarted, snapshot := snapshot }
      | .ignore => Effect.only (e.note .overlap)
    | .paused r =>
      match e.defn.retrigger with
      | .restart => Effect.only { e with phase := .paused r.restarted, snapshot := snapshot }
      | .ignore => Effect.only (e.note .overlap)
    | .held | .spent => Effect.only e
  else Effect.only e

/-- R90, R91: a pattern trigger reaches an entry, in whatever state the entry is then (R30, R46, R93). It reaches no entry of
another kind (R3). At a RUNNING or PAUSED entry of LEVEL sense the retrigger setting is not consulted (R91): the trigger is dropped
with OVERLAP, as R46 says of a trigger that comes after START, and so it is at a CONFIRMING one (R29; notes/assumptions/11.md). The definition is the one that stands at the
arrival, also where a MODIFY has replaced the pattern or the sense since the change event (R15): a new LEVEL pattern is judged at the
levels that the trigger carries, and where it does not hold there the entry resolves BLOCKED (notes/assumptions/26.md). -/
def Entry.patternTrigger (v : View) (levels : Levels) (e : Entry) : Effect :=
  if e.defn.kind == .pattern then
    if v.live && e.defn.isLevel && e.phase.ownsZones then Effect.only (e.note .overlap)
    else e.trigger v levels (some levels)
  else Effect.only e

/-- R113: a follow event reaches its follower, which R112 chose at the resolution; an entry that is no longer a FOLLOW entry is not reached
(R3). A MODIFY of the follow source or of follow on since the resolution does not stop it (notes/assumptions/32.md). -/
def Entry.followEvent (v : View) (e : Entry) : Effect :=
  if e.defn.kind == .follow then e.trigger v v.levels none else Effect.only e

/-! ### Counting second events (06, section 6.3; 07, section 7.7) -/

/-- R134: one counted second of a wait; wait elapsed stops at 255. -/
def WaitState.next (w : WaitState) : WaitState :=
  if w.seconds + 1 < 60 then { w with seconds := w.seconds + 1 }
  else { w with seconds := 0, elapsed := min 255 (w.elapsed + 1) }

/-- R104: one counted second of a cap. -/
def CapCount.next (c : CapCount) : CapCount :=
  if c.seconds + 1 < 60 then { c with seconds := c.seconds + 1 } else { elapsed := c.elapsed + 1, seconds := 0 }

/-- R101, R102: whether the next counted second brings the run counter to 0. -/
def RunState.secondEnds (unit : RunUnit) (r : RunState) : Bool :=
  match unit with
  | .seconds => r.counter ≤ 1
  | .minutes => r.counter ≤ 1 && 60 ≤ r.subMinute.getD 0 + 1
  | .pulses => false

/-- R104: whether the next counted second brings cap elapsed to the run cap. -/
def RunState.capEnds (r : RunState) : Bool :=
  match r.capCount with
  | some c => r.cap ≤ c.next.elapsed
  | none => false

/-- R101, R102: one counted second of a RUNNING run that does not end it. -/
def RunState.countSecond (unit : RunUnit) (r : RunState) : RunState :=
  match unit with
  | .seconds => { r with counter := r.counter - 1 }
  | .minutes =>
    if r.subMinute.getD 0 + 1 < 60 then { r with subMinute := some (r.subMinute.getD 0 + 1) }
    else { r with subMinute := some 0, counter := r.counter - 1 }
  | .pulses => r

/-- R104: the cap counts in RUNNING and in PAUSED. -/
def RunState.countCap (r : RunState) : RunState := { r with capCount := r.capCount.map CapCount.next }

/-- The outcome that the next counted second event brings about, if it ends the run or the wait (R101, R102, R104, R135). -/
def Entry.secondEnds (e : Entry) : Option EntryOutcome :=
  match e.phase with
  | .due w =>
    if 0 < e.defn.waitLimit && e.defn.waitLimit ≤ w.next.elapsed then
      (if w.remaining.isSome then some .aborted else some .skipped)
    else none
  | .running r =>
    if r.secondEnds e.defn.unit then some .completed else if r.capEnds then some .capped else none
  | .paused r => if r.capEnds then some .capped else none
  | .armed | .held | .confirming | .spent => none

/-- One counted second event that ends nothing. -/
def Entry.countOn (e : Entry) : Entry :=
  match e.phase with
  | .due w => { e with phase := .due w.next }
  | .running r => { e with phase := .running (r.countSecond e.defn.unit).countCap }
  | .paused r => { e with phase := .paused r.countCap }
  | .armed | .held | .confirming | .spent => e

/-- A second event reaches the counters of an entry. -/
def Entry.count (v : View) (e : Entry) : Effect :=
  match e.secondEnds with
  | some o => e.resolve v o
  | none => Effect.only e.countOn

/-- R59, R60: a second event reaches an entry by its match and by its count, in the order given. An entry that becomes DUE by
the match does not count the second event (R134), and one that `skipCount` names has counted it already. -/
def Entry.secondEvent (v : View) (matched matchFirst skipCount : Bool) (e : Entry) : Effect :=
  let counts := e.phase.isActive && !skipCount
  let byCount := fun x : Entry => if counts then x.count v else Effect.only x
  let byMatch := fun x : Entry => if matched then x.trigger v v.levels none else Effect.only x
  if matchFirst then (byMatch e).andThen byCount else (byCount e).andThen byMatch

/-! ### Pulse edges and permit transitions -/

/-- R103: a pulse edge of sensor `k` reaches an entry. -/
def Entry.pulse (v : View) (k : SensorIx) (e : Entry) : Effect :=
  match e.phase with
  | .running r =>
    if e.defn.unit == .pulses && e.defn.pulseSource == k then
      (if r.counter ≤ 1 then e.resolve v .completed
       else Effect.only { e with phase := .running { r with counter := r.counter - 1 } })
    else Effect.only e
  | .armed | .held | .due _ | .paused _ | .confirming | .spent => Effect.only e

/-- R106 to R108, R133: a permit transition reaches an entry. One to false finds an entry without a permit only where a MODIFY has
removed it since the change event; such an entry ignores its permit mode (R6), so it neither pauses nor ends. -/
def Entry.permitTransition (v : View) (value : Bool) (e : Entry) : Effect :=
  match e.phase, value with
  | .running r, false =>
    if e.defn.hasPermit then
      (match e.defn.permitMode with
      | .gate => { Effect.only { e with phase := .paused r } with zones := .pause }
      | .abort => e.resolve v .aborted)
    else Effect.only e
  | .paused r, true => { Effect.only { e with phase := .running r } with zones := .resume }
  | .due _, true => { Effect.only e with walk := true }
  | _, _ => Effect.only e

/-! ### Commands at one entry (02, sections 2.4 and 2.5) -/

/-- R41: HOLD of an active entry. -/
def Entry.holdActive (v : View) (e : Entry) : Effect := e.settle v .stopped .held

/-- An entry that a command takes to ARMED reaches a LEVEL re-check point (R42, R43, R47). -/
def Entry.arm (v : View) (e : Entry) : Effect := ({ e with phase := .armed } : Entry).recheck v

/-- R36: confirmation. -/
def Entry.confirmed (v : View) (e : Entry) : Effect := ({ e with phase := e.defn.afterUse } : Entry).recheck v

/-- R131: the entry becomes a preemption victim. -/
def Entry.victimised (e : Entry) : Effect :=
  match e.phase with
  | .running r | .paused r =>
    { Effect.only (({ e with
        phase := .due { remaining := some r.counter, elapsed := 0, seconds := 0 } } : Entry).note .preempt) with
      zones := .release }
  | .armed | .held | .due _ | .confirming | .spent => Effect.only e

/-- R99: the run state a grant loads. -/
def Definition.runAtGrant (d : Definition) (remaining : Option Nat) : RunState where
  counter := remaining.getD d.duration
  subMinute := if d.unit = .minutes then some 0 else none
  duration := d.duration
  cap := d.cap
  capCount := if 0 < d.cap then some { elapsed := 0, seconds := 0 } else none

/-- R99: the entry's side of a grant at the calendar time `now`. -/
def Entry.granted (e : Entry) (w : WaitState) (now : Calendar) : Entry :=
  ({ e with phase := .running (e.defn.runAtGrant w.remaining), lastStart := some now } : Entry).note .start

end Sys2Proof.Machine
end

