-- ==== Sys2Proof/Machine/Memory.lean ====
section
/-! DEFINITION. The transfer buffer (Table 1 of Chapter 10): 48 byte addresses, 0x00 to 0x2F, held as a list of cells in one
canonical form. An unlisted address reads 0, as a fresh buffer does (R162). -/

namespace Sys2Proof.Machine

/-- What an unlisted address of the buffer reads as: "The transfer buffer reads all zero" (R162). -/
def Memory.unlisted : Byte := 0

/-- The number of byte addresses of the buffer (Table 1 of Chapter 10). -/
def Memory.size : Nat := 48

/-- The byte at address `a`. -/
def Memory.read : Memory → Nat → Byte
  | [], _ => Memory.unlisted
  | (b, v) :: rest, a => if a = b then v else Memory.read rest a

/-- One cell in front, unless it holds what an unlisted address reads as. -/
def Memory.cell (a : Nat) (v : Byte) (rest : Memory) : Memory :=
  if v = Memory.unlisted then rest else (a, v) :: rest

/-- The byte at address `a` written; the list stays in canonical form. -/
def Memory.write : Memory → Nat → Byte → Memory
  | [], a, v => Memory.cell a v []
  | (b, w) :: rest, a, v =>
    if a < b then Memory.cell a v ((b, w) :: rest)
    else if a = b then Memory.cell a v rest
    else (b, w) :: Memory.write rest a v

/-- The cells of the bytes of a record, from address `a` on. -/
def Memory.cellsFrom : Nat → List Byte → Memory
  | _, [] => []
  | a, v :: rest => Memory.cell a v (Memory.cellsFrom (a + 1) rest)

/-- R165: a record written from address 0x00, with 0 in every byte beyond it. -/
def Memory.ofRecord (bytes : List Byte) : Memory := Memory.cellsFrom 0 (bytes.take Memory.size)

/-- Addresses strictly rise from `lo` on, lie in the buffer, and no cell holds what an unlisted address reads as. -/
def Memory.wfFrom (lo : Nat) : Memory → Bool
  | [] => true
  | (a, v) :: rest => lo ≤ a && a < Memory.size && v != Memory.unlisted && Memory.wfFrom (a + 1) rest

/-- The canonical form. -/
def Memory.wf (m : Memory) : Bool := Memory.wfFrom 0 m

end Sys2Proof.Machine
end

