-- ==== Sys2Proof/Machine/Flags.lean ====
section
/-! DEFINITION. What is computed from the state and never stored: the settings in force, the signal levels, the engaged count,
the pending notices and INT, the zone outputs, the bus being heard, and STATUS. -/

namespace Sys2Proof.Machine

/-! ### Supply, mode and settings -/

/-- The battery domain holds its contents: no retention mark has been lost (R147; notes/assumptions/14.md). -/
def State.powered (s : State) : Bool := s.supply.mark

/-- R148: "A held engine acts as not LIVE for every rule that asks whether the engine is LIVE". -/
def State.isLive (s : State) : Bool := s.engine.mode == .live && !s.engine.held && s.powered

/-- The part works and its engine is not held, so the engine takes arrivals (R148). -/
def State.takesArrivals (s : State) : Bool := s.powered && !s.engine.held

/-- R156: the bus is ignored while the RESET line is asserted, in BACKUP and during the wait of a power-up. -/
def State.busHeard (s : State) : Bool := s.powered && !s.engine.held && s.supply.condition == .main

/-- R97: the Signal Conditioner watches the pins in every mode but BACKUP. -/
def State.watchesPins (s : State) : Bool := s.powered && s.supply.condition == .main

/-- R141: "While the flag is false, the settings in force are these cold values whatever the stored record holds". -/
def State.settings (s : State) : SiteConfig := if s.site.valid then s.site.config else SiteConfig.cold

/-- R118: the budget in force. -/
def State.budget (s : State) : Nat := s.settings.budget

/-- R119: the rest time of a zone. -/
def State.restTime (s : State) (z : ZoneIx) : Nat := s.settings.rests[z]

/-- R82: the latch mode of a sensor. -/
def State.latchMode (s : State) (k : SensorIx) : Bool := s.settings.latchModes.getLsbD k

/-- R67: internal oscillator cycles in a millisecond, at the nominal 32 kHz. -/
def cyclesPerMs : Nat := 32

/-- R82, R167: the filter time of a sensor, in internal oscillator cycles. -/
def State.filterTime (s : State) (k : SensorIx) : Nat :=
  match (s.settings.filterCodes.toNat >>> (2 * k.val)) % 4 with
  | 0 => 0
  | 1 => 20 * cyclesPerMs
  | 2 => 100 * cyclesPerMs
  | _ => 500 * cyclesPerMs

/-! ### Signals (05, section 5.1) -/

/-- R81: the level of a sensor's signal. -/
def Sensor.level (x : Sensor) : Bool := x.latch || x.accepted

/-- R81: the levels of the eight sensor signals. -/
def State.sensorLevels (s : State) : SensorSet :=
  bitsOf 8 fun i => if h : i < 8 then s.sensors[i].level else false

/-- R81: the sixteen signal levels; signals 8 to 15 are the soft flags. -/
def State.levels (s : State) : Levels := s.flags ++ s.sensorLevels

/-- R81: the level of a sensor's pin after polarity. -/
def State.pinLevel (s : State) (k : SensorIx) : Bool := s.sensors[k].pin ^^ s.settings.sensorPolarity.getLsbD k

/-- What an entry reads from the rest of the part. -/
def State.view (s : State) : View := { live := s.isLive, levels := s.levels }

/-! ### Zones (07, section 7.1) -/

/-- R118: whether a zone is engaged. -/
def Zone.engaged : Zone → Bool
  | .ownedOn _ | .ownedOff _ _ | .manualOn => true
  | .free | .resting _ | .manualOff _ => false

/-- R117: whether a zone's state energises it. -/
def Zone.energised : Zone → Bool
  | .ownedOn _ | .manualOn => true
  | .free | .resting _ | .ownedOff _ _ | .manualOff _ => false

/-- R116: the owner of a zone. -/
def Zone.owner : Zone → Option EntryIx
  | .ownedOn n | .ownedOff n _ => some n
  | .free | .resting _ | .manualOn | .manualOff _ => none

/-- R116: the rest remaining of a zone. -/
def Zone.rest : Zone → Option Nat
  | .resting r => some r
  | .ownedOff _ r | .manualOff r => r
  | .free | .ownedOn _ | .manualOn => none

/-- The number of engaged zones of a set of zone records. -/
def engagedCount (zones : Vector Zone 16) : Nat := ((List.finRange 16).filter fun z => zones[z].engaged).length

/-- R118: the engaged count. -/
def State.engaged (s : State) : Nat := engagedCount s.zones

/-- What drives a zone output (R117). -/
inductive OutputLevel where
  | low | high | highImpedance
deriving DecidableEq, Repr

/-- R117, R147, R148: the level of a zone output. -/
def State.zoneOutput (s : State) (z : ZoneIx) : OutputLevel :=
  if s.powered && s.supply.condition == .main then
    (if (s.zones[z].energised && !s.engine.held) ^^ s.settings.zonePolarity.getLsbD z then .high else .low)
  else .highImpedance

/-! ### Notices and INT (09) -/

/-- The pending set of a slot; an EMPTY slot has none. -/
def pendingOf (slot : Option Entry) : NoticeSet :=
  match slot with
  | some e => e.pending
  | none => 0

/-- R152: the groups pending. -/
def State.pendingGroups (s : State) : Nat :=
  ((List.finRange 48).filter fun n => pendingOf s.table[n] != 0).length + (if s.device = 0 then 0 else 1)

/-- R150: whether the part has a notice pending. -/
def State.noticePending (s : State) : Bool :=
  s.device != 0 || (List.finRange 48).any fun n => pendingOf s.table[n] != 0

/-- R154: whether INT is driven low. In BACKUP, and before a power-up is complete, the driver is unpowered. -/
def State.intLow (s : State) : Bool := s.powered && s.supply.condition == .main && s.noticePending

/-! ### Codes and STATUS (Chapter 11) -/

/-- Table 1 of Chapter 11: clock source codes. -/
def Source.code : Source → Nat
  | .internal => 0
  | .crystal => 1
  | .mains50 => 2
  | .mains60 => 3

/-- R163, R168: STATUS. -/
def State.status (s : State) : Byte :=
  byteOf (bitAt s.iface.busy 0 + bitAt (s.engine.mode == .live) 1 + bitAt s.timeValid 2 + bitAt s.site.valid 3
    + bitAt s.noticePending 4 + 32 * s.timebase.active.code)

/-- Table 5 of Chapter 11: result codes. -/
def ResultCode.code : ResultCode → Nat
  | .none => 0
  | .ok => 1
  | .unknownCommand => 2
  | .badIndex => 3
  | .emptySlot => 4
  | .occupied => 5
  | .invalidField => 6
  | .entryProtected => 7
  | .active => 8
  | .inUse => 9
  | .badLink => 10
  | .wrongState => 11
  | .engineNotLive => 12
  | .notSuspended => 13
  | .locked => 14
  | .noConfig => 15
  | .overBudget => 16
  | .zoneBusy => 17
  | .nothing => 18

/-- R157, R158: the byte that a read of the register window gives at an address. -/
def State.windowByte (s : State) (address : Nat) : Byte :=
  if address < 0x30 then s.iface.buffer.read address
  else if address = 0x30 then 0
  else if address = 0x31 then byteOf s.iface.result.code
  else if address = 0x32 then s.status
  else s.iface.detail

end Sys2Proof.Machine
end

