-- ==== Sys2Proof/Machine/Operands.lean ====
section
/-! DEFINITION. The records that pass through the transfer buffer (Chapter 11): how each is read, checked and written. -/

namespace Sys2Proof.Machine

/-! ### Reading the buffer -/

/-- The byte of the transfer buffer at an offset, as a number. -/
def State.input (s : State) (offset : Nat) : Nat := (s.iface.buffer.read offset).toNat

/-- R2: the entry named by byte 0x00; none for an index of 48 or more. -/
def State.namedEntry (s : State) : Option EntryIx :=
  if h : s.input 0 < 48 then some ⟨s.input 0, h⟩ else none

/-- R165: the lowest offset at which something is wrong, of offsets listed in rising order. -/
def firstBad (checks : List (Nat × Bool)) : Option Nat := (checks.find? fun c => c.2).map fun c => c.1

/-! ### The entry record (R166, Table 2 of Chapter 11) -/

/-- Table 1 of Chapter 11: kinds. -/
def Kind.ofCode (c : Nat) : Kind :=
  match c % 4 with
  | 0 => .calendar
  | 1 => .pattern
  | 2 => .follow
  | _ => .manual

/-- Table 1 of Chapter 11: kinds. -/
def Kind.code : Kind → Nat
  | .calendar => 0
  | .pattern => 1
  | .follow => 2
  | .manual => 3

/-- Table 1 of Chapter 11: units. Code 3 is unassigned; a record that holds it is refused before this is used (R11). -/
def RunUnit.ofCode (c : Nat) : RunUnit :=
  match c with
  | 0 => .seconds
  | 1 => .minutes
  | _ => .pulses

/-- Table 1 of Chapter 11: units. -/
def RunUnit.code : RunUnit → Nat
  | .seconds => 0
  | .minutes => 1
  | .pulses => 2

/-- Table 1 of Chapter 11: signal specs. Codes 6 to 15 are unassigned and refused before this is used (R11). -/
def Spec.ofCode (c : Nat) : Spec :=
  match c with
  | 0 => .ignore
  | 1 => .low
  | 2 => .high
  | 3 => .change
  | 4 => .fall
  | _ => .rise

/-- Table 1 of Chapter 11: signal specs. -/
def Spec.code : Spec → Nat
  | .ignore => 0
  | .low => 1
  | .high => 2
  | .change => 3
  | .fall => 4
  | .rise => 5

/-- Table 1 of Chapter 11: entry states. -/
def Phase.code : Phase → Nat
  | .armed => 1
  | .held => 2
  | .due _ => 3
  | .running _ => 4
  | .paused _ => 5
  | .confirming => 6
  | .spent => 7

/-- Table 1 of Chapter 11: outcomes; 0 is absent. -/
def EntryOutcome.code : EntryOutcome → Nat
  | .completed => 1
  | .aborted => 2
  | .capped => 3
  | .stopped => 4
  | .skipped => 5
  | .blocked => 6
  | .interrupted => 7

/-- R165: the calendar value any is 0xFF. -/
def fieldOfByte (v : Nat) : Option Nat := if v = 0xFF then none else some v

/-- R165: the calendar value any is 0xFF. -/
def byteOfField (v : Option Nat) : Byte := byteOf (v.getD 0xFF)

/-- Table 2 of Chapter 11: the spec code of signal `i`. -/
def specCode (r : Nat → Nat) (i : Nat) : Nat := (r (0x13 + i / 2) >>> (4 * (i % 2))) % 16

/-- Bit `k` of a byte of a record. -/
def bitOf (v k : Nat) : Bool := v.testBit k

/-- The definition part that bytes 0x02 to 0x1B of an entry record give (Table 2 of Chapter 11). Used only on a record that
R11 accepts, so an unassigned code never reaches it. -/
def Definition.ofRecord (r : Nat → Nat) : Definition where
  tag := byteOf (r 0x02)
  kind := Kind.ofCode (r 0x03)
  calendarMatch :=
    { second := fieldOfByte (r 0x05)
      minute := fieldOfByte (r 0x06)
      hour := fieldOfByte (r 0x07)
      date := fieldOfByte (r 0x08)
      month := fieldOfByte (r 0x09)
      weekdays := BitVec.ofNat 7 (r 0x0A) }
  source := Fin.ofNat 48 (r 0x0B % 64)
  followOn := if bitOf (r 0x0B) 6 then .anyEnd else .completedOnly
  pattern :=
    { present := bitOf (r 0x12) 0
      combine := if bitOf (r 0x12) 1 then .any else .all
      sense := if bitOf (r 0x12) 2 then .level else .edge
      specs := Vector.ofFn fun i => Spec.ofCode (specCode r i) }
  permitMode := if bitOf (r 0x03) 6 then .abort else .gate
  rep := if bitOf (r 0x03) 2 then .recurring else .once
  confirm := if bitOf (r 0x03) 3 then .required else .notNeeded
  retrigger := if bitOf (r 0x03) 4 then .restart else .ignore
  priority := Fin.ofNat 8 (r 0x04)
  preempt := bitOf (r 0x03) 5
  claim := BitVec.ofNat 16 (r 0x0C + 256 * r 0x0D)
  duration := r 0x0E + 256 * r 0x0F
  unit := RunUnit.ofCode (r 0x04 / 8 % 4)
  pulseSource := Fin.ofNat 8 (r 0x04 / 32)
  cap := r 0x11
  waitLimit := r 0x10
  notify := BitVec.ofNat 5 (r 0x1B)

/-- R8: the held bit, read by LOAD alone. -/
def heldBit (r : Nat → Nat) : Bool := bitOf (r 0x03) 7

/-- A calendar value of a record that is neither any nor in `lo` to `hi` (R4). -/
def fieldOutOfRange (v lo hi : Nat) : Bool := v != 0xFF && !(lo ≤ v && v ≤ hi)

/-- R11: a date and a month both given, and the date never occurs in that month; 29 February is accepted. -/
def impossibleDate (date month : Nat) : Bool :=
  date != 0xFF && month != 0xFF
    && ((date == 31 && (month == 4 || month == 6 || month == 9 || month == 11 || month == 2))
        || (date == 30 && month == 2))

/-- R11: whether a record's pattern may hold no transition spec: it is a permit, or the trigger of a LEVEL-sense PATTERN
entry. -/
def transitionsForbidden (r : Nat → Nat) : Bool :=
  bitOf (r 0x12) 0 && (Kind.ofCode (r 0x03) != .pattern || bitOf (r 0x12) 2)

/-- R11, R165: whether spec byte 0x13 + k offends: an unassigned code, present or absent (R166), or a transition spec where
none is allowed. -/
def specByteBad (r : Nat → Nat) (k : Nat) : Bool :=
  [2 * k, 2 * k + 1].any fun i =>
    6 ≤ specCode r i || (transitionsForbidden r && 3 ≤ specCode r i)

/-- R11: the checks of the definition part, by rising offset. -/
def definitionChecks (r : Nat → Nat) : List (Nat × Bool) :=
  let notCalendar := Kind.ofCode (r 0x03) != .calendar
  let given := fun v : Nat => notCalendar && v != 0xFF
  [ (0x04, r 0x04 / 8 % 4 == 3)
  , (0x05, fieldOutOfRange (r 0x05) 0 59 || given (r 0x05))
  , (0x06, fieldOutOfRange (r 0x06) 0 59 || given (r 0x06))
  , (0x07, fieldOutOfRange (r 0x07) 0 23 || given (r 0x07))
  , (0x08, fieldOutOfRange (r 0x08) 1 31 || impossibleDate (r 0x08) (r 0x09) || given (r 0x08))
  , (0x09, fieldOutOfRange (r 0x09) 1 12 || given (r 0x09))
  , (0x0A, r 0x0A % 128 == 0 || (notCalendar && r 0x0A % 128 != 127))
  , (0x0B, 48 ≤ r 0x0B % 64)
  , (0x0E, r 0x0E + 256 * r 0x0F == 0)
  , (0x11, r 0x11 != 0 && r 0x04 / 8 % 4 != 2)
  , (0x12, (Kind.ofCode (r 0x03) == .pattern && !bitOf (r 0x12) 0)
           || (bitOf (r 0x12) 0 && (List.range 16).all fun i => specCode r i == 0))
  , (0x13, specByteBad r 0)
  , (0x14, specByteBad r 1)
  , (0x15, specByteBad r 2)
  , (0x16, specByteBad r 3)
  , (0x17, specByteBad r 4)
  , (0x18, specByteBad r 5)
  , (0x19, specByteBad r 6)
  , (0x1A, specByteBad r 7) ]

/-- R11: the offset of the lowest offending field of a record, if any. -/
def definitionFault (r : Nat → Nat) : Option Nat := firstBad (definitionChecks r)

/-- Bytes 0x02 to 0x1B of the entry record of a definition, with the held bit 0. -/
def Definition.bytes (d : Definition) : List Byte :=
  let specByte := fun k : Fin 8 =>
    byteOf (d.pattern.specs[2 * k.val].code + 16 * d.pattern.specs[2 * k.val + 1].code)
  [ d.tag
  , byteOf (d.kind.code + bitAt (d.rep == .recurring) 2 + bitAt (d.confirm == .required) 3
      + bitAt (d.retrigger == .restart) 4 + bitAt d.preempt 5 + bitAt (d.permitMode == .abort) 6)
  , byteOf (d.priority.val + 8 * d.unit.code + 32 * d.pulseSource.val)
  , byteOfField d.calendarMatch.second
  , byteOfField d.calendarMatch.minute
  , byteOfField d.calendarMatch.hour
  , byteOfField d.calendarMatch.date
  , byteOfField d.calendarMatch.month
  , byteOf d.calendarMatch.weekdays.toNat
  , byteOf (d.source.val + bitAt (d.followOn == .anyEnd) 6)
  , byteAt d.claim.toNat 0
  , byteAt d.claim.toNat 1
  , byteAt d.duration 0
  , byteAt d.duration 1
  , byteOf d.waitLimit
  , byteOf d.cap
  , byteOf (bitAt d.pattern.present 0 + bitAt (d.pattern.combine == .any) 1 + bitAt (d.pattern.sense == .level) 2) ]
  ++ (List.finRange 8).map specByte
  ++ [byteOf d.notify.toNat]

/-- R166: the run counter, or the remaining of a victim, at offset 0x1C. -/
def Phase.counterField : Phase → Nat
  | .running r | .paused r => r.counter
  | .due w => w.remaining.getD 0
  | .armed | .held | .confirming | .spent => 0

/-- The run state of a RUNNING or PAUSED entry. -/
def Phase.run : Phase → Option RunState
  | .running r | .paused r => some r
  | .armed | .held | .due _ | .confirming | .spent => none

/-- The wait of a DUE entry. -/
def Phase.wait : Phase → Option WaitState
  | .due w => some w
  | .armed | .held | .running _ | .paused _ | .confirming | .spent => none

/-- Table 2 of Chapter 11, offset 0x2C: the presence flags. -/
def Entry.presence (e : Entry) : Nat :=
  bitAt e.phase.run.isSome 0
    + bitAt (e.phase.run.bind fun r => r.subMinute).isSome 1
    + bitAt (e.phase.wait.bind fun w => w.remaining).isSome 2
    + bitAt e.phase.wait.isSome 3
    + bitAt (e.phase.run.bind fun r => r.capCount).isSome 4
    + bitAt e.lastOutcome.isSome 5
    + bitAt e.lastStart.isSome 6
    + bitAt e.snapshot.isSome 7

/-- R165: the six bytes of a last start stamp; each is 0xFF when it is absent. -/
def stampBytes (stamp : Option Calendar) : List Byte :=
  match stamp with
  | some c => [byteOf c.second, byteOf c.minute, byteOf c.hour, byteOf c.date, byteOf c.month, byteOf c.year]
  | none => List.replicate 6 0xFF

/-- R126: an entry's turn position, counted from 0 at the head. -/
def State.turnPosition (s : State) (n : EntryIx) : Nat := s.turn.idxOf n

/-- R18, R166: the record image of a slot. -/
def State.entryImage (s : State) (n : EntryIx) : List Byte :=
  match s.table[n] with
  | none => [byteOf n.val]
  | some e =>
    [byteOf n.val, byteOf e.phase.code]
    ++ e.defn.bytes
    ++ [ byteAt e.phase.counterField 0
       , byteAt e.phase.counterField 1
       , byteOf ((e.phase.wait.map fun w => w.elapsed).getD 0)
       , byteOf (((e.phase.run.bind fun r => r.capCount).map fun c => c.elapsed).getD 0)
       , byteOf ((e.phase.run.bind fun r => r.subMinute).getD 0)
       , byteOf ((e.lastOutcome.map fun o => o.code).getD 0) ]
    ++ stampBytes e.lastStart
    ++ [ byteAt (e.snapshot.getD 0).toNat 0
       , byteAt (e.snapshot.getD 0).toNat 1
       , byteOf e.pending.toNat
       , byteOf (s.turnPosition n)
       , byteOf e.presence ]

/-! ### The other records (R167, Table 3 of Chapter 11) -/

/-- The FIND result: a set of entries and an owner, 0xFF for none. -/
def findResult (set : EntrySet) (owner : Option EntryIx) : List Byte :=
  (List.range 6).map (byteAt set.toNat) ++ [byteOf ((owner.map fun n => n.val).getD 0xFF)]

/-- The time record that SET TIME reads (R61). -/
def Calendar.ofRecord (r : Nat → Nat) : Calendar where
  second := r 0
  minute := r 1
  hour := r 2
  date := r 3
  month := r 4
  year := r 5

/-- R61: the checks of SET TIME, by rising offset. The date is measured against the month and the year of the record also where one of
these is out of range: a month out of range counts 31 days, and a year of 100 or more that is divisible by 4 counts as a leap year
(notes/assumptions/24.md). -/
def timeChecks (r : Nat → Nat) : List (Nat × Bool) :=
  [ (0, 60 ≤ r 0)
  , (1, 60 ≤ r 1)
  , (2, 24 ≤ r 2)
  , (3, r 3 == 0 || daysInMonth (r 4) (r 5) < r 3)
  , (4, r 4 == 0 || 13 ≤ r 4)
  , (5, 100 ≤ r 5) ]

/-- The time record (R66). -/
def State.timeRecord (s : State) : List Byte :=
  let c := s.calendar
  [ byteOf c.second, byteOf c.minute, byteOf c.hour, byteOf c.date, byteOf c.month, byteOf c.year
  , byteOf (weekday c), byteOf (bitAt s.timeValid 0) ]

/-- The configuration that CONFIGURE reads (R141). -/
def SiteConfig.ofRecord (r : Nat → Nat) : SiteConfig where
  budget := r 0
  crystalCode := r 1
  rests := Vector.ofFn fun z => r (2 + z.val)
  zonePolarity := BitVec.ofNat 16 (r 0x12 + 256 * r 0x13)
  sensorPolarity := BitVec.ofNat 8 (r 0x14)
  latchModes := BitVec.ofNat 8 (r 0x15)
  filterCodes := BitVec.ofNat 16 (r 0x16 + 256 * r 0x17)

/-- R142, R167: the checks of CONFIGURE, by rising offset. -/
def configChecks (r : Nat → Nat) : List (Nat × Bool) :=
  [(0, r 0 == 0 || 16 < r 0), (1, 4 < r 1)] ++ (List.range 16).map fun z => (2 + z, decide (60 < r (2 + z)))

/-- Table 3 of Chapter 11: the 24 bytes of the configuration record, with the cold values while the configuration is not valid. -/
def State.configImage (s : State) : List Byte :=
  let c := s.settings
  [byteOf c.budget, byteOf c.crystalCode]
  ++ (List.finRange 16).map (fun z => byteOf c.rests[z])
  ++ [ byteAt c.zonePolarity.toNat 0, byteAt c.zonePolarity.toNat 1
     , c.sensorPolarity, c.latchModes
     , byteAt c.filterCodes.toNat 0, byteAt c.filterCodes.toNat 1 ]

/-- R144: the configuration record together with its flags, as READ CONFIG returns it. -/
def State.configRecord (s : State) : List Byte :=
  s.configImage ++ [byteOf (bitAt s.site.valid 0 + bitAt s.site.lock 1)]

/-- Table 3 of Chapter 11: the state byte of a zone in the zone snapshot. -/
def Zone.code : Zone → Nat
  | .ownedOn n => n.val
  | .ownedOff n _ => 0x40 + n.val
  | .free => 0x80
  | .resting _ => 0x81
  | .manualOn => 0x82
  | .manualOff _ => 0x83

/-- R123: the zone snapshot. -/
def State.zoneSnapshot (s : State) : List Byte :=
  (List.finRange 16).flatMap (fun z => [byteOf s.zones[z].code, byteOf (s.zones[z].rest.getD 0)])
  ++ [byteOf s.engaged]

/-- R71, R72: the good cycles a candidate's check requires; INTERNAL needs no check (R70). -/
def goodRequired (c : Source) (code : Nat) : Nat :=
  match c with
  | .internal => 0
  | .crystal => 2 ^ (11 + code)
  | .mains50 => 100
  | .mains60 => 120

/-- R80: the crystal code byte of a candidate; 0xFF unless it is the crystal. -/
def crystalCodeByte (c : Source) (code : Nat) : Byte := if c = .crystal then byteOf code else 0xFF

/-- R80: the whole seconds of internal time since a check began, 0 to 2. -/
def Check.seconds (c : Check) : Nat := min 2 (c.elapsed / (1000 * cyclesPerMs))

/-- R80: the clock record. -/
def State.clockRecord (s : State) : List Byte :=
  [byteOf s.timebase.active.code] ++
  match s.timebase.selector with
  | .steady => [0, 0xFF, 0, 0, 0, 0xFF]
  | .starting c =>
    [1, byteOf c.source.code, byteAt c.good 0, byteAt c.good 1, byteOf c.seconds, crystalCodeByte c.source c.code]
  | .ready c code _ =>
    [2, byteOf c.code, byteAt (goodRequired c code) 0, byteAt (goodRequired c code) 1, 0, crystalCodeByte c code]

/-- R70: the source a code names. -/
def Source.ofCode (c : Nat) : Option Source :=
  match c with
  | 0 => some .internal
  | 1 => some .crystal
  | 2 => some .mains50
  | 3 => some .mains60
  | _ => none

/-- R81: the signal record. -/
def State.signalRecord (s : State) : List Byte :=
  [ byteAt s.levels.toNat 0
  , byteAt s.levels.toNat 1
  , bitsOf 8 fun i => if h : i < 8 then s.sensors[i].accepted else false
  , bitsOf 8 fun i => if h : i < 8 then s.sensors[i].latch else false ]

/-- R152: the notice record of an entry group. -/
def entryNoticeRecord (n : EntryIx) (e : Entry) : List Byte :=
  [ byteOf n.val, byteOf e.pending.toNat, e.defn.tag, byteOf e.phase.code
  , byteOf ((e.lastOutcome.map fun o => o.code).getD 0) ]

/-- R152: the notice record of the device group. -/
def deviceNoticeRecord (set : DeviceSet) : List Byte := [0xFF, byteOf set.toNat, 0, 0, 0]

end Sys2Proof.Machine
end

