-- ==== Sys2Proof/Machine/Ops.lean ====
section
/-! DEFINITION. The shared operations over the state: an arrival applied to entries and zones, the walks and follow events it
leaves, the grant walk, change events, the Timebase's moves, and the completion of a command. -/

namespace Sys2Proof.Machine

/-! ### Zones (07, section 7.2) -/

/-- R119: starting a rest; a rest time of 0 starts none. -/
def startRest (restTime : Nat) : Option Nat := if restTime = 0 then none else some restTime

/-- R120, Release. -/
def Zone.release (restTime : Nat) : Zone → Zone
  | .ownedOn _ => if restTime = 0 then .free else .resting restTime
  | .ownedOff _ (some r) => .resting r
  | .ownedOff _ none => .free
  | .free => .free
  | .resting r => .resting r
  | .manualOn => .manualOn
  | .manualOff r => .manualOff r

/-- R120, Pause. -/
def Zone.pause (restTime : Nat) : Zone → Zone
  | .ownedOn n => .ownedOff n (startRest restTime)
  | .ownedOff n r => .ownedOff n r
  | .free => .free
  | .resting r => .resting r
  | .manualOn => .manualOn
  | .manualOff r => .manualOff r

/-- R120, Resume. -/
def Zone.resume : Zone → Zone
  | .ownedOff n none => .ownedOn n
  | .ownedOff n (some r) => .ownedOff n (some r)
  | .ownedOn n => .ownedOn n
  | .free => .free
  | .resting r => .resting r
  | .manualOn => .manualOn
  | .manualOff r => .manualOff r

/-- R120: what an effect does to one zone of the claim set. -/
def ZoneEffect.apply (x : ZoneEffect) (restTime : Nat) (z : Zone) : Zone :=
  match x with
  | .keep => z
  | .release => z.release restTime
  | .pause => z.pause restTime
  | .resume => z.resume

/-- R119: one counted second of a rest; at its end the zone acts by its state. -/
def Zone.countRest (ownerRunning : Bool) : Zone → Zone
  | .resting r => if r ≤ 1 then .free else .resting (r - 1)
  | .ownedOff n (some r) =>
    if r ≤ 1 then (if ownerRunning then .ownedOn n else .ownedOff n none) else .ownedOff n (some (r - 1))
  | .manualOff (some r) => if r ≤ 1 then .manualOff none else .manualOff (some (r - 1))
  | .ownedOff n none => .ownedOff n none
  | .manualOff none => .manualOff none
  | .free => .free
  | .ownedOn n => .ownedOn n
  | .manualOn => .manualOn

/-- Whether the entry of a slot is RUNNING. -/
def slotRunning (slot : Option Entry) : Bool :=
  match slot with
  | some e => match e.phase with
    | .running _ => true
    | .armed | .held | .due _ | .paused _ | .confirming | .spent => false
  | none => false

/-- Whether the owner of a zone, if any, is RUNNING. -/
def State.ownerRunning (s : State) (z : Zone) : Bool :=
  match z.owner with
  | some n => slotRunning s.table[n]
  | none => false

/-- Whether some zone has become FREE from one set of zone records to another (R127). -/
def someZoneFreed (before after : Vector Zone 16) : Bool :=
  (List.finRange 16).any fun z => before[z] != .free && after[z] == .free

/-! ### One arrival at the table (log 6, log 10) -/

/-- The state an arrival leaves, and for each entry it ended or walked for, the walk it causes and the follow events it hands
on. -/
structure Arrival where
  state : State
  groups : List FollowGroup
deriving DecidableEq, Repr

/-- An arrival with no walk and no follow event. -/
def Arrival.quiet (s : State) : Arrival := { state := s, groups := [] }

/-- A further part of the same arrival. -/
def Arrival.andThen (a : Arrival) (f : State → Arrival) : Arrival :=
  let b := f a.state
  { state := b.state, groups := a.groups ++ b.groups }

/-- R112: whether an entry accepts the end of `source` with outcome `o`. -/
def Entry.follows (e : Entry) (source : EntryIx) (o : EntryOutcome) : Bool :=
  e.defn.kind == .follow && e.defn.source == source
    && (match e.defn.followOn with
        | .completedOnly => o == .completed
        | .anyEnd => o.isEnd)

/-- Whether the entry of a slot accepts the end of `source` with outcome `o`. -/
def slotFollows (slot : Option Entry) (source : EntryIx) (o : EntryOutcome) : Bool :=
  match slot with
  | some e => e.follows source o
  | none => false

/-- R112: the follow events of one resolution. -/
def State.followLinks (s : State) (source : EntryIx) (o : EntryOutcome) : List FollowLink :=
  ((List.finRange 48).filter fun n => slotFollows s.table[n] source o).map fun n =>
    { source := source, follower := n }

/-- What `f` does at each occupied slot. -/
def State.effectAt (s : State) (f : EntryIx → Entry → Effect) (n : EntryIx) : Option Effect :=
  s.table[n].map (f n)

/-- The effect that reaches zone `z`: that of an entry whose claim set holds it and whose zones move. -/
def zoneEffectOf (effects : List Effect) (z : ZoneIx) : ZoneEffect :=
  match effects.find? fun x => x.entry.defn.claim.getLsbD z.val with
  | some x => x.zones
  | none => .keep

/-- The walk an entry's effect causes by itself, and the fall of the engaged count at a release (R120, R127). -/
def Effect.causesWalk (x : Effect) : Bool :=
  x.walk || (x.zones == .release && x.entry.defn.claim != 0)

/-- The walk and the follow events that the effect at entry `n` leaves. -/
def State.effectGroup (s : State) (n : EntryIx) (x : Effect) : FollowGroup where
  walk := x.causesWalk
  events := match x.ended with
    | some o => s.followLinks n o
    | none => []

/-- One arrival at the entries: each occupied slot takes `f`, the claimed zones move as it says (R120), and the walks and the
follow events it causes are handed on. -/
def State.apply (s : State) (f : EntryIx → Entry → Effect) : Arrival :=
  let effects := (List.finRange 48).filterMap fun n => (s.effectAt f n).map fun x => (n, x)
  let moving := (effects.filter fun x => x.2.zones != .keep).map fun x => x.2
  { state :=
      { s with
        table := Vector.ofFn fun n => (s.effectAt f n).map fun x => x.entry
        zones := Vector.ofFn fun z => (zoneEffectOf moving z).apply (s.restTime z) s.zones[z] }
    groups := (effects.map fun x => s.effectGroup x.1 x.2).filter fun g => g.walk || g.events != [] }

/-- An arrival at one entry. -/
def State.applyAt (s : State) (n : EntryIx) (f : Entry → Effect) : Arrival :=
  s.apply fun m e => if m = n then f e else Effect.only e

/-- The slot of one entry replaced. -/
def State.putEntry (s : State) (n : EntryIx) (e : Option Entry) : State :=
  { s with table := s.table.set n e }

/-- The record of one zone replaced. -/
def State.putZone (s : State) (z : ZoneIx) (x : Zone) : State := { s with zones := s.zones.set z x }

/-- The record of one sensor replaced. -/
def State.putSensor (s : State) (k : SensorIx) (x : Sensor) : State := { s with sensors := s.sensors.set k x }

/-- `k` more walks caused (R127). -/
def State.oweWalks (s : State) (k : Nat) : State := { s with owed := { s.owed with walks := s.owed.walks + k } }

/-- R113, R128: a group's walk is caused at once when no follow event of it is on its way; otherwise it waits for the last. -/
def State.oweGroup (s : State) (g : FollowGroup) : State :=
  if g.events = [] then s.oweWalks (if g.walk then 1 else 0)
  else { s with owed := { s.owed with follows := s.owed.follows ++ [g] } }

/-- R128: the walks of one arrival are made as one walk, after its effects and its follow events. -/
def Arrival.asOne (a : Arrival) : State :=
  a.state.oweGroup
    { walk := a.groups.any fun g => g.walk
      events := a.groups.flatMap fun g => g.events }

/-- R128: what a counter that the second event under way reaches early causes is kept for that second event's one walk. -/
def Arrival.underway (a : Arrival) (entries : EntrySet) (zones : ZoneSet) : State :=
  let u := a.state.owed.underway
  { a.state with owed :=
      { a.state.owed with underway :=
          { entries := u.entries ||| entries
            zones := u.zones ||| zones
            group :=
              { walk := u.group.walk || a.groups.any fun g => g.walk
                events := u.group.events ++ a.groups.flatMap fun g => g.events } } } }

/-- R103: where each entry takes an arrival of its own, each resolution has its own walk (R113). -/
def Arrival.each (a : Arrival) : State := a.groups.foldl State.oweGroup a.state

/-- A walk that an arrival causes beside those of its entries. -/
def Arrival.walkIf (a : Arrival) (b : Bool) : Arrival :=
  if b then { a with groups := a.groups ++ [{ walk := true, events := [] }] } else a

/-! ### Arrivals that stop being on their way (log 7) -/

/-- The engine stops being LIVE or is held: nothing on its way reaches an entry any more (R25, R148). The counters that the
second event under way has reached stay reached. -/
def State.dropArrivals (s : State) : State :=
  { s with owed :=
      { s.owed with
        triggers := []
        transitions := []
        pulses := []
        follows := []
        walks := 0
        underway := { s.owed.underway with group := { walk := false, events := [] } } } }

/-- The follow events to entry `n` taken out of a group. -/
def FollowGroup.without (g : FollowGroup) (n : EntryIx) : FollowGroup :=
  { g with events := g.events.filter fun l => l.follower != n }

/-- The set with one entry. -/
def entryBit (n : EntryIx) : EntrySet := 1#48 <<< n.val

/-- The set with one zone. -/
def zoneBit (z : ZoneIx) : ZoneSet := 1#16 <<< z.val

/-- The follow groups with the follow events to entry `n` taken out. -/
def groupsWithout (n : EntryIx) (groups : List FollowGroup) : List FollowGroup := groups.map fun g => g.without n

/-- How many walks of `groups` waited only for follow events to entry `n`. -/
def walksLeftBy (n : EntryIx) (groups : List FollowGroup) : Nat :=
  ((groupsWithout n groups).filter fun g => g.events == [] && g.walk).length

/-- The follow events on their way to entry `n` dropped (R42: "Ends resolved while it was HELD are not replayed"). A group left
without a follow event makes its walk. -/
def State.dropFollowsTo (s : State) (n : EntryIx) : State :=
  { s with owed :=
      { s.owed with
        follows := (groupsWithout n s.owed.follows).filter fun g => g.events != []
        walks := s.owed.walks + walksLeftBy n s.owed.follows
        underway := { s.owed.underway with group := s.owed.underway.group.without n } } }

/-- R21: "the trigger reaches an EMPTY slot and is lost"; so are the other arrivals on their way to a retired entry. -/
def State.dropArrivalsTo (s : State) (n : EntryIx) : State :=
  let x := s.dropFollowsTo n
  { x with owed :=
      { x.owed with
        triggers := s.owed.triggers.filter fun t => t.entry != n
        transitions := s.owed.transitions.filter fun t => t.entry != n
        pulses := s.owed.pulses.map fun p => { p with reached := p.reached ||| entryBit n }
        underway := { x.owed.underway with entries := s.owed.underway.entries &&& ~~~(entryBit n) } } }

/-- The permit transitions on their way to entry `n` taken out: a later one has been delivered (notes/assumptions/12.md). -/
def State.dropTransitionsTo (s : State) (n : EntryIx) : State :=
  { s with owed := { s.owed with transitions := s.owed.transitions.filter fun t => t.entry != n } }

/-- The first follow group that holds `l`, with `l` taken out of it and `walk` added to its own; the second part says whether
the group is finished and its walk is now caused. -/
def takeFollow (l : FollowLink) (walk : Bool) : List FollowGroup → List FollowGroup × Bool
  | [] => ([], false)
  | g :: rest =>
    if g.events.contains l then
      (if g.events.erase l = [] then (rest, g.walk || walk)
       else ({ walk := g.walk || walk, events := g.events.erase l } :: rest, false))
    else (g :: (takeFollow l walk rest).1, (takeFollow l walk rest).2)

/-- A follow event of the second event under way taken. A follower that it makes DUE, which causes a walk, does not count that
second event (R134). -/
def Underway.take (u : Underway) (l : FollowLink) (walk : Bool) : Underway :=
  { u with
    entries := if walk then u.entries ||| entryBit l.follower else u.entries
    group := { walk := u.group.walk || walk, events := u.group.events.erase l } }

/-- R113: the follow event `l` is taken out of those on their way; the walk of its group is caused with its last one. Of two from one source
to one follower, that of the second event under way comes first, and otherwise the one handed on first, which is the model's choice
(notes/assumptions/34.md). -/
def State.takeLink (s : State) (l : FollowLink) (walk : Bool) : State :=
  if s.owed.underway.group.events.contains l then
    { s with owed := { s.owed with underway := s.owed.underway.take l walk } }
  else
    let taken := takeFollow l walk s.owed.follows
    { s with owed :=
        { s.owed with
          follows := taken.1
          walks := s.owed.walks + if taken.2 then 1 else 0 } }

/-- The follow events on their way. -/
def State.links (s : State) : List FollowLink := (s.owed.underway.group :: s.owed.follows).flatMap fun g => g.events

/-- Whether the follow event `l` is on its way. -/
def State.linkOnItsWay (s : State) (l : FollowLink) : Bool := s.links.contains l

/-- R113: the follow event `l` reaches its follower, and is taken or dropped there. -/
def State.deliverLink (s : State) (l : FollowLink) : State :=
  let a := s.applyAt l.follower (Entry.followEvent s.view)
  a.state.takeLink l (a.groups.any fun g => g.walk)

/-- Follow events one after another. -/
def State.deliverLinks (s : State) (links : List FollowLink) : State := links.foldl State.deliverLink s

/-- R114: the follow event of an entry that follows itself "reaches the entry in the next state that the resolution has left it in",
so it comes before any command moves the entry on. -/
def State.settleSelf (s : State) : State := s.deliverLinks (s.links.filter fun l => l.source == l.follower)

/-! ### Grant walks (07, section 7.6) -/

/-- Whether the slot holds a DUE entry of priority `p`. -/
def slotDueAt (slot : Option Entry) (p : Fin 8) : Bool :=
  match slot with
  | some e => (match e.phase with
    | .due _ => true
    | .armed | .held | .running _ | .paused _ | .confirming | .spent => false) && e.defn.priority == p
  | none => false

/-- R129: selection order, priority 7 first and 0 last, and in the turn order among equals. -/
def State.selection (s : State) : List EntryIx :=
  (List.finRange 8).reverse.flatMap fun p => s.turn.filter fun n => slotDueAt s.table[n] p

/-- R128: the permit a walk reads is the stored permit value. -/
def Entry.walkPermit (e : Entry) : Bool := e.storedPermit.getD true

/-- The zones of a claim set. -/
def claimed (claim : ZoneSet) : List ZoneIx := (List.finRange 16).filter fun z => claim.getLsbD z.val

/-- R129: whether a visited entry is grantable. -/
def State.grantable (s : State) (e : Entry) : Bool :=
  e.walkPermit && ((claimed e.defn.claim).all fun z => s.zones[z] == .free)
    && s.engaged + setSize e.defn.claim ≤ s.budget

/-- R99, R120, R126: a grant. -/
def State.grant (s : State) (n : EntryIx) (e : Entry) (w : WaitState) : State :=
  { s with
    table := s.table.set n (some (e.granted w s.calendar))
    zones := Vector.ofFn fun z => if e.defn.claim.getLsbD z.val then .ownedOn n else s.zones[z]
    turn := s.turn.erase n ++ [n] }

/-- Whether the entry of a slot stands strictly below a priority. -/
def slotBelow (slot : Option Entry) (p : Fin 8) : Bool :=
  match slot with
  | some e => e.defn.priority < p
  | none => false

/-- The claim set of a slot. -/
def slotClaim (slot : Option Entry) : ZoneSet :=
  match slot with
  | some e => e.defn.claim
  | none => 0

/-- R130: a claimed zone that does not fail the preemption test. -/
def State.zoneTakeable (s : State) (e : Entry) (z : ZoneIx) : Bool :=
  match s.zones[z] with
  | .free => true
  | .ownedOn o | .ownedOff o _ => slotBelow s.table[o] e.defn.priority
  | .resting _ | .manualOn | .manualOff _ => false

/-- R130: the owners of the claimed zones. -/
def State.victims (s : State) (e : Entry) : List EntryIx :=
  (List.finRange 48).filter fun o => (claimed e.defn.claim).any fun z => s.zones[z].owner == some o

/-- R130: the preemption test. An entry with no victims fails it. -/
def State.mayPreempt (s : State) (e : Entry) : Bool :=
  e.defn.preempt && e.walkPermit && ((claimed e.defn.claim).all fun z => s.zoneTakeable e z)
    && s.victims e != []
    && s.engaged + setSize e.defn.claim
        ≤ s.budget + ((s.victims e).map fun o => setSize (slotClaim s.table[o])).sum

/-- R131: a preemption. The fall of the engaged count causes no walk; a zone that becomes FREE at once causes one. -/
def State.preempt (s : State) (victims : List EntryIx) : State :=
  let after := (s.apply fun n e => if victims.contains n then e.victimised else Effect.only e).state
  after.oweWalks (if someZoneFreed s.zones after.zones then 1 else 0)

/-- R129: one pass over the entries in selection order; it ends after the last or at a preemption. -/
def walkOver : List EntryIx → State → State
  | [], s => s
  | n :: rest, s =>
    match s.table[n] with
    | none => walkOver rest s
    | some e =>
      match e.phase with
      | .due w =>
        if s.grantable e then walkOver rest (s.grant n e w)
        else if s.mayPreempt e then s.preempt (s.victims e)
        else walkOver rest s
      | .armed | .held | .running _ | .paused _ | .confirming | .spent => walkOver rest s

/-- R128: one walk. -/
def State.walk (s : State) : State := walkOver s.selection s

/-- GRANT_WALK: one of the walks caused, where the engine takes arrivals. It may come between a resolution of another cause and the last of
that resolution's follow events, which is the model's choice (notes/assumptions/38.md). -/
def State.makeWalk (s : State) : State :=
  if s.takesArrivals && 0 < s.owed.walks then
    ({ s with owed := { s.owed with walks := s.owed.walks - 1 } } : State).walk
  else s

/-- As many walks one after another. -/
def State.makeWalks (s : State) : Nat → State
  | 0 => s
  | k + 1 => s.makeWalk.makeWalks k

/-! ### Change events (05, section 5.3) -/

/-- R89: the stored values replaced by the evaluation at an event. -/
def Entry.storeAt (levels changed : Levels) (e : Entry) : Entry :=
  { e with
    storedPattern := e.defn.patternValue levels changed
    storedPermit := e.defn.permitValue levels changed }

/-- R90, R91: whether a change event hands the entry a pattern trigger. -/
def Entry.triggeredAt (levels changed : Levels) (e : Entry) : Bool :=
  e.defn.kind == .pattern && e.defn.pattern.satisfied levels changed
    && (match e.defn.pattern.sense with
        | .edge => e.defn.pattern.hasTransition || !(e.storedPattern.getD false)
        | .level => e.phase.isArmed)

/-- R92: the permit transition that a change event hands the entry. -/
def Entry.transitionAt (levels changed : Levels) (e : Entry) : Option Bool :=
  match e.storedPermit, e.defn.permitValue levels changed with
  | some old, some new => if old = new then none else some new
  | _, _ => none

/-- R87 to R92: a change event, from the signal levels that stood before it. Triggers arise only while the engine is LIVE
(R25); a held engine takes no permit transition (R148). -/
def State.changeEvent (s : State) (before : Levels) : State :=
  let levels := s.levels
  let changed := before ^^^ levels
  if changed = 0 then s
  else
    let occupied := (List.finRange 48).filterMap fun n => s.table[n].map fun e => (n, e)
    let triggers := (occupied.filter fun x => x.2.triggeredAt levels changed).map fun x =>
      ({ entry := x.1, levels := levels } : PatternTrigger)
    let transitions := occupied.filterMap fun x =>
      (x.2.transitionAt levels changed).map fun v => ({ entry := x.1, value := v } : PermitTransition)
    { s with
      table := Vector.ofFn fun n => s.table[n].map fun e => e.storeAt levels changed
      owed :=
        { s.owed with
          triggers := s.owed.triggers ++ (if s.isLive then triggers else [])
          transitions := s.owed.transitions ++ (if s.takesArrivals then transitions else []) } }

/-- R83, R84, R95: a level of sensor `k` is accepted. A rise of the signal is a change event and a pulse edge. -/
def State.accept (s : State) (k : SensorIx) (level : Bool) : State :=
  let old := s.sensors[k]
  let new : Sensor :=
    { old with accepted := level, filter := none, latch := old.latch || (level && s.latchMode k) }
  let after := (s.putSensor k new).changeEvent s.levels
  if !old.level && new.level && s.takesArrivals then
    { after with owed := { after.owed with pulses := after.owed.pulses ++ [{ sensor := k, reached := 0 }] } }
  else after

/-- R83: the pin is compared with the accepted level: a period starts, goes on, is abandoned, or with filter time 0 the level is
accepted at once. A pin that returns while the acceptance of a full period still waits abandons the period
(notes/assumptions/29.md). -/
def State.watchPin (s : State) (k : SensorIx) : State :=
  let x := s.sensors[k]
  let level := s.pinLevel k
  if level = x.accepted then s.putSensor k { x with filter := none }
  else if s.filterTime k = 0 then s.accept k level
  else if x.filter.isSome then s
  else s.putSensor k { x with filter := some { candidate := level, held := 0 } }

/-- Every latch cleared, as one change event (R96, R97). -/
def State.clearAllLatches (s : State) : State :=
  { s with sensors := Vector.ofFn fun k => { s.sensors[k] with latch := false } }

/-! ### The Timebase (04) -/

/-- R67, Table 1 of Chapter 4: the prescaler divisor of a source. -/
def Source.divisor : Source → Nat
  | .internal => 32000
  | .crystal => 32768
  | .mains50 => 50
  | .mains60 => 60

/-- MAINS50 or MAINS60. -/
def Source.isMains : Source → Bool
  | .mains50 | .mains60 => true
  | .internal | .crystal => false

/-- R76: the time without a cycle after which the activity watch judges a source failed: 1 ms for the crystal, 60 ms for
mains. INTERNAL is not watched. -/
def Source.watchLimit : Source → Nat
  | .crystal => cyclesPerMs
  | .mains50 | .mains60 => 60 * cyclesPerMs
  | .internal => 0

/-- R69: the candidate. -/
def Selector.candidate : Selector → Option Source
  | .steady => none
  | .starting c => some c.source
  | .ready c _ _ => some c

/-- The bits of the device notice categories (Chapter 11). -/
def noticeColdStart : DeviceSet := 1
/-- SUPPLY_RETURN. -/
def noticeSupplyReturn : DeviceSet := 2
/-- CLOCK_FAULT. -/
def noticeClockFault : DeviceSet := 4
/-- CLOCK_SWITCHED. -/
def noticeClockSwitched : DeviceSet := 8

/-- R150: a device category is added; device notices are not gated. -/
def State.report (s : State) (c : DeviceSet) : State := { s with device := s.device ||| c }

/-- R75: the crystal oscillator runs while CRYSTAL is the active source or the candidate. -/
def Timebase.withOscillator (t : Timebase) : Timebase :=
  { t with crystalRunning := t.active == .crystal || t.selector.candidate == some .crystal }

/-- R74: a READY candidate becomes active; the outgoing source's second ends there. `quiet` still counts from the new source's last cycle, and
that a fault before its next one counts the position from the switch is the model's choice (notes/assumptions/40.md). -/
def Timebase.switchTo (t : Timebase) (c : Source) (quiet : Nat) : Timebase :=
  ({ t with
    active := c
    selector := .steady
    prescaler := 0
    sincePrescaler := 0
    quiet := quiet } : Timebase).withOscillator

/-- `k` more second events raised, which the counters have yet to take (R68). -/
def State.oweSeconds (s : State) (k : Nat) : State :=
  { s with owed := { s.owed with seconds := s.owed.seconds + k } }

/-- R67, R74: the cycle that brings the prescaler to its divisor raises a second event, and a READY candidate becomes active at
it. -/
def State.raiseSecond (s : State) : State :=
  match s.timebase.selector with
  | .ready c _ quiet =>
    (({ s with timebase := s.timebase.switchTo c quiet } : State).report noticeClockSwitched).oweSeconds 1
  | .steady | .starting _ =>
    ({ s with timebase := { s.timebase with prescaler := 0, sincePrescaler := 0, quiet := 0 } } : State).oweSeconds 1

/-- R73: a candidate fails. -/
def State.failCandidate (s : State) : State :=
  ({ s with timebase := ({ s.timebase with selector := .steady } : Timebase).withOscillator } : State).report
    noticeClockFault

/-- R76: the count of the internal prescaler at the position that `count` of `divisor` is; where it is no whole number of
internal cycles its rounding is a free value (notes/assumptions/8.md). -/
def takenPosition (count divisor : Nat) : Nat :=
  count * 32000 / divisor
    + (if count * 32000 % divisor = 0 then 0 else if Config.fallbackRoundsUp count divisor then 1 else 0)

/-- R76: INTERNAL takes over from the active source, `elapsed` internal cycles after the prescaler last moved. A whole second
reached is a second event raised at the fallback. Where the source has delivered no cycle since its switch, the time counts from the switch,
which is the model's choice (notes/assumptions/40.md). -/
def State.fallback (s : State) (elapsed : Nat) : State :=
  let t := s.timebase
  let position := takenPosition t.prescaler t.active.divisor + elapsed
  let selector := if t.selector.candidate = some .internal then Selector.steady else t.selector
  let moved : Timebase :=
    { t with
      active := .internal
      selector := selector
      prescaler := position % 32000
      sincePrescaler := 0
      quiet := 0 }
  (({ s with timebase := moved.withOscillator } : State).report noticeClockFault).oweSeconds (position / 32000)

/-- The model's counter moves on. -/
def State.nextTick (s : State) : State := { s with ticks := s.ticks + 1 }

/-- The order of a second event that the Timebase raises by itself: free values of the model's counter (R60, R119). -/
def State.orderNow (s : State) : SecondOrder where
  matchFirst := Config.matchFirst s.ticks
  restFirst := Config.restFirst s.ticks

/-! ### The Command Interface (10, section 10.2) -/

/-- R161: a completion: the buffer takes the output, RESULT and DETAIL their values, BUSY is cleared. -/
def State.complete (s : State) (result : ResultCode) (detail : Byte) (output : Option (List Byte)) : State :=
  { s with iface :=
      { s.iface with
        buffer := match output with
          | some bytes => Memory.ofRecord bytes
          | none => s.iface.buffer
        code := none
        busy := false
        result := result
        detail := detail } }

/-- A refusal (R164), or a result with no output: the buffer stays as the host wrote it. -/
def State.refuse (s : State) (result : ResultCode) (detail : Byte) : State := s.complete result detail none

/-- Whether the command in progress has this code (R161). -/
def State.inProgress (s : State) (code : Byte) : Bool := s.iface.busy && s.iface.code == some code

/-- R161: the completion of the command with this code, if it is the one in progress (notes/assumptions/2.md). -/
def onCompletion (code : Byte) (f : State → State) (s : State) : State := if s.inProgress code then f s else s

/-- A command that may move entries on. It finds each entry as its own follow event leaves it (R114). -/
def onEntryMove (code : Byte) (f : State → State) (s : State) : State := onCompletion code (fun x => f x.settleSelf) s

/-- R22: entries 0 to B-1 are protected. -/
def State.isProtected (s : State) (n : EntryIx) : Bool := n.val < s.boundary

/-- R2: a command that names one entry. -/
def State.onNamed (s : State) (f : EntryIx → State) : State :=
  match s.namedEntry with
  | some n => f n
  | none => s.refuse .badIndex 0

/-- R22: a command that a protected entry refuses, with DETAIL set to B. -/
def State.unlessProtected (s : State) (n : EntryIx) (f : State) : State :=
  if s.isProtected n then s.refuse .entryProtected (byteOf s.boundary) else f

/-- A command that an EMPTY slot refuses, with DETAIL 0x00. -/
def State.onOccupied (s : State) (n : EntryIx) (f : Entry → State) : State :=
  match s.table[n] with
  | some e => f e
  | none => s.refuse .emptySlot 0

/-- R39: a lifecycle command taken: OK, DETAIL 0, and the entry's image after the change. -/
def State.completeWithImage (s : State) (n : EntryIx) : State := s.complete .ok 0 (some (s.entryImage n))

/-- R39: WRONG_STATE, with the code of the entry's state in DETAIL. -/
def State.wrongState (s : State) (e : Entry) : State := s.refuse .wrongState (byteOf e.phase.code)

/-- The set of the entries of which `p` holds. -/
def State.entriesWhere (s : State) (p : Entry → Bool) : EntrySet :=
  bitsOf 48 fun i => if h : i < 48 then (s.table[i].map p).getD false else false

/-- R34: every DUE, RUNNING and PAUSED entry is resolved with one outcome. -/
def State.resolveActive (s : State) (o : EntryOutcome) : Arrival :=
  s.apply fun _ e => if e.phase.isActive then e.resolve s.view o else Effect.only e

/-- R47: every ARMED entry reaches a LEVEL re-check point. -/
def State.recheckAll (s : State) : Arrival := s.apply fun _ e => e.recheck s.view

/-- The row's effect as the outcome of a step. -/
def done (s : State) : Host.Outcome State Fault Refusal := .next s

end Sys2Proof.Machine
end

