-- ==== Sys2Proof/Machine/Bus.lean ====
section
/-! DEFINITION. The two-wire bus: bytes, conditions, the beginning of a command, and UNKNOWN_COMMAND (10). -/

namespace Sys2Proof.Machine

/-- What the part drives on SDA in answer. -/
def State.answer (s : State) (r : BusReply) : State := { s with iface := { s.iface with reply := r } }

/-- The transaction's place. -/
def State.enterPhase (s : State) (p : BusPhase) : State := { s with iface := { s.iface with phase := p } }

/-- R157: the pointer advances by 1, from 0x33 to 0x00. -/
def State.advancePointer (s : State) : State :=
  { s with iface := { s.iface with pointer := s.iface.pointer + 1 } }

/-- R156: while the bus is ignored nothing is driven and no interface state changes. -/
def State.onBus (s : State) (f : State) : State := if s.busHeard then f else s.answer .released

/-- R157, R160: a byte is NACKed, and so is every further byte of its transaction. -/
def State.nackRest (s : State) : State := (s.answer .nack).enterPhase .nacking

/-- R157: a pointer byte at the place where one comes. -/
def State.pointerByte (s : State) (b : Byte) : State :=
  if h : b.toNat < 52 then
    (({ s with iface := { s.iface with pointer := ⟨b.toNat, h⟩ } } : State).answer .ack).enterPhase .writing
  else s.nackRest

/-- POINTER_BYTE (R156, R157). -/
def execPointerByte (b : Byte) (s : State) : Host.Outcome State Fault Refusal :=
  done (s.onBus (match s.iface.phase with
    | .awaitPointer => s.pointerByte b
    | .nacking => s.answer .nack
    | .closed | .ignored => s.answer .released
    | .writing | .reading => s))

/-- R157 to R160: a byte written to the transfer buffer. -/
def State.bufferByte (s : State) (b : Byte) : State :=
  if s.iface.busy then s.nackRest
  else
    ({ s with iface := { s.iface with buffer := s.iface.buffer.write s.iface.pointer.val b } } : State).advancePointer.answer
      .ack

/-- TRANSFER_BUFFER_WRITE (R156 to R158, R160). -/
def execTransferBufferWrite (b : Byte) (s : State) : Host.Outcome State Fault Refusal :=
  done (s.onBus (match s.iface.phase with
    | .writing => if s.iface.pointer.val < 0x30 then s.bufferByte b else s
    | .nacking => s.answer .nack
    | .closed | .ignored => s.answer .released
    | .awaitPointer | .reading => s))

/-- R159, R160: a byte written to COMMAND; the last code taken in a transaction begins. -/
def State.commandByte (s : State) (b : Byte) : State :=
  if s.iface.busy then s.nackRest
  else ({ s with iface := { s.iface with code := some b } } : State).advancePointer.answer .ack

/-- COMMAND_WRITE (R156, R159, R160). -/
def execCommandWrite (b : Byte) (s : State) : Host.Outcome State Fault Refusal :=
  done (s.onBus (match s.iface.phase with
    | .writing => if s.iface.pointer.val = 0x30 then s.commandByte b else s
    | .nacking => s.answer .nack
    | .closed | .ignored => s.answer .released
    | .awaitPointer | .reading => s))

/-- IGNORED_REGISTER_WRITE (R156, R158): a byte written to RESULT, STATUS or DETAIL, whatever it is. -/
def execIgnoredRegisterWrite (_b : Byte) (s : State) : Host.Outcome State Fault Refusal :=
  done (s.onBus (match s.iface.phase with
    | .writing => if 0x30 < s.iface.pointer.val then s.advancePointer.answer .ack else s
    | .nacking => s.answer .nack
    | .closed | .ignored => s.answer .released
    | .awaitPointer | .reading => s))

/-- R159: the code taken begins, and BUSY is set. -/
def State.begin (s : State) : State :=
  if s.iface.code.isSome then { s with iface := { s.iface with busy := true } } else s

/-- COMMAND_BEGIN (R159). -/
def execCommandBegin (s : State) : Host.Outcome State Fault Refusal := done (s.onBus s.begin)

/-- BYTE_READ (R157, R158, R160, R163): the byte at the pointer goes out. -/
def execByteRead (s : State) : Host.Outcome State Fault Refusal :=
  done (s.onBus (match s.iface.phase with
    | .reading => (s.answer (.byte (s.windowByte s.iface.pointer.val))).advancePointer
    | .closed | .ignored => s.answer .released
    | .awaitPointer | .writing | .nacking => s))

/-- R156: the bus address at a level of ADR. -/
def busAddress (adr : Bool) : BitVec 7 := if adr then 0x2F else 0x2E

/-- R156, R157: what a bus condition does to the transaction. ADR is sampled at the address byte. -/
def State.condition (s : State) (c : BusCondition) : State :=
  match c with
  | .stop => (s.enterPhase .closed).answer .released
  | .start adr address read =>
    let sampled : State := { s with pins := { s.pins with adr := adr } }
    if address = busAddress adr then
      (sampled.enterPhase (if read then .reading else .awaitPointer)).answer .ack
    else (sampled.enterPhase .ignored).answer .released

/-- BUS_START_OR_STOP (R156 to R160). A byte cut off by the condition, whatever its bits so far, is discarded and leaves nothing;
the condition begins a code taken. -/
def execBusStartOrStop (c : BusCondition) (_cut : Nat) (s : State) : Host.Outcome State Fault Refusal :=
  done (s.onBus (s.begin.condition c))

/-- R168, Table 4 of Chapter 11: the assigned command codes. -/
def assignedCodes : List Byte :=
  [0x10, 0x11, 0x12, 0x13, 0x14, 0x18, 0x20, 0x21, 0x22, 0x23, 0x24, 0x25, 0x26,
   0x30, 0x31, 0x38, 0x39, 0x40, 0x41, 0x48, 0x49, 0x50, 0x51, 0x52, 0x53, 0x60]

/-- UNKNOWN_COMMAND (R161, R168): DETAIL holds the code. -/
def execUnknownCommand (s : State) : Host.Outcome State Fault Refusal :=
  done (match s.iface.code with
    | some code => if s.iface.busy && !assignedCodes.contains code then s.refuse .unknownCommand code else s
    | none => s)

end Sys2Proof.Machine
end

