-- ==== Sys2Proof/Machine/Clock.lean ====
section
/-! DEFINITION. The calendar's commands and the second event: SET TIME, READ TIME, SECOND_EVENT (03, 04, 06, 07). -/

namespace Sys2Proof.Machine

/-- READ TIME (R66). -/
def execReadTime (s : State) : Host.Outcome State Fault Refusal :=
  done (onCompletion 0x31 (fun s => s.complete .ok 0 (some s.timeRecord)) s)

/-! ### The second event -/

/-- R119: the zones whose rest is running. -/
def State.restingZones (s : State) : ZoneSet :=
  bitsOf 16 fun i => if h : i < 16 then s.zones[i].rest.isSome else false

/-- R119: the second event reaches the rests of a set of zones. -/
def State.countRests (s : State) (set : ZoneSet) : Arrival :=
  let zones : Vector Zone 16 := Vector.ofFn fun z =>
    if set.getLsbD z.val then s.zones[z].countRest (s.ownerRunning s.zones[z]) else s.zones[z]
  (Arrival.quiet { s with zones := zones }).walkIf (someZoneFreed s.zones zones)

/-- R57 to R60, R101, R102, R104, R134, R135: the second event reaches every entry, by its match and by its counts. `reached`
are the entries whose counts it has reached already. -/
def State.countEntries (s : State) (matchFirst reached : EntrySet) : Arrival :=
  s.apply fun n e =>
    e.secondEvent s.view (s.isLive && s.timeValid && e.defn.kind == .calendar && e.defn.calendarMatch.matchesTime s.calendar)
      (matchFirst.getLsbD n.val) (reached.getLsbD n.val)

/-- One second event counted: the calendar advances, and unless the engine is held the rests, the entries and the remaining
rests take it, with one walk after all of it (R128). -/
def State.countSecond (s : State) (order : SecondOrder) : State :=
  let under := s.owed.underway
  let advanced : State :=
    { s with
      calendar := s.calendar.advance
      owed := { s.owed with seconds := s.owed.seconds - 1, underway := Underway.nothing } }
  if advanced.takesArrivals then
    let due := s.restingZones &&& ~~~under.zones
    let counted := ((advanced.countRests (due &&& order.restFirst)).andThen fun x =>
      (x.countEntries order.matchFirst under.entries)).andThen fun x => x.countRests (due &&& ~~~order.restFirst)
    ({ counted with groups := under.group :: counted.groups } : Arrival).asOne
  else advanced

/-- SECOND_EVENT (R55 to R60, R67, R68, R100 to R105, R119, R128, R134, R135): the oldest second event raised and not yet
counted; where none is, the prescaler raises one now. That one is raised for the selector only now too, where it has reached some counter
before, which is the model's choice (notes/assumptions/35.md). -/
def execSecondEvent (order : SecondOrder) (s : State) : Host.Outcome State Fault Refusal :=
  done (if s.powered then
    (if s.owed.seconds = 0 then s.raiseSecond else s).countSecond order
  else s)

/-! ### What comes before a command -/

/-- A second event that has reached some counter already has come before a command that meets it, and is counted whole: it reaches every
other counter and match too (R63, R140; notes/assumptions/9.md). Where it is not raised yet, it is raised now (notes/assumptions/35.md). -/
def State.finishUnderway (s : State) : State :=
  if s.owed.underway = Underway.nothing then s
  else ((if s.owed.seconds = 0 then s.raiseSecond else s).countSecond s.orderNow).nextTick

/-! ### SET TIME -/

/-- Second events that have been raised are counted. -/
def State.countRaised (s : State) : Nat → State
  | 0 => s
  | k + 1 => (s.countSecond s.orderNow).nextTick.countRaised k

/-- R63: the second events that have come before a SET TIME, as they are counted: those raised and not yet counted, and one that has
reached some counter already (notes/assumptions/9.md). Their grant walks stay owed and come after the written time, which is the model's
choice (notes/assumptions/33.md). -/
def State.secondsCome (s : State) : State :=
  s.finishUnderway.countRaised s.finishUnderway.owed.seconds

/-- R62, R78: the calendar takes the written time, and the active prescaler returns to count 0. -/
def State.setTime (s : State) (c : Calendar) : State :=
  { s with
    calendar := c
    timeValid := true
    timebase := { s.timebase with prescaler := 0, sincePrescaler := 0 } }

/-- SET TIME (R61 to R63, R78). A second event that came first advances the old time and is counted, and the written time then replaces
that time (R63). -/
def execSetTime (s : State) : Host.Outcome State Fault Refusal :=
  done (onCompletion 0x30 (fun s =>
    match firstBad (timeChecks s.input) with
    | some offset => s.refuse .invalidField (byteOf offset)
    | none =>
      let after := s.secondsCome.setTime (Calendar.ofRecord s.input)
      after.complete .ok 0 (some after.timeRecord)) s)

end Sys2Proof.Machine
end

