-- ==== Sys2Proof/Machine/Engine.lean ====
section
/-! DEFINITION. The engine's modes and the configuration: CONFIGURE, READ CONFIG, ENGINE START and ENGINE SUSPEND (08). -/

namespace Sys2Proof.Machine

/-- R82, R143: every sensor under a new polarity, its latch clear and its filter idle. -/
def State.conditionAfresh (s : State) : State :=
  { s with sensors := Vector.ofFn fun k =>
      { s.sensors[k] with accepted := s.pinLevel k, latch := false, filter := none } }

/-- R124: every zone FREE. -/
def allFree : Vector Zone 16 := Vector.replicate 16 .free

/-- R143: a CONFIGURE that passes its checks. -/
def State.configure (s : State) (c : SiteConfig) : State :=
  let set : State := { s with site := { config := c, valid := true, lock := true }, zones := allFree }
  ((Arrival.quiet (set.conditionAfresh.changeEvent s.levels)).walkIf (someZoneFreed s.zones allFree)).asOne

/-- CONFIGURE (R82, R124, R142, R143). Its output is the configuration record without the flags, which are "READ CONFIG only"
(Table 3 of Chapter 11) and so 0 here (R165; notes/assumptions/30.md). -/
def execConfigure (s : State) : Host.Outcome State Fault Refusal :=
  done (onCompletion 0x50 (fun s =>
    if s.engine.mode = .live then s.refuse .notSuspended 0
    else if s.site.lock then s.refuse .locked 0
    else
      match firstBad (configChecks s.input) with
      | some offset => s.refuse .invalidField (byteOf offset)
      | none =>
        let after := s.configure (SiteConfig.ofRecord s.input)
        after.complete .ok 0 (some after.configImage)) s)

/-- READ CONFIG (R144). -/
def execReadConfig (s : State) : Host.Outcome State Fault Refusal :=
  done (onCompletion 0x51 (fun s => s.complete .ok 0 (some s.configRecord)) s)

/-- The engine mode replaced. -/
def State.setMode (s : State) (m : Mode) : State := { s with engine := { s.engine with mode := m } }

/-- R138, R146: the engine is LIVE, every ARMED entry is re-checked, and one walk is caused. -/
def State.goLive (s : State) : State := (s.recheckAll.walkIf true).asOne

/-- ENGINE START (R138). A second event that has reached some counter has come first, and its time is not offered (R140). One that is raised
and has reached no counter comes after it, and is offered (notes/assumptions/9.md). The walk of the one counted first stays owed
(notes/assumptions/33.md), and so does a walk caused while the engine was not LIVE (notes/assumptions/39.md). -/
def execEngineStart (s : State) : Host.Outcome State Fault Refusal :=
  done (onCompletion 0x52 (fun s =>
    if s.engine.mode = .live then s.complete .ok 0 (some (findResult 0 none))
    else if s.site.valid then
      let live := s.finishUnderway.setMode .live
      let set := live.entriesWhere (Entry.recheckTakes live.view)
      live.goLive.complete .ok (byteOf (setSize set)) (some (findResult set none))
    else s.refuse .noConfig 0) s)

/-- R140: what came before the engine leaves LIVE is finished in LIVE. A second event that has reached some counter "is matched, counted
and its walk made"; the follow events on their way reach their followers; and the walks caused by then are made, after all of it (R128). -/
def State.settleEnds (s : State) : State :=
  let counted := s.finishUnderway
  let delivered := counted.deliverLinks counted.links
  delivered.makeWalks delivered.owed.walks

/-- ENGINE SUSPEND (R139). What came before it is finished in LIVE first (R140). A second event that is raised and has reached no counter
yet comes after it, and is counted by no run (notes/assumptions/9.md). -/
def execEngineSuspend (s : State) : Host.Outcome State Fault Refusal :=
  done (onCompletion 0x53 (fun s =>
    if s.engine.mode = .live then
      let x := s.settleEnds
      let set := x.entriesWhere fun e => e.phase.isActive
      ((x.setMode .suspended).dropArrivals.resolveActive .stopped).asOne.complete .ok
        (byteOf (setSize set)) (some (findResult set none))
    else s.complete .ok 0 (some (findResult 0 none))) s)

end Sys2Proof.Machine
end

