-- ==== Sys2Proof/Machine/Lifecycle.lean ====
section
/-! DEFINITION. The lifecycle commands: HOLD, RELEASE, REARM, START, STOP, CONFIRM and CONFIRM FIRST (02). -/

namespace Sys2Proof.Machine

/-- R39: a lifecycle command that passes its checks acts on its entry; the image is taken after its change and before the walk
that follows. -/
def State.moveEntry (s : State) (n : EntryIx) (f : Entry → Effect) : State :=
  (s.applyAt n f).asOne.completeWithImage n

/-- R39 to R41: what HOLD does at an entry, by its state; none where the state does not accept it. -/
def Entry.held? (v : View) (e : Entry) : Option Effect :=
  match e.phase with
  | .armed | .confirming => some (Effect.only { e with phase := .held })
  | .due _ | .running _ | .paused _ => some (e.holdActive v)
  | .held | .spent => none

/-- HOLD (R39 to R41). -/
def execHold (s : State) : Host.Outcome State Fault Refusal :=
  done (onEntryMove 0x20 (fun s =>
    s.onNamed fun n =>
      s.unlessProtected n
        (s.onOccupied n fun e =>
          match e.held? s.view with
          | some x => s.moveEntry n fun _ => x
          | none => s.wrongState e)) s)

/-- RELEASE (R39, R42). The follow events on their way are of ends resolved before it, so none of them reaches the entry after it. A
pattern trigger on its way stays there and finds the entry ARMED (R25; notes/assumptions/31.md). A second event that has reached some other
counter, and not yet the calendar, is the next one for a CALENDAR entry, which is the model's choice (notes/assumptions/36.md). -/
def execRelease (s : State) : Host.Outcome State Fault Refusal :=
  done (onEntryMove 0x21 (fun s =>
    s.onNamed fun n =>
      s.unlessProtected n
        (s.onOccupied n fun e =>
          if e.phase = .held then (s.dropFollowsTo n).moveEntry n (Entry.arm s.view) else s.wrongState e)) s)

/-- REARM (R39, R43). -/
def execRearm (s : State) : Host.Outcome State Fault Refusal :=
  done (onEntryMove 0x22 (fun s =>
    s.onNamed fun n =>
      s.unlessProtected n
        (s.onOccupied n fun e =>
          if e.phase = .spent then s.moveEntry n (Entry.arm s.view) else s.wrongState e)) s)

/-- START (R39, R44). No protection check; the trigger makes the snapshot absent. -/
def execStart (s : State) : Host.Outcome State Fault Refusal :=
  done (onEntryMove 0x23 (fun s =>
    s.onNamed fun n =>
      s.onOccupied n fun e =>
        if !s.isLive then s.refuse .engineNotLive 0
        else if e.phase = .armed then s.moveEntry n (Entry.trigger s.view s.levels none)
        else s.wrongState e) s)

/-- STOP (R39, R45). No protection check. -/
def execStop (s : State) : Host.Outcome State Fault Refusal :=
  done (onEntryMove 0x24 (fun s =>
    s.onNamed fun n =>
      s.onOccupied n fun e =>
        if e.phase.isActive then s.moveEntry n (Entry.resolve s.view .stopped) else s.wrongState e) s)

/-- R36: whether CONFIRM takes an entry. -/
def Entry.confirmedBy (tag : Byte) (e : Entry) : Bool := e.phase == .confirming && e.defn.tag == tag

/-- CONFIRM (R36). -/
def execConfirm (s : State) : Host.Outcome State Fault Refusal :=
  done (onEntryMove 0x25 (fun s =>
    let tag := byteOf (s.input 0)
    let set := s.entriesWhere (Entry.confirmedBy tag)
    if set = 0 then s.refuse .nothing 0
    else
      (s.apply fun _ e => if e.confirmedBy tag then e.confirmed s.view else Effect.only e).asOne.complete .ok
        (byteOf (setSize set)) (some (findResult set none))) s)

/-- Whether the slot holds a CONFIRMING entry of priority `p`. -/
def slotConfirmingAt (slot : Option Entry) (p : Fin 8) : Bool :=
  match slot with
  | some e => e.phase == .confirming && e.defn.priority == p
  | none => false

/-- R37: the CONFIRMING entries, highest priority first and in the turn order among equals. -/
def State.confirmOrder (s : State) : List EntryIx :=
  (List.finRange 8).reverse.flatMap fun p => s.turn.filter fun n => slotConfirmingAt s.table[n] p

/-- CONFIRM FIRST (R37). -/
def execConfirmFirst (s : State) : Host.Outcome State Fault Refusal :=
  done (onEntryMove 0x26 (fun s =>
    match s.confirmOrder with
    | n :: _ =>
      let after := (s.applyAt n (Entry.confirmed s.view)).asOne
      after.complete .ok (byteOf n.val) (some (after.entryImage n))
    | [] => s.refuse .nothing 0) s)

end Sys2Proof.Machine
end

