-- ==== Sys2Proof/Machine/Notices.lean ====
section
/-! DEFINITION. The Notice Unit: NEXT NOTICE (09). -/

namespace Sys2Proof.Machine

/-- Whether the slot holds an entry of priority `p` with a notice pending. -/
def slotPendingAt (slot : Option Entry) (p : Fin 8) : Bool :=
  match slot with
  | some e => e.pending != 0 && e.defn.priority == p
  | none => false

/-- R151: the entries with a notice pending, highest priority first and lowest index first among equals. -/
def State.noticeOrder (s : State) : List EntryIx :=
  (List.finRange 8).reverse.flatMap fun p => (List.finRange 48).filter fun n => slotPendingAt s.table[n] p

/-- R151, R152: the group of an entry returned and cleared. -/
def State.giveEntryGroup (s : State) (n : EntryIx) (e : Entry) : State :=
  let after := s.putEntry n (some { e with pending := 0 })
  after.complete .ok (byteOf after.pendingGroups) (some (entryNoticeRecord n e))

/-- R151, R152: the device group returned and cleared. -/
def State.giveDeviceGroup (s : State) : State :=
  let after := { s with device := 0 }
  after.complete .ok (byteOf after.pendingGroups) (some (deviceNoticeRecord s.device))

/-- NEXT NOTICE (R151, R152). -/
def execNextNotice (s : State) : Host.Outcome State Fault Refusal :=
  done (onCompletion 0x60 (fun s =>
    if s.device != 0 then s.giveDeviceGroup
    else
      match s.noticeOrder with
      | n :: _ => (match s.table[n] with
        | some e => s.giveEntryGroup n e
        | none => s.refuse .nothing 0)
      | [] => s.refuse .nothing 0) s)

end Sys2Proof.Machine
end

