-- ==== Sys2Proof/Machine/Runs.lean ====
section
/-! DEFINITION. The arrivals at one counter, one follower or the arbiter: RUN_COMPLETED, CAPPED, WAIT_LIMIT_EXPIRY, REST_END,
FOLLOW_EVENT and GRANT_WALK (06, 07). -/

namespace Sys2Proof.Machine

/-- The second event under way has not yet reached the counts of entry `n`. -/
def State.uncounted (s : State) (n : EntryIx) : Bool := !s.owed.underway.entries.getLsbD n.val

/-- The zones whose rest starts from one set of zone records to another. -/
def startedRests (before after : Vector Zone 16) : ZoneSet :=
  bitsOf 16 fun i => if h : i < 16 then before[i].rest.isNone && after[i].rest.isSome else false

/-- The second event under way reaches the counts of entry `n`, and ends its run or wait, ahead of the other counters
(notes/assumptions/5.md). A rest that starts in the resolution does not count that second event (R119). -/
def State.reachCount (s : State) (n : EntryIx) : State :=
  let a := s.applyAt n (Entry.count s.view)
  a.underway (entryBit n) (startedRests s.zones a.state.zones)

/-- The outcome that the second event under way brings about at entry `n`, if any. -/
def State.endingAt (s : State) (n : EntryIx) : Option EntryOutcome :=
  if s.takesArrivals && s.uncounted n then s.table[n].bind Entry.secondEnds else none

/-- R103: whether a pulse edge of sensor `k` ends the run of the entry in a slot. -/
def slotPulseEnds (slot : Option Entry) (k : SensorIx) : Bool :=
  match slot with
  | some e => match e.phase with
    | .running r => e.defn.unit == .pulses && e.defn.pulseSource == k && r.counter ≤ 1
    | .armed | .held | .due _ | .paused _ | .confirming | .spent => false
  | none => false

/-- R103: the first pulse edge on its way that has not reached entry `n` and ends its run, as its place in the queue. -/
def State.endingPulse (s : State) (n : EntryIx) : Option Nat :=
  s.owed.pulses.findIdx? fun p => !p.reached.getLsbD n.val && slotPulseEnds s.table[n] p.sensor

/-- The pulse edge at a place of the queue has reached entry `n`, and that entry alone; a run that it starts through the end of this one
may count it too (notes/assumptions/37.md). -/
def markReached (n : EntryIx) : Nat → List PulseEdge → List PulseEdge
  | _, [] => []
  | 0, p :: rest => { p with reached := p.reached ||| entryBit n } :: rest
  | i + 1, p :: rest => p :: markReached n i rest

/-- R103, R105: a pulse edge ends the run of entry `n`, as an arrival of its own. -/
def State.reachPulse (s : State) (n : EntryIx) (i : Nat) : State :=
  match s.owed.pulses[i]? with
  | some p =>
    ({ s with owed := { s.owed with pulses := markReached n i s.owed.pulses } } : State).applyAt n
      (Entry.pulse s.view p.sensor) |>.asOne
  | none => s

/-- RUN_COMPLETED at entry `n` (R105): by the second event under way, or by a pulse edge on its way. -/
def execRunCompleted (n : EntryIx) (s : State) : Host.Outcome State Fault Refusal :=
  done (if s.endingAt n = some .completed then s.reachCount n
    else if s.takesArrivals then
      (match s.endingPulse n with
      | some i => s.reachPulse n i
      | none => s)
    else s)

/-- CAPPED at entry `n` (R104). -/
def execCapped (n : EntryIx) (s : State) : Host.Outcome State Fault Refusal :=
  done (if s.endingAt n = some .capped then s.reachCount n else s)

/-- Whether the entry of a slot is DUE. -/
def slotDue (slot : Option Entry) : Bool :=
  match slot with
  | some e => e.phase.wait.isSome
  | none => false

/-- WAIT_LIMIT_EXPIRY at entry `n` (R135). -/
def execWaitLimitExpiry (n : EntryIx) (s : State) : Host.Outcome State Fault Refusal :=
  done (if slotDue s.table[n] && (s.endingAt n).isSome then s.reachCount n else s)

/-- R119: whether the next counted second ends the rest of a zone. -/
def Zone.restEnds (z : Zone) : Bool :=
  match z.rest with
  | some r => r ≤ 1
  | none => false

/-- R119: the second event under way ends the rest of zone `z`. -/
def State.endRest (s : State) (z : ZoneIx) : State :=
  let after := s.putZone z (s.zones[z].countRest (s.ownerRunning s.zones[z]))
  ((Arrival.quiet after).walkIf (someZoneFreed s.zones after.zones)).underway 0 (zoneBit z)

/-- REST_END at zone `z` (R119). -/
def execRestEnd (z : ZoneIx) (s : State) : Host.Outcome State Fault Refusal :=
  done (if s.takesArrivals && !s.owed.underway.zones.getLsbD z.val && s.zones[z].restEnds then s.endRest z else s)

/-- FOLLOW_EVENT (R112, R113): the follow event of `source` reaches `follower`. -/
def execFollowEvent (source follower : EntryIx) (s : State) : Host.Outcome State Fault Refusal :=
  let l : FollowLink := { source := source, follower := follower }
  done (if s.linkOnItsWay l then s.deliverLink l else s)

/-- GRANT_WALK (R127 to R133): one walk that has been caused and not yet made. -/
def execGrantWalk (s : State) : Host.Outcome State Fault Refusal := done s.makeWalk

end Sys2Proof.Machine
end

