-- ==== Sys2Proof/Machine/Signals.lean ====
section
/-! DEFINITION. The Signal Conditioner: SET FLAGS, CLEAR LATCHES, the sensors' pins and acceptances, and what a change event hands
to the entries (05). -/

namespace Sys2Proof.Machine

/-- R86: the masked flags take the values given for them. -/
def newFlags (flags value mask : SensorSet) : SensorSet := (flags &&& ~~~mask) ||| (value &&& mask)

/-- SET FLAGS (R86). -/
def execSetFlags (s : State) : Host.Outcome State Fault Refusal :=
  done (onCompletion 0x40 (fun s =>
    let value := byteOf (s.input 0)
    let mask := byteOf (s.input 1)
    let after := ({ s with flags := newFlags s.flags value mask } : State).changeEvent s.levels
    after.complete .ok 0 (some after.signalRecord)) s)

/-- R85: the latches of a set of sensors cleared. -/
def State.clearLatches (s : State) (set : SensorSet) : State :=
  { s with sensors := Vector.ofFn fun k =>
      { s.sensors[k] with latch := s.sensors[k].latch && !set.getLsbD k.val } }

/-- CLEAR LATCHES (R85). -/
def execClearLatches (s : State) : Host.Outcome State Fault Refusal :=
  done (onCompletion 0x41 (fun s =>
    let after := (s.clearLatches (byteOf (s.input 0))).changeEvent s.levels
    after.complete .ok 0 (some after.signalRecord)) s)

/-- R83: the pin of sensor `k` takes a level. -/
def State.setPin (s : State) (k : SensorIx) (level : Bool) : State :=
  s.putSensor k { s.sensors[k] with pin := level }

/-- SENSOR_PIN_CHANGE (R83, R97): in BACKUP the pin moves unwatched. -/
def execSensorPinChange (k : SensorIx) (level : Bool) (s : State) : Host.Outcome State Fault Refusal :=
  let moved := s.setPin k level
  done (if s.watchesPins then moved.watchPin k else moved)

/-- SENSOR_ACCEPTANCE (R83, R84, R87): the filter period of sensor `k` has lasted the filter time. -/
def execSensorAcceptance (k : SensorIx) (s : State) : Host.Outcome State Fault Refusal :=
  done (match s.sensors[k].filter with
    | some p => if s.watchesPins then s.accept k p.candidate else s
    | none => s)

/-- PATTERN_TRIGGER (R25 to R29, R90, R91, R94): the first pattern trigger on its way to entry `n` reaches it. -/
def execPatternTrigger (n : EntryIx) (s : State) : Host.Outcome State Fault Refusal :=
  done (match s.owed.triggers.find? fun t => t.entry == n with
    | some t =>
      (({ s with owed := { s.owed with triggers := s.owed.triggers.erase t } } : State).applyAt n
        (Entry.patternTrigger s.view t.levels)).asOne
    | none => s)

/-- R92, R106 to R108: the first permit transition on its way to entry `n`, if it has the value given, reaches it. -/
def State.takeTransition (s : State) (n : EntryIx) (value : Bool) : State :=
  match s.owed.transitions.find? fun t => t.entry == n with
  | some t =>
    if t.value = value then
      (({ s with owed := { s.owed with transitions := s.owed.transitions.erase t } } : State).applyAt n
        (Entry.permitTransition s.view value)).asOne
    else s
  | none => s

/-- PERMIT_FALSE (R92, R106, R107, R133). -/
def execPermitFalse (n : EntryIx) (s : State) : Host.Outcome State Fault Refusal := done (s.takeTransition n false)

/-- PERMIT_TRUE (R92, R108, R127, R133). -/
def execPermitTrue (n : EntryIx) (s : State) : Host.Outcome State Fault Refusal := done (s.takeTransition n true)

/-- R95, R103: a pulse edge reaches every entry it has not reached. It counts also for a run that started after the edge was made, and
through an end that the same edge has brought about, which is the model's choice (notes/assumptions/37.md). -/
def State.deliverPulse (s : State) (p : PulseEdge) : Arrival :=
  s.apply fun n e => if p.reached.getLsbD n.val then Effect.only e else e.pulse s.view p.sensor

/-- PULSE_EDGE (R95, R103): the first pulse edge of sensor `k` on its way reaches the entries, each as an arrival of its own. -/
def execPulseEdge (k : SensorIx) (s : State) : Host.Outcome State Fault Refusal :=
  done (match s.owed.pulses.find? fun p => p.sensor == k with
    | some p => (({ s with owed := { s.owed with pulses := s.owed.pulses.erase p } } : State).deliverPulse p).each
    | none => s)

end Sys2Proof.Machine
end

