-- ==== Sys2Proof/Machine/Supply.lean ====
section
/-! DEFINITION. The Supply Monitor and the RESET line: entry to BACKUP, dips, the return, cold start, the loss of the retention
mark, and the assertion and release of RESET (08, sections 8.4 to 8.6). -/

namespace Sys2Proof.Machine

/-- R159, R162: a command taken and not completed is not taken; the bus is ignored from here on. An open transaction is closed here:
bytes of it that come after the fresh start are not answered until a START (notes/assumptions/13.md). -/
def State.cutInterface (s : State) : State :=
  { s with iface := { s.iface with code := none, busy := false, phase := .closed, reply := .released } }

/-- R162: the interface starts fresh. -/
def State.freshInterface (s : State) : State := { s with iface := Interface.fresh }

/-- R125: the zone records in BACKUP. -/
def Zone.inBackup : Zone → Zone
  | .manualOff _ => .manualOff none
  | .free | .resting _ | .ownedOn _ | .ownedOff _ _ | .manualOn => .free

/-- R77: an active mains source falls back and a mains candidate fails. Before the first cycle after a switch the position counts from the
switch, which is the model's choice (notes/assumptions/40.md). -/
def State.loseMains (s : State) : State :=
  let fallen := if s.timebase.active.isMains then s.fallback s.timebase.sincePrescaler else s
  match fallen.timebase.selector.candidate with
  | some c => if c.isMains then fallen.failCandidate else fallen
  | none => fallen

/-- R97: the filter periods abandoned. -/
def State.abandonFilters (s : State) : State :=
  { s with sensors := Vector.ofFn fun k => { s.sensors[k] with filter := none } }

/-- R137: the mode that an entry to BACKUP remembers. -/
def Mode.remembered (m : Mode) (old : RunMode) : RunMode :=
  match m with
  | .suspended => .suspended
  | .live => .live
  | .backup => old

/-- R145, step 1: the supply condition and the engine mode. -/
def State.enterBattery (s : State) : State :=
  { s with
    supply := { s.supply with condition := .battery, qualification := 0 }
    engine := { s.engine with mode := .backup, remembered := s.engine.mode.remembered s.engine.remembered } }

/-- R125: the zone records of BACKUP. -/
def State.zonesInBackup (s : State) : State := { s with zones := Vector.ofFn fun z => s.zones[z].inBackup }

/-- ENTRY_TO_BACKUP (R34, R77, R97, R125, R145, R162). The zones that it makes FREE cause no walk (notes/assumptions/39.md). -/
def execEntryToBackup (s : State) : Host.Outcome State Fault Refusal :=
  done (if s.powered && s.supply.condition == .main then
    (s.enterBattery.dropArrivals.resolveActive .interrupted).state.zonesInBackup.loseMains.abandonFilters.cutInterface
  else s)

/-- SUPPLY_DIP (R146, R147): VDD falls to 2.8 V or below while it is being qualified. -/
def execSupplyDip (s : State) : Host.Outcome State Fault Refusal :=
  done (if s.supply.condition == .battery || !s.powered then
    { s with supply := { s.supply with qualification := 0 } }
  else s)

/-- Every notice, device and entry, cleared (R149). -/
def State.clearNotices (s : State) : State :=
  { s with
    device := 0
    table := Vector.ofFn fun n => s.table[n].map fun e => { e with pending := 0 } }

/-- R96, R149: every soft flag 0 and every latch clear, as one change event. -/
def State.clearSignals (s : State) : State :=
  ({ s with flags := 0 } : State).clearAllLatches.changeEvent s.levels

/-- The engine is no longer held. -/
def State.unhold (s : State) : State := { s with engine := { s.engine with held := false } }

/-- R141: the configuration lock cleared. -/
def State.unlock (s : State) : State := { s with site := { s.site with lock := false } }

/-- R149: the release of the RESET line. The zones that it makes FREE cause no walk, since nothing is DUE (notes/assumptions/39.md). -/
def State.release (s : State) : State :=
  let resolved := ((s.setMode .suspended).dropArrivals.resolveActive .interrupted).state
  ({ resolved with zones := allFree } : State).unhold.unlock.clearSignals.clearNotices.freshInterface

/-- R97, steps 1 and 2: the events of the conditioner at the return: every latch cleared as one change event, then each pin
compared with its accepted level, the sensors of `first` before the others. A pin compared twice is as one compared once. -/
def wakeEvents (first : List SensorIx) : List (State → State) :=
  (fun s => s.clearAllLatches.changeEvent s.levels) :: (first ++ List.finRange 8).map fun k s => s.watchPin k

/-- Events one after another. -/
def State.through (s : State) (events : List (State → State)) : State := events.foldl (fun x f => f x) s

/-- R146: the engine takes its mode back, and in LIVE the re-checks and the walk are made. -/
def State.restoreMode (s : State) (m : Mode) : State :=
  let restored := s.setMode m
  if restored.isLive then restored.goLive else restored

/-- R137: a remembered mode as an engine mode. -/
def RunMode.toMode : RunMode → Mode
  | .suspended => .suspended
  | .live => .live

/-- R146, step 1: the supply is MAIN again. -/
def State.leaveBattery (s : State) : State :=
  { s with supply := { s.supply with condition := .main, qualification := 0 } }

/-- R148: the engine is held. -/
def State.hold (s : State) : State := { s with engine := { s.engine with held := true } }

/-- R148: at the return the line's level decides: still asserted, the engine is held; found released after a hold, the release of
R149 is made first and the engine takes SUSPENDED. The mode that the return restores is the second part. -/
def State.lineAtReturn (s : State) : State × Mode :=
  if s.pins.reset then (s.hold.dropArrivals, s.engine.remembered.toMode)
  else if s.engine.held then (s.release, .suspended)
  else (s, s.engine.remembered.toMode)

/-- RETURN_FROM_BACKUP (R97, R146, R148, R162): the engine takes its mode back among the events of the conditioner. -/
def execReturnFromBackup (order : ReturnOrder) (s : State) : Host.Outcome State Fault Refusal :=
  done (if s.powered && s.supply.condition == .battery then
    let (lined, mode) := s.leaveBattery.freshInterface.lineAtReturn
    let events := wakeEvents order.sensors
    (((lined.report noticeSupplyReturn).through (events.take order.place)).restoreMode mode).through (events.drop order.place)
  else s)

/-- R96: a sensor at cold start stands at its pin's level. -/
def Sensor.coldStart (x : Sensor) : Sensor := { pin := x.pin, accepted := x.pin, latch := false, filter := none }

/-- COLD_START (R147, Table 2 of Chapter 8): a power-up that finds the retention mark lost. The pins keep their levels, and an
asserted RESET line holds the engine (notes/assumptions/15.md). -/
def execColdStart (s : State) : Host.Outcome State Fault Refusal :=
  done (if s.powered then s
  else
    { State.reset with
      pending := s.pending
      sensors := Vector.ofFn fun k => s.sensors[k].coldStart
      pins := s.pins
      engine := { State.reset.engine with held := s.pins.reset }
      ticks := s.ticks })

/-- RETENTION_MARK_LOST (R145, R147). Nothing else is read until the cold start (notes/assumptions/14.md). -/
def execRetentionMarkLost (s : State) : Host.Outcome State Fault Refusal :=
  done ({ s.cutInterface.dropArrivals with supply := { s.supply with mark := false, qualification := 0 } })

/-- The level of the RESET line. -/
def State.setResetLine (s : State) (asserted : Bool) : State :=
  { s with pins := { s.pins with reset := asserted } }

/-- RESET_ASSERT (R148, R159, R162): the line is not watched in BACKUP. -/
def execResetAssert (s : State) : Host.Outcome State Fault Refusal :=
  let asserted := s.setResetLine true
  done (if s.powered && s.supply.condition == .main && !s.engine.held then asserted.hold.dropArrivals.cutInterface
  else asserted)

/-- RESET_RELEASE (R148, R149). -/
def execResetRelease (s : State) : Host.Outcome State Fault Refusal :=
  let released := s.setResetLine false
  done (if s.powered && s.supply.condition == .main && s.engine.held then released.release else released)

end Sys2Proof.Machine
end

