-- ==== Sys2Proof/Machine/Table.lean ====
section
/-! DEFINITION. The table commands: LOAD, MODIFY, FETCH, FIND, RETIRE and SET PROTECT (01). -/

namespace Sys2Proof.Machine

/-- R12: a FOLLOW record for slot `n` whose source is EMPTY, other than its own slot. -/
def State.badLink (s : State) (n : EntryIx) (d : Definition) : Bool :=
  d.kind == .follow && d.source != n && s.table[d.source].isNone

/-- R11, R12: the checks of an entry record, and its use where it passes them. -/
def State.onRecord (s : State) (n : EntryIx) (f : Definition → State) : State :=
  match definitionFault s.input with
  | some offset => s.refuse .invalidField (byteOf offset)
  | none =>
    let d := Definition.ofRecord s.input
    if s.badLink n d then s.refuse .badLink 0x0B else f d

/-- R14, R89: the fresh entry of a LOAD. -/
def Entry.fresh (d : Definition) (held : Bool) (levels : Levels) : Entry where
  defn := d
  phase := if held then .held else .armed
  lastOutcome := none
  lastStart := none
  snapshot := none
  pending := 0
  storedPattern := d.patternValue levels 0
  storedPermit := d.permitValue levels 0

/-- R14: the entry placed in its slot and at the tail of the turn order list. -/
def State.place (s : State) (n : EntryIx) (e : Entry) : State :=
  { s.putEntry n (some e) with turn := s.turn ++ [n] }

/-- R14: a LOAD that passes its checks. -/
def State.loadEntry (s : State) (n : EntryIx) (d : Definition) : State :=
  let placed := s.place n (Entry.fresh d (heldBit s.input) s.levels)
  (placed.applyAt n (Entry.recheck placed.view)).asOne.completeWithImage n

/-- LOAD (R2, R11 to R14, R22). -/
def execLoad (s : State) : Host.Outcome State Fault Refusal :=
  done (onCompletion 0x10 (fun s =>
    s.onNamed fun n =>
      s.unlessProtected n
        (match s.table[n] with
        | some _ => s.refuse .occupied 0
        | none => s.onRecord n (s.loadEntry n))) s)

/-- R16: the lowest offset of a restricted field that a record changes in an active entry. -/
def Entry.activeFault (e : Entry) (d : Definition) : Option Nat :=
  if e.phase.isActive then
    firstBad
      [ (0x03, e.defn.kind != d.kind)
      , (0x04, e.defn.unit != d.unit || (e.defn.unit == .pulses && e.defn.pulseSource != d.pulseSource))
      , (0x0C, e.defn.claim != d.claim) ]
  else none

/-- R17, Table 4 of Chapter 1: whether the changed fields cause a grant walk. -/
def Entry.modifyWalks (e : Entry) (d : Definition) : Bool :=
  match e.phase with
  | .due _ => e.defn.priority != d.priority || e.defn.preempt != d.preempt
  | .running _ | .paused _ => e.defn.priority != d.priority
  | .armed | .held | .confirming | .spent => false

/-- R15, R89: the definition replaced and the stored values evaluated again. -/
def Entry.redefined (e : Entry) (d : Definition) (levels : Levels) : Entry :=
  { e with
    defn := d
    storedPattern := d.patternValue levels 0
    storedPermit := d.permitValue levels 0 }

/-- R17: the permit transition that a MODIFY delivers; a permit that is removed has become true. -/
def Entry.modifyTransition (old new : Entry) : Option Bool :=
  if old.storedPermit.getD true = new.storedPermit.getD true then none else some (new.storedPermit.getD true)

/-- R15, R17: a MODIFY that passes its checks. Where it delivers a transition, the older ones on their way are dropped; where it
leaves the stored permit value as it was, or the entry has no permit, the older ones still come (notes/assumptions/12.md). -/
def State.modifyEntry (s : State) (n : EntryIx) (e : Entry) (d : Definition) : State :=
  let new := e.redefined d s.levels
  let written := s.putEntry n (some new)
  let arrival :=
    match e.modifyTransition new with
    | none => written.applyAt n (Entry.recheck written.view)
    | some value =>
      (written.dropTransitionsTo n).applyAt n fun x =>
        (x.permitTransition written.view value).andThen (Entry.recheck written.view)
  (arrival.walkIf (e.modifyWalks d)).asOne.completeWithImage n

/-- MODIFY (R2, R11 to R13, R15 to R17, R22). -/
def execModify (s : State) : Host.Outcome State Fault Refusal :=
  done (onEntryMove 0x11 (fun s =>
    s.onNamed fun n =>
      s.unlessProtected n
        (s.onOccupied n fun e =>
          s.onRecord n fun d =>
            match e.activeFault d with
            | some offset => s.refuse .active (byteOf offset)
            | none => s.modifyEntry n e d)) s)

/-- FETCH (R18). An EMPTY slot is refused, with its image in the buffer. -/
def execFetch (s : State) : Host.Outcome State Fault Refusal :=
  done (onCompletion 0x12 (fun s =>
    s.onNamed fun n =>
      match s.table[n] with
      | some _ => s.completeWithImage n
      | none => s.complete .emptySlot 0 (some (s.entryImage n))) s)

/-- R19: FIND by zone. -/
def State.findZone (s : State) (z : Nat) : State :=
  if h : z < 16 then
    s.complete .ok 0
      (some (findResult (s.entriesWhere fun e => e.defn.claim.getLsbD z) s.zones[z].owner))
  else s.refuse .invalidField 1

/-- FIND (R19, R167). -/
def execFind (s : State) : Host.Outcome State Fault Refusal :=
  done (onCompletion 0x13 (fun s =>
    match s.input 0 with
    | 0 => s.complete .ok 0 (some (findResult (s.entriesWhere fun e => e.defn.tag == byteOf (s.input 1)) none))
    | 1 => s.findZone (s.input 1)
    | 2 =>
      if 1 ≤ s.input 1 && s.input 1 ≤ 7 then
        s.complete .ok 0 (some (findResult (s.entriesWhere fun e => e.phase.code == s.input 1) none))
      else s.refuse .invalidField 1
    | _ => s.refuse .invalidField 0) s)

/-- Whether the entry of a slot is a FOLLOW entry that names `n`. -/
def slotNames (slot : Option Entry) (n : EntryIx) : Bool :=
  match slot with
  | some e => e.defn.kind == .follow && e.defn.source == n
  | none => false

/-- R20: the lowest-numbered other FOLLOW entry that names slot `n`. -/
def State.firstFollower (s : State) (n : EntryIx) : Option EntryIx :=
  (List.finRange 48).find? fun m => m != n && slotNames s.table[m] n

/-- R21: what RETIRE does to the zones of the entry. -/
def Entry.retired (e : Entry) : Effect :=
  { Effect.only e with zones := if e.phase.ownsZones then .release else .keep }

/-- R21: the slot emptied. -/
def State.removeEntry (s : State) (n : EntryIx) : State :=
  { (s.putEntry n none).dropArrivalsTo n with turn := s.turn.erase n }

/-- RETIRE (R2, R13, R20 to R22). The buffer keeps its contents (Table 3 of Chapter 10). -/
def execRetire (s : State) : Host.Outcome State Fault Refusal :=
  done (onCompletion 0x14 (fun s =>
    s.onNamed fun n =>
      s.unlessProtected n
        (s.onOccupied n fun _ =>
          match s.firstFollower n with
          | some m => s.refuse .inUse (byteOf m.val)
          | none => ((s.applyAt n Entry.retired).asOne.removeEntry n).complete .ok 0 none)) s)

/-- R22: the values a protection boundary takes. -/
def isBoundary (b : Nat) : Bool := b == 0 || b == 12 || b == 24 || b == 48

/-- SET PROTECT at the level `prg` of the PRG line (R23). DETAIL holds the boundary in force after the command. -/
def execSetProtect (prg : Bool) (s : State) : Host.Outcome State Fault Refusal :=
  done (onCompletion 0x18 (fun s =>
    let sampled := { s with pins := { s.pins with prg := prg } }
    let b := sampled.input 0
    if !isBoundary b then sampled.refuse .invalidField 0
    else if s.boundary ≤ b || prg then ({ sampled with boundary := b } : State).complete .ok (byteOf b) none
    else sampled.refuse .entryProtected (byteOf s.boundary)) s)

end Sys2Proof.Machine
end

