-- ==== Sys2Proof/Machine/Timebase.lean ====
section
/-! DEFINITION. The Timebase: SELECT CLOCK, READ CLOCK, and the passes, failures, faults and switches of sources (04). -/

namespace Sys2Proof.Machine

/-- R70: the check that the selection of an external source begins. -/
def State.freshCheck (s : State) (c : Source) : Check where
  source := c
  good := 0
  elapsed := 0
  code := s.settings.crystalCode
  quiet := none

/-- R70: the selector after a selection of `c`. Naming the active source abandons any candidate; that it does so too for a candidate that a
fallback kept, where R79 says that a selection of INTERNAL makes no change, is the model's choice (notes/assumptions/41.md). -/
def State.selectorFor (s : State) (c : Source) : Selector :=
  if s.timebase.active = c then .steady
  else if s.timebase.selector.candidate = some c then s.timebase.selector
  else match c with
    | .internal => .ready .internal 0 0
    | .crystal | .mains50 | .mains60 => .starting (s.freshCheck c)

/-- R70: a source is selected. -/
def State.selectSource (s : State) (c : Source) : State :=
  { s with timebase := ({ s.timebase with selector := s.selectorFor c } : Timebase).withOscillator }

/-- SELECT CLOCK (R70). A second event that has reached some counter and is not raised yet comes after it for the selector, which is the
model's choice (notes/assumptions/35.md). -/
def execSelectClock (s : State) : Host.Outcome State Fault Refusal :=
  done (onCompletion 0x38 (fun s =>
    match Source.ofCode (s.input 0) with
    | none => s.refuse .invalidField 0
    | some c =>
      let after := s.selectSource c
      after.complete .ok 0 (some after.clockRecord)) s)

/-- READ CLOCK (R80). -/
def execReadClock (s : State) : Host.Outcome State Fault Refusal :=
  done (onCompletion 0x39 (fun s => s.complete .ok 0 (some s.clockRecord)) s)

/-- R71, R72: the candidate passes its check and keeps its code; its activity watch starts at the cycle that passed it. A second event that
has reached some counter and is not raised yet finds it READY, which is the model's choice (notes/assumptions/35.md). -/
def State.passCheck (s : State) (c : Check) : State :=
  { s with timebase := { s.timebase with selector := .ready c.source c.code 0 } }

/-- CRYSTAL_CHECK_PASS (R71). -/
def execCrystalCheckPass (s : State) : Host.Outcome State Fault Refusal :=
  done (match s.timebase.selector with
    | .starting c => if s.powered && c.source == .crystal then s.passCheck c else s
    | .steady | .ready _ _ _ => s)

/-- MAINS_CHECK_PASS (R72). -/
def execMainsCheckPass (s : State) : Host.Outcome State Fault Refusal :=
  done (match s.timebase.selector with
    | .starting c => if s.powered && c.source.isMains then s.passCheck c else s
    | .steady | .ready _ _ _ => s)

/-- CHECK_TIMEOUT (R71 to R73). -/
def execCheckTimeout (s : State) : Host.Outcome State Fault Refusal :=
  done (match s.timebase.selector with
    | .starting _ => if s.powered then s.failCandidate else s
    | .steady | .ready _ _ _ => s)

/-- READY_CANDIDATE_FAULT (R73, R76). INTERNAL is not watched. -/
def execReadyCandidateFault (s : State) : Host.Outcome State Fault Refusal :=
  done (match s.timebase.selector with
    | .ready c _ _ => if s.powered && c != .internal then s.failCandidate else s
    | .steady | .starting _ => s)

/-- CLOCK_SWITCH (R74): the second event at which a READY candidate becomes active is raised. -/
def execClockSwitch (s : State) : Host.Outcome State Fault Refusal :=
  done (match s.timebase.selector with
    | .ready _ _ _ => if s.powered then s.raiseSecond else s
    | .steady | .starting _ => s)

/-- ACTIVE_SOURCE_FAULT (R76): the activity watch of the active source runs out, `watchLimit` after its last cycle. Before the first cycle
after a switch the position counts from the switch, which is the model's choice (notes/assumptions/40.md). -/
def execActiveSourceFault (s : State) : Host.Outcome State Fault Refusal :=
  let t := s.timebase
  done (if s.powered && t.active != .internal then
    s.fallback (t.sincePrescaler + (t.active.watchLimit - t.quiet))
  else s)

end Sys2Proof.Machine
end

