-- ==== Sys2Proof/Machine/Zones.lean ====
section
/-! DEFINITION. The manual overrides: SET ZONES and READ ZONES (07, section 7.3). -/

namespace Sys2Proof.Machine

/-- R121, Table 1 of Chapter 11: the modes of SET ZONES. -/
inductive ZoneMode where
  | auto | on | off
deriving DecidableEq, Repr

/-- Table 1 of Chapter 11: zone modes; code 3 is unassigned. -/
def ZoneMode.ofCode (c : Nat) : Option ZoneMode :=
  match c with
  | 0 => some .auto
  | 1 => some .on
  | 2 => some .off
  | _ => none

/-- Table 3 of Chapter 11: the mode code of zone `z` in the input of SET ZONES. -/
def State.zoneModeCode (s : State) (z : ZoneIx) : Nat := (s.input (z.val / 4) >>> (2 * (z.val % 4))) % 4

/-- Table 3 of Chapter 11: the mask of SET ZONES. -/
def State.zoneMask (s : State) : ZoneSet := BitVec.ofNat 16 (s.input 4 + 256 * s.input 5)

/-- Table 2 of Chapter 7: what a mode makes of a zone; none where it is refused with ZONE_BUSY. -/
def Zone.underMode (m : ZoneMode) (restTime : Nat) (z : Zone) : Option Zone :=
  match m, z with
  | .on, .free => some .manualOn
  | .on, .resting _ => none
  | .on, .ownedOn _ => none
  | .on, .ownedOff _ _ => none
  | .on, .manualOn => some .manualOn
  | .on, .manualOff none => some .manualOn
  | .on, .manualOff (some _) => none
  | .off, .free => some (.manualOff none)
  | .off, .resting r => some (.manualOff (some r))
  | .off, .ownedOn _ => none
  | .off, .ownedOff _ _ => none
  | .off, .manualOn => some (.manualOff (startRest restTime))
  | .off, .manualOff r => some (.manualOff r)
  | .auto, .free => some .free
  | .auto, .resting r => some (.resting r)
  | .auto, .ownedOn n => some (.ownedOn n)
  | .auto, .ownedOff n r => some (.ownedOff n r)
  | .auto, .manualOn => some (if restTime = 0 then .free else .resting restTime)
  | .auto, .manualOff none => some .free
  | .auto, .manualOff (some r) => some (.resting r)

/-- What SET ZONES makes of zone `z`; a zone outside the mask is not considered. -/
def State.zoneAsked (s : State) (z : ZoneIx) : Option Zone :=
  if s.zoneMask.getLsbD z.val then
    (ZoneMode.ofCode (s.zoneModeCode z)).bind fun m => s.zones[z].underMode m (s.restTime z)
  else some s.zones[z]

/-- R121, check 1: the lowest masked zone whose mode code is unassigned. -/
def State.badModeZone (s : State) : Option ZoneIx :=
  (List.finRange 16).find? fun z => s.zoneMask.getLsbD z.val && (ZoneMode.ofCode (s.zoneModeCode z)).isNone

/-- R121, check 2: the lowest masked zone that refuses its mode. -/
def State.busyZone (s : State) : Option ZoneIx := (List.finRange 16).find? fun z => (s.zoneAsked z).isNone

/-- R122: the zone records that the command's changes leave. -/
def State.zonesAsked (s : State) : Vector Zone 16 := Vector.ofFn fun z => (s.zoneAsked z).getD s.zones[z]

/-- R122: a taken SET ZONES, with one walk for the zones that become FREE and the fall of the engaged count. -/
def State.setZones (s : State) : State :=
  let zones := s.zonesAsked
  ((Arrival.quiet { s with zones := zones }).walkIf
    (someZoneFreed s.zones zones || engagedCount zones < s.engaged)).asOne

/-- SET ZONES (R121, R122). -/
def execSetZones (s : State) : Host.Outcome State Fault Refusal :=
  done (onCompletion 0x48 (fun s =>
    match s.badModeZone with
    | some z => s.refuse .invalidField (byteOf (z.val / 4))
    | none =>
      match s.busyZone with
      | some z => s.refuse .zoneBusy (byteOf z.val)
      | none =>
        if s.budget < engagedCount s.zonesAsked then s.refuse .overBudget (byteOf (engagedCount s.zonesAsked))
        else
          let after := s.setZones
          after.complete .ok 0 (some after.zoneSnapshot)) s)

/-- READ ZONES (R123). -/
def execReadZones (s : State) : Host.Outcome State Fault Refusal :=
  done (onCompletion 0x49 (fun s => s.complete .ok 0 (some s.zoneSnapshot)) s)

end Sys2Proof.Machine
end

