-- ==== Sys2Proof/Machine/Dispatch.lean ====
section
/-! DEFINITION. The meaning of each row: one arm per constructor of Instr. -/

namespace Sys2Proof.Machine

/-- What one row does to everything but the queue. -/
def exec (i : Instr) (s : State) : Host.Outcome State Fault Refusal :=
  match i with
  -- Completions of host commands.
  | .load => Sys2Proof.Machine.execLoad s
  | .modify => Sys2Proof.Machine.execModify s
  | .fetch => Sys2Proof.Machine.execFetch s
  | .find => Sys2Proof.Machine.execFind s
  | .retire => Sys2Proof.Machine.execRetire s
  | .setProtect prg => Sys2Proof.Machine.execSetProtect prg s
  | .hold => Sys2Proof.Machine.execHold s
  | .release => Sys2Proof.Machine.execRelease s
  | .rearm => Sys2Proof.Machine.execRearm s
  | .start => Sys2Proof.Machine.execStart s
  | .stop => Sys2Proof.Machine.execStop s
  | .confirm => Sys2Proof.Machine.execConfirm s
  | .confirmFirst => Sys2Proof.Machine.execConfirmFirst s
  | .setTime => Sys2Proof.Machine.execSetTime s
  | .readTime => Sys2Proof.Machine.execReadTime s
  | .selectClock => Sys2Proof.Machine.execSelectClock s
  | .readClock => Sys2Proof.Machine.execReadClock s
  | .setFlags => Sys2Proof.Machine.execSetFlags s
  | .clearLatches => Sys2Proof.Machine.execClearLatches s
  | .setZones => Sys2Proof.Machine.execSetZones s
  | .readZones => Sys2Proof.Machine.execReadZones s
  | .configure => Sys2Proof.Machine.execConfigure s
  | .readConfig => Sys2Proof.Machine.execReadConfig s
  | .engineStart => Sys2Proof.Machine.execEngineStart s
  | .engineSuspend => Sys2Proof.Machine.execEngineSuspend s
  | .nextNotice => Sys2Proof.Machine.execNextNotice s
  | .unknownCommand => Sys2Proof.Machine.execUnknownCommand s
  -- The two-wire bus.
  | .pointerByte b => Sys2Proof.Machine.execPointerByte b s
  | .transferBufferWrite b => Sys2Proof.Machine.execTransferBufferWrite b s
  | .commandWrite b => Sys2Proof.Machine.execCommandWrite b s
  | .commandBegin => Sys2Proof.Machine.execCommandBegin s
  | .ignoredRegisterWrite b => Sys2Proof.Machine.execIgnoredRegisterWrite b s
  -- Time.
  | .secondEvent order => Sys2Proof.Machine.execSecondEvent order s
  | .runCompleted n => Sys2Proof.Machine.execRunCompleted n s
  | .capped n => Sys2Proof.Machine.execCapped n s
  | .waitLimitExpiry n => Sys2Proof.Machine.execWaitLimitExpiry n s
  | .restEnd z => Sys2Proof.Machine.execRestEnd z s
  | .grantWalk => Sys2Proof.Machine.execGrantWalk s
  -- Signals.
  | .sensorPinChange k level => Sys2Proof.Machine.execSensorPinChange k level s
  | .sensorAcceptance k => Sys2Proof.Machine.execSensorAcceptance k s
  | .patternTrigger n => Sys2Proof.Machine.execPatternTrigger n s
  | .permitFalse n => Sys2Proof.Machine.execPermitFalse n s
  | .permitTrue n => Sys2Proof.Machine.execPermitTrue n s
  | .pulseEdge k => Sys2Proof.Machine.execPulseEdge k s
  | .followEvent source follower => Sys2Proof.Machine.execFollowEvent source follower s
  -- The Timebase.
  | .crystalCheckPass => Sys2Proof.Machine.execCrystalCheckPass s
  | .mainsCheckPass => Sys2Proof.Machine.execMainsCheckPass s
  | .checkTimeout => Sys2Proof.Machine.execCheckTimeout s
  | .readyCandidateFault => Sys2Proof.Machine.execReadyCandidateFault s
  | .clockSwitch => Sys2Proof.Machine.execClockSwitch s
  | .activeSourceFault => Sys2Proof.Machine.execActiveSourceFault s
  -- Supply and reset.
  | .entryToBackup => Sys2Proof.Machine.execEntryToBackup s
  | .supplyDip => Sys2Proof.Machine.execSupplyDip s
  | .returnFromBackup order => Sys2Proof.Machine.execReturnFromBackup order s
  | .coldStart => Sys2Proof.Machine.execColdStart s
  | .resetAssert => Sys2Proof.Machine.execResetAssert s
  | .resetRelease => Sys2Proof.Machine.execResetRelease s
  -- The bus again.
  | .byteRead => Sys2Proof.Machine.execByteRead s
  | .busStartOrStop condition cut => Sys2Proof.Machine.execBusStartOrStop condition cut s
  | .retentionMarkLost => Sys2Proof.Machine.execRetentionMarkLost s

end Sys2Proof.Machine
end

