-- ==== Sys2Proof/Machine/Idle.lean ====
section
/-! DEFINITION. What the part does by itself when nothing is commanded (notes/assumptions/3.md): the internal arrivals that wait,
one a step, and where none waits one cycle of the internal oscillator. -/

namespace Sys2Proof.Machine

/-! ### The arrivals that wait -/

/-- The row of a command code (Table 4 of Chapter 11). -/
def rowOf (prg : Bool) (code : Byte) : Instr :=
  match code.toNat with
  | 0x10 => .load
  | 0x11 => .modify
  | 0x12 => .fetch
  | 0x13 => .find
  | 0x14 => .retire
  | 0x18 => .setProtect prg
  | 0x20 => .hold
  | 0x21 => .release
  | 0x22 => .rearm
  | 0x23 => .start
  | 0x24 => .stop
  | 0x25 => .confirm
  | 0x26 => .confirmFirst
  | 0x30 => .setTime
  | 0x31 => .readTime
  | 0x38 => .selectClock
  | 0x39 => .readClock
  | 0x40 => .setFlags
  | 0x41 => .clearLatches
  | 0x48 => .setZones
  | 0x49 => .readZones
  | 0x50 => .configure
  | 0x51 => .readConfig
  | 0x52 => .engineStart
  | 0x53 => .engineSuspend
  | 0x60 => .nextNotice
  | _ => .unknownCommand

/-- The completion of the command in progress (R161). -/
def State.waitingCompletion (s : State) : List Instr :=
  match s.iface.code with
  | some code => if s.iface.busy then [rowOf s.pins.prg code] else []
  | none => []

/-- The second event raised and not yet counted (R68). -/
def State.waitingSecond (s : State) : List Instr :=
  if s.powered && 0 < s.owed.seconds then
    [.secondEvent s.orderNow]
  else []

/-- The arrivals on their way to an entry (R87, R112). -/
def State.waitingArrivals (s : State) : List Instr :=
  (s.owed.triggers.map fun t => .patternTrigger t.entry)
  ++ (s.owed.transitions.map fun t => if t.value then .permitTrue t.entry else .permitFalse t.entry).eraseDups
  ++ (s.owed.pulses.map fun p => .pulseEdge p.sensor)
  ++ (s.links.map fun l => .followEvent l.source l.follower)

/-- The transition first in the queue of its entry: the only one that can come next (log 6). -/
def State.nextTransition (s : State) (i : Instr) : Bool :=
  match i with
  | .permitTrue n => ((s.owed.transitions.find? fun t => t.entry == n).map fun t => t.value) == some true
  | .permitFalse n => ((s.owed.transitions.find? fun t => t.entry == n).map fun t => t.value) == some false
  | _ => true

/-- A walk caused and not yet made (R128). -/
def State.waitingWalk (s : State) : List Instr :=
  if s.takesArrivals && 0 < s.owed.walks then [.grantWalk] else []

/-- R71, R72: the internal time of a whole check, in internal oscillator cycles. -/
def checkLimit : Nat := 96000

/-- The pass, failure or fault that the Timebase has reached (R71 to R73, R76). -/
def State.waitingTimebase (s : State) : List Instr :=
  if s.powered then
    (match s.timebase.selector with
      | .steady => []
      | .starting c =>
        if goodRequired c.source c.code ≤ c.good then
          (if c.source = .crystal then [.crystalCheckPass] else [.mainsCheckPass])
        else if checkLimit ≤ c.elapsed then [.checkTimeout] else []
      | .ready c _ quiet => if c != .internal && c.watchLimit ≤ quiet then [.readyCandidateFault] else [])
    ++ (if s.timebase.active != .internal && s.timebase.active.watchLimit ≤ s.timebase.quiet then
        [.activeSourceFault] else [])
  else []

/-- The acceptances whose filter time has passed (R83). -/
def State.waitingAcceptances (s : State) : List Instr :=
  if s.watchesPins then
    ((List.finRange 8).filter fun k =>
      match s.sensors[k].filter with
      | some p => s.filterTime k ≤ p.held
      | none => false).map fun k => .sensorAcceptance k
  else []

/-- R146: the qualification time, in internal oscillator cycles. -/
def qualificationLimit : Nat := 100 * cyclesPerMs

/-- The return or the cold start that VDD has qualified for (R146, R147). -/
def State.waitingSupply (s : State) : List Instr :=
  if s.supply.qualification < qualificationLimit then []
  else if !s.powered then [.coldStart]
  else if s.supply.condition == .battery then
    [.returnFromBackup { place := Config.returnPlace s.ticks, sensors := Config.returnSensors s.ticks }]
  else []

/-- Everything that can come next by itself. -/
def State.waiting (s : State) : List Instr :=
  s.waitingCompletion ++ s.waitingSecond ++ (s.waitingArrivals.filter s.nextTransition) ++ s.waitingWalk
  ++ s.waitingTimebase ++ s.waitingAcceptances ++ s.waitingSupply

/-! ### One cycle of the internal oscillator -/

/-- One cycle of the active source at the prescaler (R67). -/
def State.prescale (s : State) : State :=
  if s.timebase.prescaler + 1 < s.timebase.active.divisor then
    { s with timebase := { s.timebase with prescaler := s.timebase.prescaler + 1, sincePrescaler := 0 } }
  else s.raiseSecond

/-- A cycle of the active external source, if it is `isSource` (R67, R76). -/
def State.activeCycle (s : State) (isSource : Source → Bool) : State :=
  if isSource s.timebase.active then
    ({ s with timebase := { s.timebase with quiet := 0 } } : State).prescale
  else s

/-- A cycle of the crystal at the candidate (R71, R76). -/
def Selector.crystalCycle : Selector → Selector
  | .steady => .steady
  | .starting c =>
    if c.source = .crystal then
      .starting { c with good := min (goodRequired c.source c.code) (c.good + 1), quiet := some 0 }
    else .starting c
  | .ready c code quiet => .ready c code (if c = .crystal then 0 else quiet)

/-- R72: whether a mains period, in internal oscillator cycles, is good. -/
def goodPeriod (c : Source) (period : Nat) : Bool :=
  match c with
  | .mains50 => 576 ≤ period && period ≤ 704
  | .mains60 => 480 ≤ period && period ≤ 585
  | .internal | .crystal => false

/-- A zero crossing at the candidate (R72, R76). The first after SELECT CLOCK begins the first period measured: a period already under
way then is not measured (notes/assumptions/28.md). -/
def Selector.mainsCycle : Selector → Selector
  | .steady => .steady
  | .starting c =>
    if c.source.isMains then
      .starting
        { c with
          good := match c.quiet with
            | none => 0
            | some q => if goodPeriod c.source q then min (goodRequired c.source c.code) (c.good + 1) else 0
          quiet := some 0 }
    else .starting c
  | .ready c code quiet => .ready c code (if c.isMains then 0 else quiet)

/-- The crystal's cycles that arrive in this internal cycle, one after another. A stopped crystal gives none. -/
def State.crystalCycles : Nat → State → State
  | 0, s => s
  | k + 1, s =>
    if s.timebase.crystalRunning then
      State.crystalCycles k (({ s with timebase :=
        { s.timebase with selector := s.timebase.selector.crystalCycle } } : State).activeCycle (· == .crystal))
    else s

/-- A zero crossing of MREF. -/
def State.mainsCrossing (s : State) : State :=
  ({ s with timebase := { s.timebase with selector := s.timebase.selector.mainsCycle } } : State).activeCycle
    Source.isMains

/-- R71, R72, R76: internal time passes at the candidate. A gap of more than 1 ms returns a crystal's good count to 0. -/
def Selector.age : Selector → Selector
  | .steady => .steady
  | .starting c =>
    .starting
      { c with
        elapsed := c.elapsed + 1
        quiet := c.quiet.map (· + 1)
        good := if c.source = .crystal && cyclesPerMs < c.quiet.getD 0 + 1 then 0 else c.good }
  | .ready c code quiet => .ready c code (quiet + 1)

/-- R76: internal time passes at the candidate and the active source. -/
def State.ageTimebase (s : State) : State :=
  { s with timebase :=
      { s.timebase with
        selector := s.timebase.selector.age
        sincePrescaler := s.timebase.sincePrescaler + 1
        quiet := s.timebase.quiet + 1 } }

/-- The Timebase through one internal cycle (R67, R71, R72, R76). What falls in one internal cycle comes in the order internal cycle,
crystal cycles, zero crossing, and a pass or a fault that it brings about comes after the second event that it raises
(notes/assumptions/27.md). -/
def State.tickTimebase (s : State) : State :=
  let aged := s.ageTimebase
  let timed := aged.activeCycle (· == .internal)
  let crystal := timed.crystalCycles (Config.crystalCycles s.ticks)
  if Config.mainsCrossing s.ticks then crystal.mainsCrossing else crystal

/-- R83: internal time passes in the running filter periods. -/
def State.tickFilters (s : State) : State :=
  if s.watchesPins then
    { s with sensors := Vector.ofFn fun k =>
        { s.sensors[k] with filter := s.sensors[k].filter.map fun p => { p with held := p.held + 1 } } }
  else s

/-- R146, R147: the qualification time runs while VDD stays above 2.8 V. -/
def State.tickSupply (s : State) : State :=
  if s.supply.condition == .battery || !s.powered then
    { s with supply :=
        { s.supply with qualification := if Config.vddAbove s.ticks then s.supply.qualification + 1 else 0 } }
  else s

/-- One cycle of the internal oscillator. -/
def State.tick (s : State) : State :=
  ((if s.powered then s.tickTimebase else s).tickFilters).tickSupply

/-- The part by itself: one of the arrivals that wait, or one internal cycle. -/
def idle (s : State) : Host.Outcome State Fault Refusal :=
  match s.waiting with
  | [] => .next s.tick.nextTick
  | i :: rest => exec ((i :: rest).getD (Config.idleChoice s.ticks % (rest.length + 1)) i) s.nextTick

end Sys2Proof.Machine
end

