-- ==== Sys2Proof/Safety.lean ====
section
/-! DEFINITION. What a safe part is: no step stops it, and every state it reaches keeps the laws that the spec states as laws of the
ZS48. -/

namespace Sys2Proof.Machine

/-- The spec gives the ZS48 no stop: from this state every step answers a next state. -/
def State.goesOn (s : State) : Prop := ∃ t, step s = .next t

/-- What holds of every entry of the table. -/
def State.everyEntry (s : State) (p : EntryIx → Entry → Prop) : Prop := ∀ (n : EntryIx) (e : Entry), s.table[n] = some e → p n e

/-- R126: "the turn order list holds every non-EMPTY entry exactly once and no EMPTY entry". -/
def State.turnLaw (s : State) : Prop := s.turn.Nodup ∧ ∀ n : EntryIx, n ∈ s.turn ↔ s.table[n].isSome = true

/-- R12: "no non-EMPTY FOLLOW entry names an EMPTY entry as its follow source". -/
def State.linkLaw (s : State) : Prop :=
  s.everyEntry fun _ e => e.defn.kind = .follow → s.table[e.defn.source].isSome = true

/-- R137: "while the engine is SUSPENDED or in BACKUP, no entry is DUE, RUNNING or PAUSED". -/
def State.modeLaw (s : State) : Prop :=
  s.engine.mode ≠ .live → s.everyEntry fun _ e => e.phase.isActive = false

/-- A count from 1 to 65535. -/
def countInRange (k : Nat) : Prop := 1 ≤ k ∧ k ≤ 65535

/-- R131: the run counter, and the run duration a restart loads it from, of a RUNNING or PAUSED entry, and the remaining of a
victim. -/
def Phase.countsInRange : Phase → Prop
  | .running r | .paused r => countInRange r.counter ∧ countInRange r.duration
  | .due w => ∀ k, w.remaining = some k → countInRange k
  | .armed | .held | .confirming | .spent => True

/-- R131: "the run counter of every RUNNING or PAUSED entry, and the remaining value of every DUE victim, lies between 1 and
65535". R7 gives the duration the same range. -/
def State.counterLaw (s : State) : Prop :=
  s.everyEntry fun _ e => countInRange e.defn.duration ∧ e.phase.countsInRange

/-- R118: "the number of zones in OWNED_ON, OWNED_OFF or MANUAL_ON never exceeds the budget in force". -/
def State.budgetLaw (s : State) : Prop := s.engaged ≤ s.budget

/-- Whether the slot holds an entry that is RUNNING or PAUSED and claims zone `z`. -/
def slotOwns (slot : Option Entry) (z : ZoneIx) : Bool :=
  match slot with
  | some e => e.phase.ownsZones && e.defn.claim.getLsbD z.val
  | none => false

/-- R116: "An entry owns zones exactly when it is RUNNING or PAUSED, and it then owns every zone of its claim set and no other
zone". -/
def State.ownerLaw (s : State) : Prop :=
  ∀ (n : EntryIx) (z : ZoneIx), s.zones[z].owner = some n ↔ slotOwns s.table[n] z = true

/-- R116: "the zone belongs to a RUNNING entry and is energised". -/
def State.energyLaw (s : State) : Prop :=
  ∀ (n : EntryIx) (z : ZoneIx), s.zones[z] = .ownedOn n → slotRunning s.table[n] = true

/-- R51: the calendar holds a date and time that exists. -/
def State.calendarLaw (s : State) : Prop := s.calendar.valid = true

/-- R22: the values of the protection boundary. -/
def State.boundaryLaw (s : State) : Prop := s.boundary = 0 ∨ s.boundary = 12 ∨ s.boundary = 24 ∨ s.boundary = 48

/-- The transfer buffer is in canonical form. -/
def State.bufferLaw (s : State) : Prop := s.iface.buffer.wf = true

/-- R75: "The crystal oscillator runs while CRYSTAL is the active source or the candidate, and is stopped whenever it is
neither". -/
def State.crystalLaw (s : State) : Prop :=
  s.timebase.crystalRunning = true ↔
    s.timebase.active = .crystal ∨ s.timebase.selector.candidate = some .crystal

/-- R69: the candidate is "a source other than the active one". -/
def State.candidateLaw (s : State) : Prop := s.timebase.selector.candidate ≠ some s.timebase.active

/-- R67: "The prescaler holds a count from 0 to one less than the divisor of the active source". -/
def State.prescalerLaw (s : State) : Prop := s.timebase.prescaler < s.timebase.active.divisor

/-- R145, R146: the engine mode is BACKUP exactly while the supply condition is BATTERY; the bus is ignored and no command is
in progress there. -/
def State.supplyLaw (s : State) : Prop :=
  (s.engine.mode = .backup ↔ s.supply.condition = .battery)
    ∧ (s.supply.condition = .battery → s.iface.busy = false ∧ s.iface.code = none)

/-- R125: "in BACKUP no zone is in OWNED_ON, OWNED_OFF or MANUAL_ON". -/
def State.darkLaw (s : State) : Prop :=
  s.engine.mode = .backup → ∀ z : ZoneIx, s.zones[z].engaged = false

/-- R148: a held engine "takes no arrival", so nothing is on its way to one, and no command is in progress while the bus is ignored. -/
def State.heldLaw (s : State) : Prop :=
  s.engine.held = true →
    s.owed.triggers = [] ∧ s.owed.transitions = [] ∧ s.owed.pulses = [] ∧ s.links = [] ∧ s.owed.walks = 0
      ∧ s.owed.underway.group.walk = false ∧ s.iface.busy = false ∧ s.iface.code = none

/-- R22: the definition part of slot `n`. -/
def State.definitionAt (s : State) (n : EntryIx) : Option Definition := s.table[n].map fun e => e.defn

/-- Every law at once. -/
structure State.Lawful (s : State) : Prop where
  turn : s.turnLaw
  link : s.linkLaw
  mode : s.modeLaw
  counter : s.counterLaw
  budget : s.budgetLaw
  owner : s.ownerLaw
  energy : s.energyLaw
  calendar : s.calendarLaw
  boundary : s.boundaryLaw
  buffer : s.bufferLaw
  crystal : s.crystalLaw
  candidate : s.candidateLaw
  prescaler : s.prescalerLaw
  supply : s.supplyLaw
  dark : s.darkLaw
  held : s.heldLaw

/-! ### The words of a statement about a row -/

/-- R161: the completion of a command from `s` to `t`: RESULT, DETAIL, BUSY clear and no code held; the rest of the interface but
the buffer as it was. -/
def State.completes (s t : State) (result : ResultCode) (detail : Byte) : Prop :=
  t.iface = { s.iface with buffer := t.iface.buffer, code := none, busy := false, result := result, detail := detail }

/-- R165: the buffer holds a record from address 0x00 and 0 in every byte beyond it. -/
def State.shows (t : State) (bytes : List Byte) : Prop := ∀ a, a < 48 → t.iface.buffer.read a = bytes.getD a 0

/-- The byte of the transfer buffer at an offset, as a number. -/
def State.byte (t : State) (a : Nat) : Nat := (t.iface.buffer.read a).toNat

/-- R166, Tables 1 and 2 of Chapter 11: the buffer of `t` shows the index, the state, the definition part and the status part of entry `n` of
`s`. A number too large for its field, which the laws shut out, would show its low bytes. -/
def State.showsEntry (s t : State) (n : EntryIx) (e : Entry) : Prop :=
  t.byte 0x00 = n.val
  ∧ t.byte 0x01 = (match e.phase with
    | .armed => 1
    | .held => 2
    | .due _ => 3
    | .running _ => 4
    | .paused _ => 5
    | .confirming => 6
    | .spent => 7)
  ∧ (∀ k, 0x02 ≤ k → k ≤ 0x1B → t.byte k = (e.defn.bytes.getD (k - 2) 0).toNat)
  ∧ t.byte 0x1C + 256 * t.byte 0x1D = (match e.phase with
    | .running r | .paused r => r.counter % 65536
    | .due w => w.remaining.getD 0 % 65536
    | .armed | .held | .confirming | .spent => 0)
  ∧ t.byte 0x1E = (match e.phase with
    | .due w => w.elapsed % 256
    | .armed | .held | .running _ | .paused _ | .confirming | .spent => 0)
  ∧ (∀ r, e.phase = .running r ∨ e.phase = .paused r →
      (∀ c, r.capCount = some c → t.byte 0x1F = c.elapsed % 256) ∧ (r.capCount = none → t.byte 0x1F = 0)
        ∧ (∀ k, r.subMinute = some k → t.byte 0x20 = k % 256) ∧ (r.subMinute = none → t.byte 0x20 = 0)
        ∧ (t.byte 0x2C).testBit 1 = r.subMinute.isSome ∧ (t.byte 0x2C).testBit 4 = r.capCount.isSome)
  ∧ (e.phase.ownsZones = false → t.byte 0x1F = 0 ∧ t.byte 0x20 = 0
      ∧ (t.byte 0x2C).testBit 1 = false ∧ (t.byte 0x2C).testBit 4 = false)
  ∧ t.byte 0x21 = (match e.lastOutcome with
    | none => 0
    | some .completed => 1
    | some .aborted => 2
    | some .capped => 3
    | some .stopped => 4
    | some .skipped => 5
    | some .blocked => 6
    | some .interrupted => 7)
  ∧ (∀ c, e.lastStart = some c → t.byte 0x22 = c.second % 256 ∧ t.byte 0x23 = c.minute % 256 ∧ t.byte 0x24 = c.hour % 256
      ∧ t.byte 0x25 = c.date % 256 ∧ t.byte 0x26 = c.month % 256 ∧ t.byte 0x27 = c.year % 256)
  ∧ (e.lastStart = none → ∀ k, 0x22 ≤ k → k ≤ 0x27 → t.byte k = 0xFF)
  ∧ t.byte 0x28 + 256 * t.byte 0x29 = (e.snapshot.getD 0).toNat
  ∧ t.byte 0x2A = e.pending.toNat ∧ t.byte 0x2B = s.turn.idxOf n % 256
  ∧ (t.byte 0x2C).testBit 0 = e.phase.ownsZones
  ∧ ((t.byte 0x2C).testBit 2 = true ↔ ∃ w k, e.phase = .due w ∧ w.remaining = some k)
  ∧ ((t.byte 0x2C).testBit 3 = true ↔ ∃ w, e.phase = .due w)
  ∧ (t.byte 0x2C).testBit 5 = e.lastOutcome.isSome ∧ (t.byte 0x2C).testBit 6 = e.lastStart.isSome
  ∧ (t.byte 0x2C).testBit 7 = e.snapshot.isSome
  ∧ ∀ k, 0x2D ≤ k → k ≤ 0x2F → t.byte k = 0

/-- Table 3 of Chapter 11: the buffer of `t` shows the time record of `s`. -/
def State.showsTime (s t : State) : Prop :=
  t.byte 0x00 = s.calendar.second % 256 ∧ t.byte 0x01 = s.calendar.minute % 256 ∧ t.byte 0x02 = s.calendar.hour % 256
  ∧ t.byte 0x03 = s.calendar.date % 256 ∧ t.byte 0x04 = s.calendar.month % 256 ∧ t.byte 0x05 = s.calendar.year % 256
  ∧ t.byte 0x06 = weekday s.calendar ∧ t.byte 0x07 = (if s.timeValid then 1 else 0)
  ∧ ∀ k, 0x08 ≤ k → k ≤ 0x2F → t.byte k = 0

/-- R80, Tables 1 and 3 of Chapter 11: the buffer of `t` shows the clock record of `s`. -/
def State.showsClock (s t : State) : Prop :=
  t.byte 0x00 = s.timebase.active.code
  ∧ (Source.internal.code = 0 ∧ Source.crystal.code = 1 ∧ Source.mains50.code = 2 ∧ Source.mains60.code = 3)
  ∧ (s.timebase.selector = .steady → t.byte 0x01 = 0 ∧ t.byte 0x02 = 0xFF ∧ t.byte 0x03 = 0 ∧ t.byte 0x04 = 0 ∧ t.byte 0x05 = 0
      ∧ t.byte 0x06 = 0xFF)
  ∧ (∀ c, s.timebase.selector = .starting c → t.byte 0x01 = 1 ∧ t.byte 0x02 = c.source.code
      ∧ t.byte 0x03 + 256 * t.byte 0x04 = c.good % 65536
      ∧ t.byte 0x05 = min 2 (c.elapsed / 32000) ∧ t.byte 0x06 = if c.source = .crystal then c.code % 256 else 0xFF)
  ∧ (∀ c code quiet, s.timebase.selector = .ready c code quiet → t.byte 0x01 = 2 ∧ t.byte 0x02 = c.code
      ∧ t.byte 0x03 + 256 * t.byte 0x04 = (match c with
        | .internal => 0
        | .crystal => 2 ^ (11 + code) % 65536
        | .mains50 => 100
        | .mains60 => 120)
      ∧ t.byte 0x05 = 0 ∧ t.byte 0x06 = if c = .crystal then code % 256 else 0xFF)
  ∧ ∀ k, 0x07 ≤ k → k ≤ 0x2F → t.byte k = 0

/-- Table 3 of Chapter 11: the buffer of `t` shows the zone snapshot of `s`. -/
def State.showsZones (s t : State) : Prop :=
  (∀ z : ZoneIx,
    t.byte (2 * z.val) = (match s.zones[z] with
      | .ownedOn n => n.val
      | .ownedOff n _ => 0x40 + n.val
      | .free => 0x80
      | .resting _ => 0x81
      | .manualOn => 0x82
      | .manualOff _ => 0x83)
    ∧ t.byte (2 * z.val + 1) = (match s.zones[z] with
      | .resting r | .ownedOff _ (some r) | .manualOff (some r) => r % 256
      | .free | .ownedOn _ | .ownedOff _ none | .manualOn | .manualOff none => 0))
  ∧ t.byte 0x20 = s.engaged
  ∧ ∀ k, 0x21 ≤ k → k ≤ 0x2F → t.byte k = 0

/-- R144, Table 3 of Chapter 11: the buffer of `t` shows the configuration record of `s` with its flags. -/
def State.showsConfig (s t : State) : Prop :=
  (∀ c : SiteConfig, c = (if s.site.valid then s.site.config else SiteConfig.cold) →
    t.byte 0x00 = c.budget % 256 ∧ t.byte 0x01 = c.crystalCode % 256
      ∧ (∀ z : ZoneIx, t.byte (2 + z.val) = c.rests[z] % 256)
      ∧ t.byte 0x12 + 256 * t.byte 0x13 = c.zonePolarity.toNat ∧ t.byte 0x14 = c.sensorPolarity.toNat
      ∧ t.byte 0x15 = c.latchModes.toNat ∧ t.byte 0x16 + 256 * t.byte 0x17 = c.filterCodes.toNat)
  ∧ t.byte 0x18 = (if s.site.valid then 1 else 0) + (if s.site.lock then 2 else 0)
  ∧ ∀ k, 0x19 ≤ k → k ≤ 0x2F → t.byte k = 0

/-- R164: a refusal leaves every block and the buffer as they were. -/
def State.refuses (s t : State) (result : ResultCode) (detail : Byte) : Prop :=
  s.completes t result detail ∧ t.iface.buffer = s.iface.buffer ∧ t = { s with iface := t.iface }

/-- R11, Table 2 of Chapter 11: the code of signal `i` in the spec bytes of a record. -/
def specNibble (r : Nat → Nat) (i : Nat) : Nat := r (0x13 + i / 2) / 16 ^ (i % 2) % 16

/-- R11: something in the byte of a record at offset `k` of Table 2 of Chapter 11 offends: an unassigned unit, a calendar value out of
range or on another kind, an impossible date, an empty weekday set or one that is not full on another kind, a follow source of 48 or more,
a duration of 0, a cap without PULSES, an absent pattern of a PATTERN entry or one that is all IGNORE, an unassigned spec, or a transition
spec in a permit or in a LEVEL pattern. -/
def recordOffends (r : Nat → Nat) (k : Nat) : Prop :=
  (k = 0x04 ∧ r 0x04 / 8 % 4 = 3)
    ∨ ((k = 0x05 ∨ k = 0x06) ∧ r k ≠ 0xFF ∧ (59 < r k ∨ r 0x03 % 4 ≠ 0))
    ∨ (k = 0x07 ∧ r k ≠ 0xFF ∧ (23 < r k ∨ r 0x03 % 4 ≠ 0))
    ∨ (k = 0x08 ∧ r k ≠ 0xFF ∧ (r k = 0 ∨ 31 < r k ∨ r 0x03 % 4 ≠ 0
        ∨ (r k = 31 ∧ (r 0x09 = 2 ∨ r 0x09 = 4 ∨ r 0x09 = 6 ∨ r 0x09 = 9 ∨ r 0x09 = 11)) ∨ (r k = 30 ∧ r 0x09 = 2)))
    ∨ (k = 0x09 ∧ r k ≠ 0xFF ∧ (r k = 0 ∨ 12 < r k ∨ r 0x03 % 4 ≠ 0))
    ∨ (k = 0x0A ∧ (r k % 128 = 0 ∨ (r 0x03 % 4 ≠ 0 ∧ r k % 128 ≠ 127)))
    ∨ (k = 0x0B ∧ 47 < r k % 64)
    ∨ (k = 0x0E ∧ r 0x0E = 0 ∧ r 0x0F = 0)
    ∨ (k = 0x11 ∧ r k ≠ 0 ∧ r 0x04 / 8 % 4 ≠ 2)
    ∨ (k = 0x12 ∧ ((r 0x03 % 4 = 1 ∧ r k % 2 = 0) ∨ (r k % 2 = 1 ∧ ∀ i : Fin 16, specNibble r i = 0)))
    ∨ ∃ i : Fin 16, k = 0x13 + i.val / 2
        ∧ (5 < specNibble r i
          ∨ (2 < specNibble r i ∧ r 0x12 % 2 = 1 ∧ (r 0x03 % 4 ≠ 1 ∨ r 0x12 / 4 % 2 = 1)))

/-- R61: something in the byte of a time record at offset `k` offends. Which bytes offend for a month that does not exist, and for
29 February of a year of 100 or more, is the model's choice (notes/assumptions/24.md): such a month has 31 days, and such a year is a leap
year when 4 divides it. -/
def timeOffends (r : Nat → Nat) (k : Nat) : Prop :=
  ((k = 0 ∨ k = 1) ∧ 60 ≤ r k)
    ∨ (k = 2 ∧ 24 ≤ r 2)
    ∨ (k = 3 ∧ (r 3 = 0 ∨ 31 < r 3
        ∨ (r 3 = 31 ∧ (r 4 = 2 ∨ r 4 = 4 ∨ r 4 = 6 ∨ r 4 = 9 ∨ r 4 = 11)) ∨ (r 3 = 30 ∧ r 4 = 2)
        ∨ (r 3 = 29 ∧ r 4 = 2 ∧ r 5 % 4 ≠ 0)))
    ∨ (k = 4 ∧ (r 4 = 0 ∨ 13 ≤ r 4))
    ∨ (k = 5 ∧ 100 ≤ r 5)

/-- R8, R4 to R7, Tables 1 and 2 of Chapter 11: each field of the definition part where the record holds it. -/
def Definition.reads (d : Definition) (r : Nat → Nat) : Prop :=
  d.tag.toNat = r 0x02
  ∧ d.kind = (match r 0x03 % 4 with
    | 0 => .calendar
    | 1 => .pattern
    | 2 => .follow
    | _ => .manual)
  ∧ d.rep = (if (r 0x03).testBit 2 then .recurring else .once)
  ∧ d.confirm = (if (r 0x03).testBit 3 then .required else .notNeeded)
  ∧ d.retrigger = (if (r 0x03).testBit 4 then .restart else .ignore)
  ∧ d.preempt = (r 0x03).testBit 5
  ∧ d.permitMode = (if (r 0x03).testBit 6 then .abort else .gate)
  ∧ d.priority.val = r 0x04 % 8
  ∧ d.unit = (match r 0x04 / 8 % 4 with
    | 0 => .seconds
    | 1 => .minutes
    | _ => .pulses)
  ∧ d.pulseSource.val = r 0x04 / 32
  ∧ d.calendarMatch.second = (if r 0x05 = 0xFF then none else some (r 0x05))
  ∧ d.calendarMatch.minute = (if r 0x06 = 0xFF then none else some (r 0x06))
  ∧ d.calendarMatch.hour = (if r 0x07 = 0xFF then none else some (r 0x07))
  ∧ d.calendarMatch.date = (if r 0x08 = 0xFF then none else some (r 0x08))
  ∧ d.calendarMatch.month = (if r 0x09 = 0xFF then none else some (r 0x09))
  ∧ d.calendarMatch.weekdays.toNat = r 0x0A % 128
  ∧ d.source.val = r 0x0B % 64
  ∧ d.followOn = (if (r 0x0B).testBit 6 then .anyEnd else .completedOnly)
  ∧ d.claim.toNat = r 0x0C + 256 * r 0x0D
  ∧ d.duration = r 0x0E + 256 * r 0x0F ∧ d.waitLimit = r 0x10 ∧ d.cap = r 0x11
  ∧ d.pattern.present = (r 0x12).testBit 0
  ∧ d.pattern.combine = (if (r 0x12).testBit 1 then .any else .all)
  ∧ d.pattern.sense = (if (r 0x12).testBit 2 then .level else .edge)
  ∧ (∀ i : Fin 16, d.pattern.specs[i] = (match specNibble r i with
    | 0 => .ignore
    | 1 => .low
    | 2 => .high
    | 3 => .change
    | 4 => .fall
    | _ => .rise))
  ∧ d.notify.toNat = r 0x1B % 32

/-- Table 3 of Chapter 11: the buffer of `t` shows the signal record of `s`. -/
def State.showsSignals (s t : State) : Prop :=
  t.byte 0x00 + 256 * t.byte 0x01 = s.levels.toNat
  ∧ (∀ k : SensorIx, (t.byte 0x02).testBit k.val = s.sensors[k].accepted ∧ (t.byte 0x03).testBit k.val = s.sensors[k].latch)
  ∧ ∀ k, 0x04 ≤ k → k ≤ 0x2F → t.byte k = 0

/-- Table 3 of Chapter 11: the buffer of `t` shows a set of entries and an owner, as FIND returns them. -/
def State.showsSet (t : State) (set : EntrySet) (owner : Option EntryIx) : Prop :=
  (∀ n : EntryIx, (t.byte (n.val / 8)).testBit (n.val % 8) = set.getLsbD n.val)
  ∧ t.byte 0x06 = (match owner with
    | some n => n.val
    | none => 0xFF)
  ∧ ∀ k, 0x07 ≤ k → k ≤ 0x2F → t.byte k = 0

/-- Table 3 of Chapter 11: the buffer of `t` shows a notice record, by its five bytes. -/
def State.showsNotice (t : State) (index categories tag state outcome : Nat) : Prop :=
  t.byte 0x00 = index ∧ t.byte 0x01 = categories ∧ t.byte 0x02 = tag ∧ t.byte 0x03 = state ∧ t.byte 0x04 = outcome
    ∧ ∀ k, 0x05 ≤ k → k ≤ 0x2F → t.byte k = 0

/-- Every slot but `n` as it was. -/
def State.otherSlotsKept (s t : State) (n : EntryIx) : Prop := ∀ m : EntryIx, m ≠ n → t.table[m] = s.table[m]

/-- R120: each zone of a claim set moved by `x` and every other zone as it was. -/
def State.zonesMoved (s t : State) (claim : ZoneSet) (x : ZoneEffect) : Prop :=
  ∀ z : ZoneIx, t.zones[z] = if claim.getLsbD z.val then x.apply (s.restTime z) s.zones[z] else s.zones[z]

/-- Table 3 of Chapter 11: the mask of SET ZONES holds the zone. -/
def State.zoneMasked (s : State) (z : ZoneIx) : Prop := s.zoneMask.getLsbD z.val = true

/-- R121, Table 2 of Chapter 7: the zone refuses its mode. ON is refused by an owned zone and while a rest runs, OFF by an owned
zone. -/
def State.zoneBusy (s : State) (z : ZoneIx) : Prop :=
  s.zoneMasked z
    ∧ ((s.zoneModeCode z = 1 ∧ (s.zones[z].owner.isSome = true ∨ s.zones[z].rest.isSome = true))
      ∨ (s.zoneModeCode z = 2 ∧ s.zones[z].owner.isSome = true))

/-- R48: the LEVEL re-check of an ARMED entry takes a trigger. -/
def State.levelHolds (s : State) (d : Definition) : Prop :=
  s.isLive = true ∧ d.kind = .pattern ∧ d.pattern.sense = .level ∧ d.pattern.satisfied s.levels 0 = true

/-- R112, R113, R120, R127: the walk that the resolution of entry `n` with outcome `o` causes, by the release of its zones or by the
re-check of an entry that enters ARMED, and its follow events. `next` is the state that the resolution enters. -/
def State.endGroup (s : State) (n : EntryIx) (e : Entry) (o : EntryOutcome) (next : Phase) : FollowGroup where
  walk := (e.phase.ownsZones && e.defn.claim != 0) || (next == .armed && s.isLive && e.defn.isLevel && e.defn.pattern.satisfied s.levels 0)
  events := if s.isLive && o.isEnd then s.followLinks n o else []

/-- R113, R128: from `s` to `t` one group is handed on: its walk is caused at once where it has no follow event, and otherwise waits for
the last of them. Nothing else that is on its way changes. -/
def State.handsOn (s t : State) (g : FollowGroup) : Prop :=
  (g.events = [] → t.owed = { s.owed with walks := s.owed.walks + if g.walk then 1 else 0 })
    ∧ (g.events ≠ [] → t.owed = { s.owed with follows := s.owed.follows ++ [g] })

/-- R128: a walk is caused from `s` to `t`, at once or after the follow events of a group handed on with it. -/
def State.walkCaused (s t : State) : Prop :=
  (t.owed.walks = s.owed.walks + 1 ∧ t.owed.follows = s.owed.follows)
    ∨ (t.owed.walks = s.owed.walks ∧ ∃ g, t.owed.follows = s.owed.follows ++ [g] ∧ g.walk = true)

/-- R26: DUE by a trigger. -/
def freshWait : WaitState := { remaining := none, elapsed := 0, seconds := 0 }

/-- R49: a category added to a pending set under the gating of the notify set. -/
def Entry.noted (e : Entry) (c : Category) : NoticeSet := e.pending ||| (c.bit &&& e.defn.notify)

end Sys2Proof.Machine
end

