-- ==== Sys2Proof/Certificates/Slice0/Obligations.lean ====
section
/-! DEFINITION. The statements for the provers: the block as a queue of rows, then chapter by chapter what each row does and leaves
alone, then the laws that every step keeps. -/

open Sys2Proof Sys2Proof.Machine

/-! ### The block -/

/-- A step on a queue with a row at its front is that row on the rest of the queue. -/
def Obligations.StepTakesFrontRow : Prop :=
  ∀ (c : Instr) (rest : List Instr) (s : State),
    step { s with pending := c :: rest } = exec c { s with pending := rest }

/-- Every row answers a next state and leaves the queue alone, and so every step answers a next state: the spec gives the ZS48
no stop. That a row whose occasion has not come answers too is the model's choice (log 2), and so is the step on an empty queue (log 3). -/
def Obligations.NoRowStops : Prop :=
  (∀ (c : Instr) (s : State), ∃ t, exec c s = .next t ∧ t.pending = s.pending) ∧ ∀ s : State, s.goesOn

/-- R161: the command in progress completes with its own row, whatever the state: BUSY is cleared, no code is held, RESULT takes a
code other than NONE and the pointer stays. An unassigned code completes with UNKNOWN_COMMAND and itself in DETAIL. The row of another
command leaves everything alone, which is the model's choice (log 2). A command reads its input in the transfer buffer. -/
def Obligations.CommandInProgressCompletes : Prop :=
  (∀ (s : State) (code : Byte), s.inProgress code = true ↔ s.iface.busy = true ∧ s.iface.code = some code)
  ∧ (∀ (s : State) (a : Nat), s.input a = (s.iface.buffer.read a).toNat)
  ∧ ∀ (s : State) (prg : Bool) (code : Byte), s.iface.busy = true → s.iface.code = some code →
    (∃ t r d, exec (rowOf prg code) s = .next t ∧ s.completes t r d ∧ r ≠ .none)
      ∧ (assignedCodes.contains code = false → ∃ t, exec .unknownCommand s = .next t ∧ s.refuses t .unknownCommand code)
      ∧ ∀ other : Byte, assignedCodes.contains other = true → other ≠ code → exec (rowOf prg other) s = .next s

/-- Every law of the ZS48 holds of the state after reset. -/
def Obligations.ResetIsLawful : Prop := State.reset.Lawful

/-- R147, Table 2 of Chapter 8: what a cold start leaves, whatever stood before. State.reset is the same with its pins low (log 1). Where
the spec gives no value, those left are the model's: the two of the bus fields in Interface.fresh (log 13), and the empty marks of the second
event under way in Owed.nothing (log 5). -/
def Obligations.ColdStartRow : Prop :=
  ∀ s : State, s.supply.mark = false →
    ∃ t, exec .coldStart s = .next t
      ∧ (∀ n : EntryIx, t.table[n] = none) ∧ t.turn = [] ∧ t.boundary = 0
      ∧ t.calendar = { second := 0, minute := 0, hour := 0, date := 1, month := 1, year := 0 } ∧ t.timeValid = false
      ∧ weekday t.calendar = 6
      ∧ t.timebase.active = .internal ∧ t.timebase.selector = .steady ∧ t.timebase.prescaler = 0
      ∧ t.timebase.crystalRunning = false
      ∧ t.flags = 0
      ∧ (∀ k : SensorIx, t.sensors[k].accepted = s.sensors[k].pin ∧ t.sensors[k].latch = false
          ∧ t.sensors[k].filter = none)
      ∧ (∀ z : ZoneIx, t.zones[z] = .free)
      ∧ t.engine.mode = .suspended ∧ t.engine.remembered = .suspended
      ∧ t.site = { config := SiteConfig.cold, valid := false, lock := false }
      ∧ t.supply = { condition := .main, qualification := 0, mark := true }
      ∧ t.device = noticeColdStart ∧ t.iface = Interface.fresh ∧ t.owed = Owed.nothing

/-! ### Chapter 1: the schedule table -/

/-- R14, R89: a LOAD that passes its checks places a fresh entry at the tail of the turn order list, with its stored values evaluated at
the current levels; where it leaves the entry ARMED, LEVEL and satisfied in LIVE, the entry is DUE and one walk is caused. R8: the held bit
is bit 7 of byte 0x03. -/
def Obligations.LoadPlacesEntry : Prop :=
  (∀ r : Nat → Nat, heldBit r = (r 0x03).testBit 7)
  ∧ ∀ (s : State) (n : EntryIx), s.inProgress 0x10 = true → s.namedEntry = some n → s.isProtected n = false →
    s.table[n] = none → definitionFault s.input = none → s.badLink n (Definition.ofRecord s.input) = false →
    ∃ t e, exec .load s = .next t ∧ t.table[n] = some e
      ∧ e.defn = Definition.ofRecord s.input ∧ e.lastOutcome = none ∧ e.lastStart = none ∧ e.pending = 0
      ∧ e.storedPattern = (if e.defn.kind = .pattern then some (e.defn.pattern.satisfied s.levels 0) else none)
      ∧ e.storedPermit = (if e.defn.hasPermit then some (e.defn.pattern.satisfied s.levels 0) else none)
      ∧ (heldBit s.input = true → e.phase = .held ∧ e.snapshot = none ∧ t.owed = s.owed)
      ∧ (heldBit s.input = false → ¬ s.levelHolds e.defn → e.phase = .armed ∧ e.snapshot = none ∧ t.owed = s.owed)
      ∧ (heldBit s.input = false → s.levelHolds e.defn →
          e.phase = .due freshWait ∧ e.snapshot = some s.levels
            ∧ t.owed = { s.owed with walks := s.owed.walks + 1 })
      ∧ t.turn = s.turn ++ [n] ∧ s.otherSlotsKept t n
      ∧ s.completes t .ok 0 ∧ t.shows (t.entryImage n)
      ∧ t = { s with table := t.table, turn := t.turn, owed := t.owed, iface := t.iface }

/-- R13, Table 3 of Chapter 1: the checks of LOAD and MODIFY in their order, each refusal with its DETAIL and nothing changed. R11, R165:
a record is refused for a field exactly where one offends, at the lowest offset. MODIFY finds its entry as its own follow event leaves it
(R114). R12: a link is bad where a FOLLOW record names an EMPTY slot other than its own. R16: the restricted fields of an active entry are the
kind, the unit, the pulse source of a PULSES entry and the claim set. R2, R22: byte 0x00 names the entry, and an index below the boundary is
protected. -/
def Obligations.RecordCommandRefusals : Prop :=
  (∀ (s : State) (n : EntryIx), (s.namedEntry = some n ↔ s.input 0 = n.val)
    ∧ (s.namedEntry = none ↔ 48 ≤ s.input 0) ∧ (s.isProtected n = true ↔ n.val < s.boundary))
  ∧
  (∀ (s : State) (n : EntryIx) (d : Definition),
    s.badLink n d = true ↔ d.kind = .follow ∧ d.source ≠ n ∧ s.table[d.source] = none)
  ∧ (∀ (e : Entry) (d : Definition) (kind unit claim : Prop),
    (kind ↔ e.defn.kind ≠ d.kind) →
    (unit ↔ e.defn.unit ≠ d.unit ∨ (e.defn.unit = .pulses ∧ e.defn.pulseSource ≠ d.pulseSource)) →
    (claim ↔ e.defn.claim ≠ d.claim) →
    ∀ k, e.activeFault d = some k ↔ e.phase.isActive = true
      ∧ ((k = 0x03 ∧ kind) ∨ (k = 0x04 ∧ ¬ kind ∧ unit) ∨ (k = 0x0C ∧ ¬ kind ∧ ¬ unit ∧ claim)))
  ∧
  (∀ r : Nat → Nat, (∀ k, r k < 256) →
    (definitionFault r = none ↔ ∀ k, ¬ recordOffends r k)
      ∧ ∀ k, definitionFault r = some k ↔ recordOffends r k ∧ ∀ j, j < k → ¬ recordOffends r j)
  ∧ ∀ (s x : State) (c : Instr),
    ((c = .load ∧ s.inProgress 0x10 = true ∧ x = s) ∨ (c = .modify ∧ s.inProgress 0x11 = true ∧ x = s.settleSelf)) →
    ∃ t, exec c s = .next t
      ∧ (x.namedEntry = none → x.refuses t .badIndex 0)
      ∧ ∀ n : EntryIx, x.namedEntry = some n →
        (x.isProtected n = true → x.refuses t .entryProtected (byteOf x.boundary))
        ∧ (x.isProtected n = false →
          (c = .load → x.table[n].isSome = true → x.refuses t .occupied 0)
          ∧ (c = .modify → x.table[n] = none → x.refuses t .emptySlot 0)
          ∧ ((c = .load ↔ x.table[n] = none) →
            (∀ k, definitionFault x.input = some k → x.refuses t .invalidField (byteOf k))
            ∧ (definitionFault x.input = none →
              (x.badLink n (Definition.ofRecord x.input) = true → x.refuses t .badLink 0x0B)
              ∧ (x.badLink n (Definition.ofRecord x.input) = false → c = .modify →
                ∀ e k, x.table[n] = some e → e.activeFault (Definition.ofRecord x.input) = some k →
                  x.refuses t .active (byteOf k)))))

/-- R15: a MODIFY of an entry that is not active replaces its definition and keeps its status; only an ARMED entry that the record
makes LEVEL and satisfied takes a trigger. The entry stands as its own follow event leaves it (R114). Which permit transitions stay on their
way is log 12's. -/
def Obligations.ModifyReplacesDefinition : Prop :=
  ∀ (s x : State) (n : EntryIx) (e : Entry), s.inProgress 0x11 = true → x = s.settleSelf → x.namedEntry = some n →
    x.isProtected n = false → x.table[n] = some e → e.phase.isActive = false →
    definitionFault x.input = none → x.badLink n (Definition.ofRecord x.input) = false →
    ∃ t e', exec .modify s = .next t ∧ t.table[n] = some e'
      ∧ e'.defn = Definition.ofRecord x.input
      ∧ e'.lastOutcome = e.lastOutcome ∧ e'.lastStart = e.lastStart ∧ e'.pending = e.pending
      ∧ e'.storedPattern = e'.defn.patternValue x.levels 0 ∧ e'.storedPermit = e'.defn.permitValue x.levels 0
      ∧ (¬ (e.phase = .armed ∧ x.levelHolds e'.defn) →
          e'.phase = e.phase ∧ e'.snapshot = e.snapshot ∧ t.owed.walks = x.owed.walks)
      ∧ (e.phase = .armed → x.levelHolds e'.defn →
          e'.phase = .due freshWait ∧ e'.snapshot = some x.levels ∧ t.owed.walks = x.owed.walks + 1)
      ∧ (e.modifyTransition e' = none → t.owed.transitions = x.owed.transitions)
      ∧ (e.modifyTransition e' ≠ none → t.owed.transitions = x.owed.transitions.filter fun y => y.entry != n)
      ∧ t.owed = { x.owed with walks := t.owed.walks, transitions := t.owed.transitions }
      ∧ x.otherSlotsKept t n ∧ x.completes t .ok 0 ∧ t.shows (t.entryImage n)
      ∧ t = { x with table := t.table, owed := t.owed, iface := t.iface }

/-- R16, R17, Table 4 of Chapter 1: a MODIFY of an active entry that changes no restricted field keeps its status while its permit
keeps its value, and delivers the permit transition where the value changes: a RUNNING entry pauses under GATE and ends ABORTED under
ABORT, with the END notice, the next state, the walk and the follow events of such an end, a PAUSED one resumes, and a DUE one whose permit
becomes true causes a walk. False at a PAUSED entry and true at a RUNNING one have no effect. A changed priority or preempt setting causes
a walk.
Older transitions on their way are dropped where one is delivered, which is log 12's. The entry stands as its own follow event leaves it
(R114). -/
def Obligations.ModifyOfActiveEntry : Prop :=
  (∀ (e : Entry) (d : Definition) (levels : Levels), e.redefined d levels
    = { e with defn := d, storedPattern := d.patternValue levels 0, storedPermit := d.permitValue levels 0 })
  ∧
  (∀ (e : Entry) (d : Definition), e.phase.isActive = true →
    (e.activeFault d = none ↔ e.defn.kind = d.kind ∧ e.defn.unit = d.unit
      ∧ (e.defn.unit = .pulses → e.defn.pulseSource = d.pulseSource) ∧ e.defn.claim = d.claim))
  ∧ (∀ (e : Entry) (d : Definition), e.modifyWalks d = true ↔
    ((∃ w, e.phase = .due w) ∧ (e.defn.priority ≠ d.priority ∨ e.defn.preempt ≠ d.preempt))
      ∨ (e.phase.ownsZones = true ∧ e.defn.priority ≠ d.priority))
  ∧ (∀ (e e' : Entry) (value : Bool), e.modifyTransition e' = some value ↔
    e.storedPermit.getD true ≠ value ∧ e'.storedPermit.getD true = value)
  ∧
  ∀ (s x : State) (n : EntryIx) (e : Entry) (d : Definition), s.inProgress 0x11 = true → x = s.settleSelf →
    x.namedEntry = some n → x.isProtected n = false → x.table[n] = some e → e.phase.isActive = true →
    definitionFault x.input = none → d = Definition.ofRecord x.input → x.badLink n d = false →
    e.activeFault d = none →
    ∃ t e', exec .modify s = .next t ∧ t.table[n] = some e' ∧ e'.defn = d
      ∧ x.completes t .ok 0 ∧ t.shows (t.entryImage n) ∧ x.otherSlotsKept t n
      ∧ (e.modifyTransition e' = none →
          e' = e.redefined d x.levels ∧ x.zonesMoved t d.claim .keep
            ∧ t.owed = { x.owed with walks := x.owed.walks + if e.modifyWalks d then 1 else 0 })
      ∧ (e.modifyTransition e' ≠ none →
          t.owed.transitions = x.owed.transitions.filter fun y => y.entry != n)
      ∧ (∀ r, e.phase = .running r → e.modifyTransition e' = some false → d.permitMode = .gate →
          e' = { e.redefined d x.levels with phase := .paused r } ∧ x.zonesMoved t d.claim .pause
            ∧ t.owed.walks = x.owed.walks + if e.modifyWalks d then 1 else 0)
      ∧ (∀ r, e.phase = .running r → e.modifyTransition e' = some false → d.permitMode = .abort →
          e'.defn = d ∧ e'.lastOutcome = some .aborted ∧ e'.lastStart = e.lastStart ∧ e'.pending = (e.redefined d x.levels).noted .ending
            ∧ (e'.phase = d.nextPhase .aborted
                ∨ (d.nextPhase .aborted = .armed ∧ x.levelHolds d ∧ e'.phase = .due freshWait))
            ∧ x.zonesMoved t d.claim .release
            ∧ ∀ (y : State) (g : FollowGroup), y = x.putEntry n (some (e.redefined d x.levels)) →
              g = y.endGroup n (e.redefined d x.levels) .aborted (d.nextPhase .aborted) →
              ({ x with owed := { x.owed with transitions := t.owed.transitions } } : State).handsOn t
                { g with walk := g.walk || e.modifyWalks d })
      ∧ (∀ r, e.phase = .paused r → e.modifyTransition e' = some true →
          e' = { e.redefined d x.levels with phase := .running r } ∧ x.zonesMoved t d.claim .resume
            ∧ t.owed.walks = x.owed.walks + if e.modifyWalks d then 1 else 0)
      ∧ (∀ r, ((e.phase = .paused r ∧ e.modifyTransition e' = some false)
            ∨ (e.phase = .running r ∧ e.modifyTransition e' = some true)) →
          e' = e.redefined d x.levels ∧ x.zonesMoved t d.claim .keep
            ∧ t.owed = { x.owed with
                transitions := t.owed.transitions
                walks := x.owed.walks + if e.modifyWalks d then 1 else 0 })
      ∧ (∀ w, e.phase = .due w →
          e' = e.redefined d x.levels ∧ x.zonesMoved t d.claim .keep
            ∧ t.owed.walks = x.owed.walks + if e.modifyTransition e' = some true ∨ e.modifyWalks d = true then 1 else 0)
      ∧ t = { x with table := t.table, zones := t.zones, owed := t.owed, iface := t.iface }

/-- R2, R18, R166: FETCH copies the record of the slot, byte by byte as Table 2 of Chapter 11 lays it out, and changes nothing in the table;
an EMPTY slot is answered EMPTY_SLOT with the index and zeros, and an index of 48 or more is refused with BAD_INDEX. -/
def Obligations.FetchShowsRecord : Prop :=
  ∀ s : State, s.inProgress 0x12 = true →
    ∃ t, exec .fetch s = .next t
      ∧ (48 ≤ s.input 0 → s.refuses t .badIndex 0)
      ∧ (∀ n : EntryIx, s.input 0 = n.val →
        (∀ e, s.table[n] = some e → s.completes t .ok 0 ∧ t.shows (s.entryImage n) ∧ s.showsEntry t n e)
          ∧ (s.table[n] = none → s.completes t .emptySlot 0 ∧ t.shows [byteOf n.val]))
      ∧ t = { s with iface := t.iface }

/-- R19: FIND returns, as one set, the entries that match its selector, with the owner of a selected zone, which the ownership law puts in
the set, and changes nothing; a selector out of range is refused at its byte. Tables 1 and 3 of Chapter 11: the codes of the states, and a set
and an owner shown bit by bit. -/
def Obligations.FindReturnsMatches : Prop :=
  (∀ p : Phase, p.code = (match p with
    | .armed => 1
    | .held => 2
    | .due _ => 3
    | .running _ => 4
    | .paused _ => 5
    | .confirming => 6
    | .spent => 7))
  ∧
  (∀ (t : State) (set : EntrySet) (owner : Option EntryIx), t.shows (findResult set owner) → t.showsSet set owner)
  ∧ ∀ s : State, s.inProgress 0x13 = true →
    ∃ t, exec .find s = .next t ∧ t = { s with iface := t.iface }
      ∧ (∀ p : Entry → Bool,
          ((s.input 0 = 0 ∧ p = fun e => e.defn.tag == byteOf (s.input 1))
            ∨ (s.input 0 = 2 ∧ (1 ≤ s.input 1 ∧ s.input 1 ≤ 7) ∧ p = fun e => e.phase.code == s.input 1)) →
          s.completes t .ok 0 ∧ ∃ set : EntrySet, t.shows (findResult set none)
            ∧ ∀ m : EntryIx, set.getLsbD m.val = true ↔ ∃ e, s.table[m] = some e ∧ p e = true)
      ∧ (∀ z : ZoneIx, s.input 0 = 1 → s.input 1 = z.val →
          s.completes t .ok 0 ∧ ∃ set : EntrySet, t.shows (findResult set s.zones[z].owner)
            ∧ (∀ m : EntryIx, set.getLsbD m.val = true ↔
              ∃ e, s.table[m] = some e ∧ e.defn.claim.getLsbD z.val = true)
            ∧ (s.ownerLaw → ∀ n : EntryIx, s.zones[z].owner = some n → set.getLsbD n.val = true))
      ∧ (s.input 0 = 1 → 16 ≤ s.input 1 → s.refuses t .invalidField 1)
      ∧ (s.input 0 = 2 → (s.input 1 = 0 ∨ 8 ≤ s.input 1) → s.refuses t .invalidField 1)
      ∧ (3 ≤ s.input 0 → s.refuses t .invalidField 0)

/-- R20, R21: a RETIRE of an entry that no other FOLLOW entry names empties its slot, takes it out of the turn order list and
releases the zones of a RUNNING or PAUSED entry, which causes a walk, with no outcome and no follow event: no new one is handed on, and what is
on its way to the entry is lost, while a walk that waited only for a follow event to it is caused (log 7). One that is named is refused with
IN_USE and the lowest index that names it, and an index of 48 or more with BAD_INDEX (R2). -/
def Obligations.RetireEmptiesSlot : Prop :=
  (∀ (s : State) (n : EntryIx) (names : EntryIx → Prop),
    (∀ m, names m ↔ m ≠ n ∧ ∃ e, s.table[m] = some e ∧ e.defn.kind = .follow ∧ e.defn.source = n) →
    (s.firstFollower n = none ↔ ∀ m, ¬ names m)
      ∧ ∀ m, s.firstFollower n = some m ↔ names m ∧ ∀ j, j < m → ¬ names j)
  ∧ ∀ s : State, s.inProgress 0x14 = true →
    ∃ t, exec .retire s = .next t
      ∧ (48 ≤ s.input 0 → s.refuses t .badIndex 0)
      ∧ ∀ n : EntryIx, s.input 0 = n.val →
      (s.isProtected n = true → s.refuses t .entryProtected (byteOf s.boundary))
      ∧ (s.isProtected n = false → s.table[n] = none → s.refuses t .emptySlot 0)
      ∧ (∀ e m, s.isProtected n = false → s.table[n] = some e → s.firstFollower n = some m →
          s.refuses t .inUse (byteOf m.val))
      ∧ ∀ e, s.isProtected n = false → s.table[n] = some e → s.firstFollower n = none →
          t.table[n] = none ∧ s.otherSlotsKept t n ∧ t.turn = s.turn.erase n
            ∧ s.zonesMoved t e.defn.claim (if e.phase.ownsZones then .release else .keep)
            ∧ (∀ l, l ∈ t.links ↔ l ∈ s.links ∧ l.follower ≠ n)
            ∧ t.owed = {
                seconds := s.owed.seconds
                triggers := s.owed.triggers.filter fun y => y.entry != n
                transitions := s.owed.transitions.filter fun y => y.entry != n
                pulses := s.owed.pulses.map fun p => { p with reached := p.reached ||| entryBit n }
                follows := (s.owed.follows.map fun g => g.without n).filter fun g => g.events != []
                walks := s.owed.walks + (if e.phase.ownsZones && e.defn.claim != 0 then 1 else 0)
                  + ((s.owed.follows.map fun g => g.without n).filter fun g => g.events == [] && g.walk).length
                underway := {
                  entries := s.owed.underway.entries &&& ~~~(entryBit n)
                  zones := s.owed.underway.zones
                  group := s.owed.underway.group.without n } }
            ∧ s.completes t .ok 0 ∧ t.iface.buffer = s.iface.buffer
            ∧ t = { s with table := t.table, turn := t.turn, zones := t.zones, owed := t.owed, iface := t.iface }

/-- R23: SET PROTECT takes 0, 12, 24 or 48, lowers the boundary only with PRG asserted, and leaves the boundary in force in DETAIL. That the
sampled level of PRG is kept in the state is the model's choice (log 16). -/
def Obligations.SetProtectMovesBoundary : Prop :=
  ∀ (s : State) (prg : Bool) (b : Nat), s.inProgress 0x18 = true → s.input 0 = b →
    ∃ t, exec (.setProtect prg) s = .next t
      ∧ ((b = 0 ∨ b = 12 ∨ b = 24 ∨ b = 48) → s.boundary ≤ b ∨ prg = true →
          t.boundary = b ∧ s.completes t .ok (byteOf b))
      ∧ ((b = 0 ∨ b = 12 ∨ b = 24 ∨ b = 48) → b < s.boundary → prg = false →
          t.boundary = s.boundary ∧ s.completes t .entryProtected (byteOf s.boundary))
      ∧ (¬ (b = 0 ∨ b = 12 ∨ b = 24 ∨ b = 48) →
          t.boundary = s.boundary ∧ s.completes t .invalidField 0)
      ∧ t.iface.buffer = s.iface.buffer
      ∧ t = { s with boundary := t.boundary, iface := t.iface, pins := { s.pins with prg := prg } }

/-- R22: no row but a cold start changes the definition part of an entry below the protection boundary. R147 says that the contents are lost
with the retention mark; that the model keeps the definitions until the cold start is its own choice (log 14). -/
def Obligations.ProtectedDefinitionsKept : Prop :=
  ∀ (c : Instr) (s t : State) (n : EntryIx), c ≠ .coldStart → n.val < s.boundary → exec c s = .next t →
    t.definitionAt n = s.definitionAt n

/-- R165, R166: the definition part of a record that passes the checks of LOAD is what its image shows again, byte by byte from 0x02 to 0x1B,
with the held bit of 0x03, which LOAD alone reads, as 0, and 0 in the bits that Table 2 of Chapter 11 marks 0. Each field of the model's
Definition is read where Table 2 puts it, and so it survives the way through the table. -/
def Obligations.DefinitionRoundTrip : Prop :=
  ∀ r : Nat → Nat, (∀ k, r k < 256) → definitionFault r = none →
    (Definition.ofRecord r).reads r
    ∧ (Definition.ofRecord r).bytes.length = 26
    ∧ (∀ k, 0x02 ≤ k → k ≤ 0x1B → ((Definition.ofRecord r).bytes.getD (k - 2) 0).toNat =
        if k = 0x03 ∨ k = 0x0A ∨ k = 0x0B then r k % 128
        else if k = 0x12 then r k % 8
        else if k = 0x1B then r k % 32
        else r k)
    ∧ Definition.ofRecord (fun k => if 2 ≤ k then ((Definition.ofRecord r).bytes.getD (k - 2) 0).toNat else r k)
        = Definition.ofRecord r

/-! ### Chapter 2: the entry lifecycle -/

/-- R27: a trigger reaching a DUE entry is dropped, whatever its source: the entry keeps everything but an OVERLAP notice, and no
walk, zone or follower takes notice. The three sources that deliver triggers are the calendar, a pattern and a follow event. That a pattern
trigger on its way to a LEVEL entry, which START has made DUE meanwhile, is dropped with OVERLAP too follows R30 and R46 against the words
of R91, which is the model's reading (log 11). -/
def Obligations.TriggerAtDueEntryIsDropped : Prop :=
  ∀ (v : View) (e : Entry) (w : WaitState) (levels : Levels) (snapshot : Option Levels), v.live = true → e.phase = .due w →
    e.trigger v levels snapshot = Effect.only { e with pending := e.noted .overlap }
      ∧ (e.defn.kind = .pattern → e.patternTrigger v levels = Effect.only { e with pending := e.noted .overlap })
      ∧ (e.defn.kind = .follow → e.followEvent v = Effect.only { e with pending := e.noted .overlap })
      ∧ e.secondEvent v true true true = Effect.only { e with pending := e.noted .overlap }

/-- R33, Table 3 of Chapter 2: the next state after resolution. In LIVE an entry that enters ARMED may be DUE by its LEVEL re-check
(R48). -/
def Obligations.NextStateAfterResolution : Prop :=
  ∀ d : Definition,
    (∀ o, o = .completed ∨ o = .aborted ∨ o = .capped →
      (d.confirm = .required → d.nextPhase o = .confirming)
        ∧ (d.confirm = .notNeeded → d.rep = .once → d.nextPhase o = .spent)
        ∧ (d.confirm = .notNeeded → d.rep = .recurring → d.nextPhase o = .armed))
      ∧ (∀ o, o = .stopped ∨ o = .skipped ∨ o = .blocked →
        (d.rep = .once → d.nextPhase o = .spent) ∧ (d.rep = .recurring → d.nextPhase o = .armed))
      ∧ d.nextPhase .interrupted = .armed
      ∧ ∀ (v : View) (e : Entry) (o : EntryOutcome), e.defn = d →
        (v.live = false → (e.resolve v o).entry.phase = d.nextPhase o)
          ∧ ((e.resolve v o).entry.phase = d.nextPhase o
              ∨ (d.nextPhase o = .armed ∧ (e.resolve v o).entry.phase = .due freshWait))

/-- R39: the checks of HOLD, RELEASE, REARM, START and STOP in their order; a refusal changes nothing. START and STOP make no
protection check. The entry stands as its own follow event leaves it (R114). -/
def Obligations.LifecycleRefusals : Prop :=
  ∀ (s x : State) (c : Instr) (accepts : Phase → Bool), x = s.settleSelf →
    ((c = .hold ∧ s.inProgress 0x20 = true ∧ accepts = fun p => p != .held && p != .spent)
      ∨ (c = .release ∧ s.inProgress 0x21 = true ∧ accepts = fun p => p == .held)
      ∨ (c = .rearm ∧ s.inProgress 0x22 = true ∧ accepts = fun p => p == .spent)
      ∨ (c = .start ∧ s.inProgress 0x23 = true ∧ accepts = fun p => p == .armed)
      ∨ (c = .stop ∧ s.inProgress 0x24 = true ∧ accepts = Phase.isActive)) →
    ∃ t, exec c s = .next t
      ∧ (x.namedEntry = none → x.refuses t .badIndex 0)
      ∧ ∀ n : EntryIx, x.namedEntry = some n →
        (c ≠ .start → c ≠ .stop → x.isProtected n = true → x.refuses t .entryProtected (byteOf x.boundary))
        ∧ ((c = .start ∨ c = .stop ∨ x.isProtected n = false) →
          (x.table[n] = none → x.refuses t .emptySlot 0)
          ∧ ∀ e, x.table[n] = some e →
            (c = .start → x.isLive = false → x.refuses t .engineNotLive 0)
            ∧ ((c = .start → x.isLive = true) → accepts e.phase = false →
              x.refuses t .wrongState (byteOf e.phase.code)))

/-- R40, R41: HOLD takes an ARMED or CONFIRMING entry to HELD with nothing else changed, and ends an active one STOPPED on the way,
releasing its zones, which causes a walk (R120, R127), and, in LIVE, handing follow events to those whose follow on is ANY END. The entry
stands as its own follow event leaves it (R114). -/
def Obligations.HoldRow : Prop :=
  ∀ (s x : State) (n : EntryIx) (e : Entry), s.inProgress 0x20 = true → x = s.settleSelf → x.namedEntry = some n →
    x.isProtected n = false → x.table[n] = some e → e.phase ≠ .held → e.phase ≠ .spent →
    ∃ t e', exec .hold s = .next t ∧ t.table[n] = some e' ∧ e'.phase = .held
      ∧ (e.phase.isActive = false →
          e' = { e with phase := .held } ∧ t.owed = x.owed ∧ ∀ z : ZoneIx, t.zones[z] = x.zones[z])
      ∧ (e.phase.isActive = true →
          e' = { e with phase := .held, lastOutcome := some .stopped, pending := e.noted .ending }
            ∧ x.zonesMoved t e.defn.claim (if e.phase.ownsZones then .release else .keep)
            ∧ x.handsOn t {
                walk := e.phase.ownsZones && e.defn.claim != 0
                events := if x.isLive then x.followLinks n .stopped else [] })
      ∧ x.otherSlotsKept t n ∧ x.completes t .ok 0 ∧ t.shows (t.entryImage n)
      ∧ t = { x with table := t.table, zones := t.zones, owed := t.owed, iface := t.iface }

/-- R42, R43: RELEASE takes a HELD entry, and REARM a SPENT one, to ARMED, where a LEVEL re-check may make it DUE at once. The follow events
on their way to a released entry are of ends resolved before the RELEASE, and do not reach it. The entry stands as its own follow event leaves
it (R114). That a pattern trigger on its way to the entry stays on its way is the model's reading of R25 beside R89 (log 31), and so is that a
walk which waited only for follow events dropped at a RELEASE is caused at once (log 7). -/
def Obligations.ReleaseAndRearmRows : Prop :=
  ∀ (s x y : State) (c : Instr) (n : EntryIx) (e : Entry), x = s.settleSelf →
    ((c = .release ∧ s.inProgress 0x21 = true ∧ e.phase = .held ∧ y = x.dropFollowsTo n)
      ∨ (c = .rearm ∧ s.inProgress 0x22 = true ∧ e.phase = .spent ∧ y = x)) →
    x.namedEntry = some n → x.isProtected n = false → x.table[n] = some e →
    ∃ t e', exec c s = .next t ∧ t.table[n] = some e'
      ∧ (¬ x.levelHolds e.defn → e' = { e with phase := .armed } ∧ t.owed = y.owed)
      ∧ (x.levelHolds e.defn →
          e' = { e with phase := .due freshWait, snapshot := some x.levels }
            ∧ t.owed = { y.owed with walks := y.owed.walks + 1 })
      ∧ (c = .release → ∀ l, l ∈ t.links ↔ l ∈ x.links ∧ l.follower ≠ n)
      ∧ x.otherSlotsKept t n ∧ x.completes t .ok 0 ∧ t.shows (t.entryImage n)
      ∧ t = { x with table := t.table, owed := t.owed, iface := t.iface }

/-- R44: START of an ARMED entry in LIVE makes it DUE where its permit holds, and causes a walk; otherwise it resolves BLOCKED. The
snapshot becomes absent either way. The entry stands as its own follow event leaves it (R114). -/
def Obligations.StartRow : Prop :=
  ∀ (s x : State) (n : EntryIx) (e : Entry), s.inProgress 0x23 = true → x = s.settleSelf → x.namedEntry = some n →
    x.isLive = true → x.table[n] = some e → e.phase = .armed →
    ∃ t e', exec .start s = .next t ∧ t.table[n] = some e' ∧ e'.snapshot = none
      ∧ (e.defn.permitHolds x.levels = true →
          e' = { e with phase := .due freshWait, snapshot := none }
            ∧ t.owed = { x.owed with walks := x.owed.walks + 1 })
      ∧ (e.defn.permitHolds x.levels = false →
          e' = { e with
            phase := if e.defn.rep = .once then .spent else .armed
            snapshot := none
            lastOutcome := some .blocked
            pending := e.noted .skip } ∧ t.owed = x.owed)
      ∧ x.otherSlotsKept t n ∧ x.completes t .ok 0 ∧ t.shows (t.entryImage n)
      ∧ t = { x with table := t.table, owed := t.owed, iface := t.iface }

/-- R45: STOP ends the current trigger STOPPED and releases the zones of a run; the entry enters SPENT or ARMED, never CONFIRMING,
and an ARMED LEVEL entry whose pattern holds is DUE at once. The walk that the release or the re-check causes, and the follow events of the
ANY END followers in LIVE, are handed on as one group (R112, R113). The entry stands as its own follow event leaves it (R114). -/
def Obligations.StopRow : Prop :=
  ∀ (s x : State) (n : EntryIx) (e : Entry), s.inProgress 0x24 = true → x = s.settleSelf → x.namedEntry = some n →
    x.table[n] = some e → e.phase.isActive = true →
    ∃ t e', exec .stop s = .next t ∧ t.table[n] = some e'
      ∧ e'.lastOutcome = some .stopped ∧ e'.pending = e.noted .ending ∧ e'.lastStart = e.lastStart ∧ e'.defn = e.defn
      ∧ (e.defn.rep = .once → e'.phase = .spent ∧ e'.snapshot = e.snapshot)
      ∧ (e.defn.rep = .recurring → ¬ x.levelHolds e.defn → e'.phase = .armed ∧ e'.snapshot = e.snapshot)
      ∧ (e.defn.rep = .recurring → x.levelHolds e.defn → e'.phase = .due freshWait ∧ e'.snapshot = some x.levels)
      ∧ x.zonesMoved t e.defn.claim (if e.phase.ownsZones then .release else .keep)
      ∧ x.handsOn t (x.endGroup n e .stopped (if e.defn.rep = .once then .spent else .armed))
      ∧ x.otherSlotsKept t n ∧ x.completes t .ok 0 ∧ t.shows (t.entryImage n)
      ∧ t = { x with table := t.table, zones := t.zones, owed := t.owed, iface := t.iface }

/-- R36, R127, R128: CONFIRM takes every CONFIRMING entry with its tag to SPENT or ARMED, and returns their number and set; where there is
none it answers NOTHING. Where the re-check makes some of them DUE, one walk is caused, and otherwise none. Each entry stands as its own
follow event leaves it (R114). -/
def Obligations.ConfirmRow : Prop :=
  ∀ s x : State, s.inProgress 0x25 = true → x = s.settleSelf →
    ∃ t, exec .confirm s = .next t ∧ t = { x with table := t.table, owed := t.owed, iface := t.iface }
      ∧ (∀ n : EntryIx, (t.table[n]).isSome = (x.table[n]).isSome)
      ∧ (∀ (n : EntryIx) e, x.table[n] = some e → (e.phase = .confirming ∧ e.defn.tag = byteOf (x.input 0)) →
          ∃ e', t.table[n] = some e' ∧ e'.defn = e.defn ∧ e'.pending = e.pending ∧ e'.lastOutcome = e.lastOutcome
            ∧ (e.defn.rep = .once → e' = { e with phase := .spent })
            ∧ (e.defn.rep = .recurring → ¬ x.levelHolds e.defn → e' = { e with phase := .armed })
            ∧ (e.defn.rep = .recurring → x.levelHolds e.defn →
                e' = { e with phase := .due freshWait, snapshot := some x.levels }))
      ∧ (∀ (n : EntryIx) e, x.table[n] = some e → ¬ (e.phase = .confirming ∧ e.defn.tag = byteOf (x.input 0)) →
          t.table[n] = some e)
      ∧ ((∃ (n : EntryIx) (e : Entry), x.table[n] = some e ∧ e.phase = .confirming ∧ e.defn.tag = byteOf (x.input 0)
            ∧ e.defn.rep = .recurring ∧ x.levelHolds e.defn) →
          t.owed = { x.owed with walks := x.owed.walks + 1 })
      ∧ ((∀ (n : EntryIx) (e : Entry), x.table[n] = some e → e.phase = .confirming → e.defn.tag = byteOf (x.input 0) →
            e.defn.rep = .recurring → ¬ x.levelHolds e.defn) →
          t.owed = x.owed)
      ∧ ∃ set : EntrySet,
          (∀ n : EntryIx, set.getLsbD n.val = true ↔
            ∃ e, x.table[n] = some e ∧ e.phase = .confirming ∧ e.defn.tag = byteOf (x.input 0))
          ∧ (set ≠ 0 → x.completes t .ok (byteOf (setSize set)) ∧ t.shows (findResult set none))
          ∧ (set = 0 → x.refuses t .nothing 0)

/-- R37: CONFIRM FIRST confirms, among the CONFIRMING entries, one of highest priority, and among equals the one nearest the head of
the turn order list; where there is none it answers NOTHING. A table whose turn order law holds is asked for, so that every CONFIRMING
entry stands in the list (R126). Each entry stands as its own follow event leaves it (R114). -/
def Obligations.ConfirmFirstRow : Prop :=
  ∀ s x : State, s.inProgress 0x26 = true → x = s.settleSelf → x.turnLaw →
    ∃ t, exec .confirmFirst s = .next t ∧ t = { x with table := t.table, owed := t.owed, iface := t.iface }
      ∧ ((∀ (n : EntryIx) e, x.table[n] = some e → e.phase ≠ .confirming) → x.refuses t .nothing 0)
      ∧ ∀ (n : EntryIx) (e : Entry), x.table[n] = some e → e.phase = .confirming →
        (∀ (m : EntryIx) e', x.table[m] = some e' → e'.phase = .confirming →
          e'.defn.priority < e.defn.priority
            ∨ (e'.defn.priority = e.defn.priority ∧ x.turnPosition n ≤ x.turnPosition m)) →
        x.otherSlotsKept t n ∧ x.completes t .ok (byteOf n.val) ∧ t.shows (t.entryImage n)
          ∧ (e.defn.rep = .once → t.table[n] = some { e with phase := .spent } ∧ t.owed = x.owed)
          ∧ (e.defn.rep = .recurring → ¬ x.levelHolds e.defn →
              t.table[n] = some { e with phase := .armed } ∧ t.owed = x.owed)
          ∧ (e.defn.rep = .recurring → x.levelHolds e.defn →
              t.table[n] = some { e with phase := .due freshWait, snapshot := some x.levels }
                ∧ t.owed = { x.owed with walks := x.owed.walks + 1 })

/-! ### Chapters 3 and 4: the calendar and the Timebase -/

/-- R53, R55: each second event advances the calendar by one second as one carry chain, whatever the engine mode and time-valid, while
the part has a supply. The weekday is derived from the date: the first day of the calendar is a Saturday, a day keeps its weekday, and
each day after it has the next one in turn, up to the wrap of the century, which goes from a Thursday to a Saturday. -/
def Obligations.CalendarAdvance : Prop :=
  (∀ (s : State) (order : SecondOrder), s.powered = true →
      ∃ t, exec (.secondEvent order) s = .next t ∧ t.calendar = s.calendar.advance ∧ t.timeValid = s.timeValid)
    ∧ ∀ c : Calendar, c.valid = true →
      (c.second < 59 → c.advance = { c with second := c.second + 1 })
      ∧ (c.second = 59 → c.minute < 59 → c.advance = { c with second := 0, minute := c.minute + 1 })
      ∧ (c.second = 59 → c.minute = 59 →
        (c.hour < 23 → c.advance = { c with second := 0, minute := 0, hour := c.hour + 1 })
        ∧ (c.hour = 23 →
          (c.date < daysInMonth c.month c.year →
            c.advance = { c with second := 0, minute := 0, hour := 0, date := c.date + 1 })
          ∧ (c.date = daysInMonth c.month c.year →
            (c.month < 12 →
              c.advance = { c with second := 0, minute := 0, hour := 0, date := 1, month := c.month + 1 })
            ∧ (c.month = 12 →
              c.advance = { second := 0, minute := 0, hour := 0, date := 1, month := 1
                            year := if c.year = 99 then 0 else c.year + 1 }))))
      ∧ 1 ≤ weekday c ∧ weekday c ≤ 7 ∧ weekday Calendar.cold = 6
      ∧ (c = { second := 59, minute := 59, hour := 23, date := 31, month := 12, year := 99 } →
          weekday c = 4 ∧ c.advance = Calendar.cold)
      ∧ ((c.second ≠ 59 ∨ c.minute ≠ 59 ∨ c.hour ≠ 23) → weekday c.advance = weekday c)
      ∧ (c.second = 59 → c.minute = 59 → c.hour = 23 → ¬ (c.date = 31 ∧ c.month = 12 ∧ c.year = 99) →
          weekday c.advance = if weekday c = 7 then 1 else weekday c + 1)

/-- R61, R62, R63, R78: a SET TIME that passes its checks replaces the calendar, makes time-valid true and restarts the prescaler;
one that fails them is refused at its lowest offending byte. `x` is the state in which the second events that came first have been counted,
as R63 says, with the old time advanced; where none came, it is the state itself. What counts as come is the model's reading (log 9), and so
is the byte named for a date in a month or a year out of range (log 24). The SET TIME itself touches no counter of second events (R65). That the
walk of a second event counted so stays owed, and comes after the SET TIME, is the model's choice (log 33). -/
def Obligations.SetTimeRow : Prop :=
  (∀ r : Nat → Nat,
    (firstBad (timeChecks r) = none ↔ ∀ k, ¬ timeOffends r k)
      ∧ ∀ k, firstBad (timeChecks r) = some k ↔ timeOffends r k ∧ ∀ j, j < k → ¬ timeOffends r j)
  ∧ ∀ s x : State, s.inProgress 0x30 = true → x = s.secondsCome →
    (s.owed.seconds = 0 → s.owed.underway = Underway.nothing → x = s)
    ∧ (s.powered = true → (s.owed.seconds = 1 ∨ (s.owed.seconds = 0 ∧ s.owed.underway ≠ Underway.nothing)) →
        ∃ order, exec (.secondEvent order) s = .next { x with ticks := s.ticks })
    ∧ ∃ t, exec .setTime s = .next t
      ∧ (∀ k, firstBad (timeChecks s.input) = some k → s.refuses t .invalidField (byteOf k))
      ∧ (firstBad (timeChecks s.input) = none →
          t.calendar = { second := s.input 0, minute := s.input 1, hour := s.input 2, date := s.input 3
                         month := s.input 4, year := s.input 5 }
          ∧ t.calendar.valid = true ∧ t.timeValid = true
          ∧ t.timebase = { x.timebase with prescaler := 0, sincePrescaler := 0 }
          ∧ t.owed.seconds = 0 ∧ t.owed.underway = Underway.nothing
          ∧ s.completes t .ok 0 ∧ t.shows t.timeRecord
          ∧ t = { x with calendar := t.calendar, timeValid := true, timebase := t.timebase, iface := t.iface })

/-- R66, R80, R123, R144: READ TIME, READ CLOCK, READ ZONES and READ CONFIG return their image with OK and DETAIL 0 and change nothing
else. R167: each image byte by byte, as Table 3 of Chapter 11 lays it out. -/
def Obligations.ReadRows : Prop :=
  ∀ (s : State) (c : Instr) (image : List Byte),
    ((c = .readTime ∧ s.inProgress 0x31 = true ∧ image = s.timeRecord)
      ∨ (c = .readClock ∧ s.inProgress 0x39 = true ∧ image = s.clockRecord)
      ∨ (c = .readZones ∧ s.inProgress 0x49 = true ∧ image = s.zoneSnapshot)
      ∨ (c = .readConfig ∧ s.inProgress 0x51 = true ∧ image = s.configRecord)) →
    ∃ t, exec c s = .next t ∧ s.completes t .ok 0 ∧ t.shows image ∧ t = { s with iface := t.iface }
      ∧ (c = .readTime → s.showsTime t) ∧ (c = .readClock → s.showsClock t) ∧ (c = .readZones → s.showsZones t)
      ∧ (c = .readConfig → s.showsConfig t)

/-- R70: SELECT CLOCK judges the named source against the Timebase as it stands; the crystal oscillator runs where R75 says. A code that names
no source is refused at the source byte. That a second event which has reached some counter, and is not raised yet, finds the selector as the
SELECT CLOCK leaves it is the model's choice (log 35), and so is that naming INTERNAL after a fallback abandons a candidate that the fallback
kept, as R70 says, where R79 says that it makes no change (log 41). -/
def Obligations.SelectClockRow : Prop :=
  (∀ s : State, s.inProgress 0x38 = true → 4 ≤ s.input 0 →
    ∃ t, exec .selectClock s = .next t ∧ s.refuses t .invalidField 0)
  ∧ ∀ (s : State) (c : Source), s.inProgress 0x38 = true → s.input 0 = c.code →
    ∃ t, exec .selectClock s = .next t
      ∧ (c = s.timebase.active → t.timebase.selector = .steady)
      ∧ (c ≠ s.timebase.active → s.timebase.selector.candidate = some c →
          t.timebase.selector = s.timebase.selector)
      ∧ (c ≠ s.timebase.active → s.timebase.selector.candidate ≠ some c →
          (c = .internal → t.timebase.selector = .ready .internal 0 0)
          ∧ (c ≠ .internal → t.timebase.selector = .starting
              { source := c, good := 0, elapsed := 0, quiet := none
                code := if s.site.valid then s.site.config.crystalCode else 3 }))
      ∧ t.timebase = { s.timebase with selector := t.timebase.selector, crystalRunning := t.timebase.crystalRunning }
      ∧ t.crystalLaw
      ∧ s.completes t .ok 0 ∧ t.shows t.clockRecord
      ∧ t = { s with timebase := t.timebase, iface := t.iface }

/-- R71 to R73: the passes of a STARTING candidate and the failures of a candidate, and when each comes by itself: the good cycles of the
crystal and of MREF, the gap of 1 ms, the good mains periods, the 3 seconds of internal time, and the watch of a READY candidate. The figures
are whole cycles of the internal oscillator (log 17), and the first zero crossing of a check only begins a period (log 28). An internal cycle
makes the check, or the watch of a READY candidate, one cycle older, and then brings it the crystal's cycles or the zero crossing that fall in
it, which are free values (log 4), in that order (log 27). That a second event which has reached some counter, and is not raised yet, comes
after such a pass or failure for the selector is the model's choice (log 35). -/
def Obligations.CandidateRows : Prop :=
  (∀ c : Check,
    (c.source = .crystal → (Selector.starting c).crystalCycle
        = .starting { c with good := min (2 ^ (11 + c.code)) (c.good + 1), quiet := some 0 })
    ∧ (c.source.isMains = true → (Selector.starting c).mainsCycle = .starting { c with
        quiet := some 0
        good := if ∃ q, c.quiet = some q ∧ ((c.source = .mains50 ∧ 576 ≤ q ∧ q ≤ 704) ∨ (c.source = .mains60 ∧ 480 ≤ q ∧ q ≤ 585))
          then min (if c.source = .mains50 then 100 else 120) (c.good + 1) else 0 })
    ∧ (Selector.starting c).age = .starting { c with
        elapsed := c.elapsed + 1
        quiet := c.quiet.map (· + 1)
        good := if c.source = .crystal ∧ ∃ q, c.quiet = some q ∧ 32 < q + 1 then 0 else c.good })
  ∧ (∀ (s : State) (cycles : Nat), s.powered = true → cycles = Config.crystalCycles s.ticks →
    (∀ c : Check, s.timebase.selector = .starting c →
      (c.source = .crystal → s.timebase.crystalRunning = true →
        s.tick.timebase.selector = Nat.repeat Selector.crystalCycle cycles (Selector.starting c).age)
      ∧ (c.source.isMains = true → s.tick.timebase.selector =
          if Config.mainsCrossing s.ticks = true then (Selector.starting c).age.mainsCycle else (Selector.starting c).age))
    ∧ ∀ x code quiet, s.timebase.selector = .ready x code quiet →
      s.tick.timebase.selector = .steady
        ∨ s.tick.timebase.selector = .ready x code
          (if (x = .crystal ∧ s.timebase.crystalRunning = true ∧ 0 < cycles)
              ∨ (x.isMains = true ∧ Config.mainsCrossing s.ticks = true) then 0 else quiet + 1))
  ∧ ∀ s : State, s.powered = true →
    (∀ k : Check, s.timebase.selector = .starting k → k.source = .crystal →
      (.crystalCheckPass ∈ s.waiting ↔ 2 ^ (11 + k.code) ≤ k.good)
      ∧ (.checkTimeout ∈ s.waiting ↔ k.good < 2 ^ (11 + k.code) ∧ 96000 ≤ k.elapsed)
      ∧ ∃ t, exec .crystalCheckPass s = .next t
        ∧ t = { s with timebase := { s.timebase with selector := .ready .crystal k.code 0 } })
    ∧ (∀ k : Check, s.timebase.selector = .starting k → k.source.isMains = true →
      (.mainsCheckPass ∈ s.waiting ↔ (if k.source = .mains50 then 100 else 120) ≤ k.good)
      ∧ (.checkTimeout ∈ s.waiting ↔ k.good < (if k.source = .mains50 then 100 else 120) ∧ 96000 ≤ k.elapsed)
      ∧ ∃ t, exec .mainsCheckPass s = .next t
        ∧ t = { s with timebase := { s.timebase with selector := .ready k.source k.code 0 } })
    ∧ (∀ x code quiet, s.timebase.selector = .ready x code quiet →
      (.readyCandidateFault ∈ s.waiting ↔ (x = .crystal ∧ 32 ≤ quiet) ∨ (x.isMains = true ∧ 1920 ≤ quiet)))
    ∧ ∀ c : Instr,
      ((c = .checkTimeout ∧ ∃ k, s.timebase.selector = .starting k)
        ∨ (c = .readyCandidateFault ∧ ∃ x code quiet, s.timebase.selector = .ready x code quiet ∧ x ≠ .internal)) →
      ∃ t, exec c s = .next t ∧ t.timebase.selector = .steady ∧ t.timebase.active = s.timebase.active
        ∧ t.timebase.prescaler = s.timebase.prescaler ∧ t.crystalLaw
        ∧ t = { s with timebase := t.timebase, device := s.device ||| noticeClockFault }

/-- R67, R74: each cycle of the active source moves the prescaler, which raises the second event at its divisor and returns to 0. A READY
candidate becomes active at a second event of the active source: its prescaler begins at 0, the selector is STEADY, CLOCK_SWITCHED is set, by
the prescaler itself as by CLOCK_SWITCH, and that second event is raised once; that SECOND_EVENT counts it afterwards is the model's reading
(log 9), and that it is the one under way where that one is not raised yet is its choice (log 35). One internal cycle brings the prescaler every
cycle of the active source that falls in it, a free value for an external source (log 4). On an empty queue the part takes one of the rows that
wait, and where none waits one cycle of the internal oscillator, which is the model's choice (log 3). -/
def Obligations.ClockSwitchRow : Prop :=
  (Source.internal.divisor = 32000 ∧ Source.crystal.divisor = 32768 ∧ Source.mains50.divisor = 50 ∧ Source.mains60.divisor = 60)
  ∧ (∀ s : State,
    (s.timebase.prescaler + 1 < s.timebase.active.divisor →
      s.prescale = { s with timebase := { s.timebase with prescaler := s.timebase.prescaler + 1, sincePrescaler := 0 } })
    ∧ (s.timebase.active.divisor ≤ s.timebase.prescaler + 1 →
      s.prescale.timebase.prescaler = 0 ∧ s.prescale.owed = { s.owed with seconds := s.owed.seconds + 1 }
        ∧ ((∀ x code quiet, s.timebase.selector ≠ .ready x code quiet) →
          s.prescale.timebase.active = s.timebase.active ∧ s.prescale.timebase.selector = s.timebase.selector
            ∧ s.prescale.device = s.device)
        ∧ (∀ x code quiet, s.timebase.selector = .ready x code quiet →
          s.prescale.timebase.active = x ∧ s.prescale.timebase.selector = .steady ∧ s.prescale.crystalLaw
            ∧ s.prescale.device = s.device ||| noticeClockSwitched)
        ∧ s.prescale = { s with timebase := s.prescale.timebase, device := s.prescale.device, owed := s.prescale.owed }))
  ∧ (∀ (s : State) (cycles : Nat), s.powered = true → s.crystalLaw → s.prescalerLaw → s.timebase.selector = .steady →
    cycles = (match s.timebase.active with
      | .internal => 1
      | .crystal => Config.crystalCycles s.ticks
      | .mains50 | .mains60 => if Config.mainsCrossing s.ticks = true then 1 else 0) →
    s.tick.timebase.active = s.timebase.active ∧ s.tick.device = s.device
      ∧ s.tick.owed = { s.owed with seconds := s.tick.owed.seconds }
      ∧ s.tick.timebase.prescaler < s.timebase.active.divisor
      ∧ s.tick.owed.seconds * s.timebase.active.divisor + s.tick.timebase.prescaler
        = s.owed.seconds * s.timebase.active.divisor + s.timebase.prescaler + cycles
      ∧ s.tick.timebase.quiet = (if 0 < cycles then 0 else s.timebase.quiet + 1)
      ∧ s.tick.timebase.sincePrescaler = if 0 < cycles then 0 else s.timebase.sincePrescaler + 1)
  ∧ (∀ s : State, s.pending = [] →
    (s.waiting ≠ [] → ∃ i, i ∈ s.waiting ∧ step s = exec i s.nextTick)
    ∧ (s.powered = true → 0 < s.owed.seconds → ∃ order, .secondEvent order ∈ s.waiting)
    ∧ (s.waiting = [] → s.powered = true → s.timebase.active = .internal → s.timebase.selector = .steady →
      ∃ t, step s = .next t ∧ t.table = s.table ∧ t.calendar = s.calendar
        ∧ (s.timebase.prescaler + 1 < 32000 → t.timebase.prescaler = s.timebase.prescaler + 1 ∧ t.owed = s.owed)
        ∧ (s.timebase.prescaler + 1 = 32000 →
            t.timebase.prescaler = 0 ∧ t.owed = { s.owed with seconds := s.owed.seconds + 1 })))
  ∧ ∀ (s : State) (c : Source) (code quiet : Nat), s.powered = true → s.timebase.selector = .ready c code quiet →
    ∃ t, exec .clockSwitch s = .next t
      ∧ t.timebase.active = c ∧ t.timebase.selector = .steady ∧ t.timebase.prescaler = 0 ∧ t.crystalLaw
      ∧ t = { s with
          timebase := t.timebase
          device := s.device ||| noticeClockSwitched
          owed := { s.owed with seconds := s.owed.seconds + 1 } }

/-- R76: at the failure of an active external source INTERNAL becomes active at the position reached, a candidate other than INTERNAL
is kept, and CLOCK_FAULT is set. The position is that of the failed source's prescaler in whole internal cycles, exact where it is a whole
number of them and within one cycle where it is not, and which of the two is left open (log 8), advanced by the internal time since the last
cycle. Where no cycle has come since the source's switch, the time counts from the switch, which is the model's choice (log 40). The watch runs
out 1 ms, or 60 ms for mains, after the last cycle: 32 or 1920 whole cycles of the internal oscillator, judged at the cycle that completes them
(log 17). -/
def Obligations.ActiveSourceFaultRow : Prop :=
  ∀ s : State, s.powered = true → s.timebase.active ≠ .internal →
    (.activeSourceFault ∈ s.waiting ↔ (if s.timebase.active = .crystal then 32 else 1920) ≤ s.timebase.quiet)
    ∧ ∃ t, exec .activeSourceFault s = .next t
      ∧ t.timebase.active = .internal ∧ t.device = s.device ||| noticeClockFault ∧ t.crystalLaw
      ∧ (s.timebase.selector.candidate ≠ some .internal → t.timebase.selector = s.timebase.selector)
      ∧ (s.timebase.selector.candidate = some .internal → t.timebase.selector = .steady)
      ∧ (∃ position : Nat,
          s.timebase.prescaler * 32000 < (position + 1) * s.timebase.active.divisor
            ∧ position * s.timebase.active.divisor < s.timebase.prescaler * 32000 + s.timebase.active.divisor
            ∧ s.owed.seconds ≤ t.owed.seconds
            ∧ (t.owed.seconds - s.owed.seconds) * 32000 + t.timebase.prescaler
              = position + (s.timebase.sincePrescaler + (s.timebase.active.watchLimit - s.timebase.quiet)))
      ∧ t.timebase.prescaler < 32000
      ∧ t = { s with timebase := t.timebase, device := t.device, owed := { s.owed with seconds := t.owed.seconds } }

/-- R58, Table 3 of Chapter 3: a CALENDAR entry matches a time when each of its five values is any or equal and the weekday belongs to
its set. -/
def Obligations.MatchRule : Prop :=
  ∀ (m : CalendarMatch) (c : Calendar),
    m.matchesTime c = true ↔
      (∀ v, m.second = some v → v = c.second) ∧ (∀ v, m.minute = some v → v = c.minute)
        ∧ (∀ v, m.hour = some v → v = c.hour) ∧ (∀ v, m.date = some v → v = c.date)
        ∧ (∀ v, m.month = some v → v = c.month) ∧ m.weekdays.getLsbD (weekday c - 1) = true

/-! ### Triggers, counts, runs and walks (Chapters 2, 3, 6 and 7) -/

/-- R26, R28, R29, R110: what a trigger does at an entry, by its state, in LIVE; outside LIVE it does nothing (R25). A restart loads the run
counter from the run duration and takes the sub-minute count, cap elapsed and the cap second count that are present to 0. -/
def Obligations.TriggerRules : Prop :=
  ∀ (v : View) (e : Entry) (levels : Levels) (snapshot : Option Levels),
    (v.live = false → e.trigger v levels snapshot = Effect.only e)
    ∧ (v.live = true →
      (e.phase = .armed → e.defn.permitHolds levels = true →
        e.trigger v levels snapshot
          = { Effect.only { e with phase := .due freshWait, snapshot := snapshot } with walk := true })
      ∧ (e.phase = .armed → e.defn.permitHolds levels = false → levels = v.levels →
        e.trigger v levels snapshot = Effect.only
          { e with
            phase := if e.defn.rep = .once then .spent else .armed
            snapshot := snapshot
            lastOutcome := some .blocked
            pending := e.noted .skip })
      ∧ (e.phase = .held ∨ e.phase = .spent → e.trigger v levels snapshot = Effect.only e)
      ∧ (e.phase = .confirming →
        e.trigger v levels snapshot = Effect.only { e with pending := e.noted .overlap })
      ∧ (e.phase.ownsZones = true → e.defn.retrigger = .ignore →
        e.trigger v levels snapshot = Effect.only { e with pending := e.noted .overlap })
      ∧ (∀ r, e.phase = .running r → e.defn.retrigger = .restart →
        e.trigger v levels snapshot = Effect.only
          { e with
            phase := .running { r with
              counter := r.duration
              subMinute := if r.subMinute.isSome then some 0 else none
              capCount := if r.capCount.isSome then some { elapsed := 0, seconds := 0 } else none }
            snapshot := snapshot })
      ∧ (∀ r, e.phase = .paused r → e.defn.retrigger = .restart →
        e.trigger v levels snapshot = Effect.only
          { e with
            phase := .paused { r with
              counter := r.duration
              subMinute := if r.subMinute.isSome then some 0 else none
              capCount := if r.capCount.isSome then some { elapsed := 0, seconds := 0 } else none }
            snapshot := snapshot }))

/-- R101, R102, R104, R109, R134, R135: what one counted second does to the counts of an entry, and which outcome it brings about. -/
def Obligations.CountingRules : Prop :=
  ∀ e : Entry,
    (∀ r, e.phase = .running r → r.capCount = none → e.defn.unit = .seconds →
      (2 ≤ r.counter → e.secondEnds = none ∧ e.countOn = { e with phase := .running { r with counter := r.counter - 1 } })
      ∧ (r.counter = 1 → e.secondEnds = some .completed))
    ∧ (∀ r k, e.phase = .running r → r.capCount = none → e.defn.unit = .minutes → r.subMinute = some k →
      (k < 59 → e.secondEnds = none ∧ e.countOn = { e with phase := .running { r with subMinute := some (k + 1) } })
      ∧ (k = 59 → 2 ≤ r.counter →
        e.secondEnds = none
          ∧ e.countOn = { e with phase := .running { r with subMinute := some 0, counter := r.counter - 1 } })
      ∧ (k = 59 → r.counter = 1 → e.secondEnds = some .completed))
    ∧ (∀ r, e.phase = .running r → r.capCount = none → e.defn.unit = .pulses → e.secondEnds = none ∧ e.countOn = e)
    ∧ (∀ r, e.phase = .paused r → r.capCount = none → e.secondEnds = none ∧ e.countOn = e)
    ∧ (∀ r c, e.phase = .running r → e.defn.unit = .pulses → r.capCount = some c →
      (c.seconds < 59 → c.elapsed < r.cap → e.secondEnds = none
        ∧ e.countOn = { e with phase := .running { r with capCount := some { c with seconds := c.seconds + 1 } } })
      ∧ (c.seconds = 59 → c.elapsed + 1 < r.cap → e.secondEnds = none
        ∧ e.countOn = { e with phase := .running { r with capCount := some { elapsed := c.elapsed + 1, seconds := 0 } } })
      ∧ (c.seconds = 59 → c.elapsed + 1 = r.cap → e.secondEnds = some .capped))
    ∧ (∀ r c, e.phase = .paused r → r.capCount = some c →
      (c.seconds < 59 → c.elapsed < r.cap → e.secondEnds = none
        ∧ e.countOn = { e with phase := .paused { r with capCount := some { c with seconds := c.seconds + 1 } } })
      ∧ (c.seconds = 59 → c.elapsed + 1 < r.cap → e.secondEnds = none
        ∧ e.countOn = { e with phase := .paused { r with capCount := some { elapsed := c.elapsed + 1, seconds := 0 } } })
      ∧ (c.seconds = 59 → c.elapsed + 1 = r.cap → e.secondEnds = some .capped))
    ∧ ∀ w, e.phase = .due w →
      (w.seconds < 59 → (e.defn.waitLimit = 0 ∨ w.elapsed < e.defn.waitLimit) → e.secondEnds = none
        ∧ e.countOn = { e with phase := .due { w with seconds := w.seconds + 1 } })
      ∧ (w.seconds = 59 → w.elapsed ≤ 255 → (e.defn.waitLimit = 0 ∨ w.elapsed + 1 < e.defn.waitLimit) →
        e.defn.waitLimit ≤ 255 → e.secondEnds = none
          ∧ e.countOn = { e with phase := .due { w with seconds := 0, elapsed := min 255 (w.elapsed + 1) } })
      ∧ (0 < e.defn.waitLimit → e.defn.waitLimit ≤ 255 →
        (e.defn.waitLimit ≤ w.elapsed ∨ (w.seconds = 59 ∧ w.elapsed + 1 = e.defn.waitLimit)) →
        (w.remaining = none → e.secondEnds = some .skipped) ∧ (w.remaining.isSome = true → e.secondEnds = some .aborted))

/-- R68, R100, R105, R112, R119, R128: a second event reaches the counts of every entry that it does not trigger: one that the count ends is
resolved with the outcome of its count, its notice and its next state, and every other one counts on. An entry that the second event under way
has reached already is not counted again (log 5). A run that ends releases its zones: a switched-off zone starts its rest, which does not count
this second event, and one that rests goes on with its rest, counted once. The follow events and the walk of every end are handed on as one
group, and a second event that ends nothing, triggers nothing and frees no zone hands nothing on. A calendar match needs LIVE, time-valid and a
matching time (R57). For the zones the ownership law is asked for. Where no second event has been raised, SECOND_EVENT raises one itself, and a
READY candidate becomes active at it (log 9, log 35). Everything else of the part stays: a zone that is FREE, those of an entry that goes on,
but for their rests, and EMPTY slots. A held engine advances the calendar alone (R148). -/
def Obligations.SecondEventCounts : Prop :=
  (∀ (s : State) (order : SecondOrder), s.powered = true →
    ∃ t, exec (.secondEvent order) s = .next t
      ∧ (∀ n : EntryIx, s.table[n] = none → t.table[n] = none)
      ∧ (∀ z : ZoneIx, s.zones[z] = .free → t.zones[z] = .free)
      ∧ (s.ownerLaw → ∀ (n : EntryIx) (e : Entry) (z : ZoneIx), t.table[n] = some e → e.phase.ownsZones = true →
          (s.zones[z] = .ownedOn n → t.zones[z] = .ownedOn n)
          ∧ (s.zones[z] = .ownedOff n none → t.zones[z] = .ownedOff n none))
      ∧ (0 < s.owed.seconds → t.timebase = s.timebase ∧ t.device = s.device)
      ∧ (s.owed.seconds = 0 → (∀ x code quiet, s.timebase.selector ≠ .ready x code quiet) →
          t.timebase = { s.timebase with prescaler := 0, sincePrescaler := 0, quiet := 0 } ∧ t.device = s.device)
      ∧ (s.owed.seconds = 0 → ∀ x code quiet, s.timebase.selector = .ready x code quiet →
          t.timebase = { active := x, selector := .steady, prescaler := 0, sincePrescaler := 0, quiet := quiet
                         crystalRunning := x == .crystal }
            ∧ t.device = s.device ||| noticeClockSwitched)
      ∧ (s.takesArrivals = false → t.table = s.table ∧ t.zones = s.zones
          ∧ t.owed = { s.owed with seconds := s.owed.seconds - 1, underway := Underway.nothing })
      ∧ t = { s with
          table := t.table, zones := t.zones, calendar := s.calendar.advance, timebase := t.timebase, device := t.device
          owed := t.owed })
  ∧
  ∀ (s : State) (order : SecondOrder) (unmatched : Entry → Prop), s.takesArrivals = true →
    (∀ e, unmatched e ↔ e.defn.kind ≠ .calendar ∨ s.timeValid = false ∨ s.isLive = false
      ∨ e.defn.calendarMatch.matchesTime s.calendar.advance = false) →
    ∃ (t : State) (g : FollowGroup), exec (.secondEvent order) s = .next t
      ∧ ({ s with owed := { s.owed with seconds := s.owed.seconds - 1, underway := Underway.nothing } } : State).handsOn t g
      ∧ (s.owed.underway.group.walk = true → g.walk = true)
      ∧ (∀ l, l ∈ s.owed.underway.group.events → l ∈ g.events)
      ∧ (∀ l, l ∈ g.events → l ∈ s.owed.underway.group.events
          ∨ ∃ e o, s.table[l.source] = some e ∧ s.uncounted l.source = true ∧ l ∈ s.followLinks l.source o
            ∧ (unmatched e → e.secondEnds = some o))
      ∧ (s.owed.underway.group.events = [] → g.events.Nodup)
      ∧ ((∀ (n : EntryIx) (e : Entry), s.table[n] = some e → unmatched e ∧ (s.uncounted n = true → e.secondEnds = none)) →
          (∀ (z : ZoneIx) (r : Nat), s.zones[z] = .resting r → 2 ≤ r) → g = s.owed.underway.group)
      ∧ ∀ (n : EntryIx) (e : Entry), s.table[n] = some e → unmatched e →
        (s.uncounted n = false → t.table[n] = some e)
        ∧ (s.uncounted n = true → e.secondEnds = none → t.table[n] = some e.countOn)
        ∧ (s.uncounted n = true → ∀ o, e.secondEnds = some o →
          (∃ e', t.table[n] = some e' ∧ e'.defn = e.defn ∧ e'.lastOutcome = some o ∧ e'.lastStart = e.lastStart
            ∧ e'.pending = e.noted (if o = .skipped then .skip else .ending)
            ∧ (e'.phase = e.defn.nextPhase o
              ∨ (e.defn.nextPhase o = .armed ∧ s.levelHolds e.defn ∧ e'.phase = .due freshWait)))
          ∧ (∀ l, l ∈ (s.endGroup n e o (e.defn.nextPhase o)).events → l ∈ g.events)
          ∧ ((s.endGroup n e o (e.defn.nextPhase o)).walk = true → g.walk = true)
          ∧ (s.ownerLaw → e.phase.ownsZones = true → ∀ z : ZoneIx, e.defn.claim.getLsbD z.val = true →
            (s.zones[z] = .ownedOn n → t.zones[z] = if s.restTime z = 0 then .free else .resting (s.restTime z))
            ∧ (s.zones[z] = .ownedOff n none → t.zones[z] = .free)
            ∧ ∀ r, s.zones[z] = .ownedOff n (some r) →
              (s.owed.underway.zones.getLsbD z.val = true → t.zones[z] = .resting r)
              ∧ (s.owed.underway.zones.getLsbD z.val = false →
                (2 ≤ r → t.zones[z] = .resting (r - 1))
                ∧ (r ≤ 1 → (slotRunning s.table[n] = false ∨ order.restFirst.getLsbD z.val = false) → t.zones[z] = .free)
                ∧ (r ≤ 1 → slotRunning s.table[n] = true → order.restFirst.getLsbD z.val = true →
                  t.zones[z] = if s.restTime z = 0 then .free else .resting (s.restTime z)))))

/-- R57, R59, R60: in LIVE with time-valid, a CALENDAR entry whose match takes the advanced time is delivered one trigger. An ARMED one becomes
DUE where its permit holds, with a walk caused, and otherwise resolves BLOCKED; a HELD or SPENT one drops it silently, a CONFIRMING one with
OVERLAP. A DUE, RUNNING or PAUSED one drops it with OVERLAP or, under RESTART, restarts its run: `u` is what the match alone leaves of it. Where
the second event counts the entry too, the order gives which comes first: the count then ends or goes on from what the match left, or the match
finds what the count left, also the next state of an ended run or wait. An end hands on its follow events and its walk, and releases the zones
of a run. An entry that the second event under way has reached already is not counted again (log 5), but it is offered the time, also where it
was released or loaded meanwhile, which is the model's choice (log 36). -/
def Obligations.CalendarMatchTriggers : Prop :=
  ∀ (s : State) (order : SecondOrder) (n : EntryIx) (e : Entry), s.isLive = true → s.timeValid = true →
    s.table[n] = some e → e.defn.kind = .calendar →
    e.defn.calendarMatch.matchesTime s.calendar.advance = true →
    ∃ t, exec (.secondEvent order) s = .next t
      ∧ (e.phase = .armed → e.defn.permitHolds s.levels = true →
          t.table[n] = some { e with phase := .due freshWait, snapshot := none }
            ∧ s.walkCaused t)
      ∧ (e.phase = .armed → e.defn.permitHolds s.levels = false →
          t.table[n] = some { e with
            phase := if e.defn.rep = .once then .spent else .armed
            snapshot := none
            lastOutcome := some .blocked
            pending := e.noted .skip })
      ∧ (e.phase = .held ∨ e.phase = .spent → t.table[n] = some e)
      ∧ (e.phase = .confirming → t.table[n] = some { e with pending := e.noted .overlap })
      ∧ ∀ u : Entry,
        ((((∃ w, e.phase = .due w) ∨ (e.phase.ownsZones = true ∧ e.defn.retrigger = .ignore))
            ∧ u = { e with pending := e.noted .overlap })
          ∨ (∃ r p, e.defn.retrigger = .restart
            ∧ ((e.phase = .running r ∧ p = Phase.running) ∨ (e.phase = .paused r ∧ p = Phase.paused))
            ∧ (e.defn.unit = .minutes → r.subMinute.isSome = true)
            ∧ u = { e with
                phase := p { r with
                  counter := r.duration
                  subMinute := if r.subMinute.isSome then some 0 else none
                  capCount := if r.capCount.isSome then some { elapsed := 0, seconds := 0 } else none }
                snapshot := none })) →
        (s.uncounted n = false → t.table[n] = some u)
        ∧ (s.uncounted n = true → order.matchFirst.getLsbD n.val = true →
          (u.secondEnds = none → t.table[n] = some u.countOn)
          ∧ (∀ o, u.secondEnds = some o → t.table[n] = some { u with
              phase := u.defn.nextPhase o
              lastOutcome := some o
              pending := u.noted (if o = .skipped then .skip else .ending) }))
        ∧ (s.uncounted n = true → order.matchFirst.getLsbD n.val = false →
          (e.secondEnds = none → ((∃ w, e.phase = .due w) ∨ e.defn.retrigger = .ignore) →
            t.table[n] = some { e.countOn with pending := e.noted .overlap })
          ∧ (e.secondEnds = none → e.defn.retrigger = .restart → e.phase.ownsZones = true → t.table[n] = some u)
          ∧ (∀ o x, e.secondEnds = some o →
              x = { e with
                phase := e.defn.nextPhase o
                lastOutcome := some o
                pending := e.noted (if o = .skipped then .skip else .ending) } →
              (x.phase = .spent → t.table[n] = some x)
              ∧ (x.phase = .confirming → t.table[n] = some { x with pending := x.noted .overlap })
              ∧ (x.phase = .armed → e.defn.permitHolds s.levels = true →
                  t.table[n] = some { x with phase := .due freshWait, snapshot := none } ∧ s.walkCaused t)
              ∧ (x.phase = .armed → e.defn.permitHolds s.levels = false →
                  t.table[n] = some { x with
                    phase := if e.defn.rep = .once then .spent else .armed
                    snapshot := none
                    lastOutcome := some .blocked
                    pending := x.noted .skip })))
        ∧ ∀ x o, s.uncounted n = true → x.secondEnds = some o →
          ((order.matchFirst.getLsbD n.val = true ∧ x = u) ∨ (order.matchFirst.getLsbD n.val = false ∧ x = e)) →
          (∀ l, l ∈ s.followLinks n o → o.isEnd = true → l ∈ t.links)
          ∧ (x.phase.ownsZones = true → e.defn.claim ≠ 0 → s.walkCaused t)
          ∧ (s.ownerLaw → ∀ z : ZoneIx, e.defn.claim.getLsbD z.val = true → s.zones[z] = .ownedOn n →
              t.zones[z] = if s.restTime z = 0 then .free else .resting (s.restTime z))

/-- R119: a second event, or REST_END at one zone, counts a rest, and at its end the zone acts by its state: RESTING becomes FREE, which
joins the walk of that second event, OWNED_OFF becomes OWNED_ON where its owner is RUNNING, and MANUAL_OFF stays. REST_END as the second
event under way reaching one zone ahead of the others, with its mark and its walk kept, is the model's choice (log 5). -/
def Obligations.RestRows : Prop :=
  ∀ (s : State) (z : ZoneIx) (r : Nat), s.takesArrivals = true → s.owed.underway.zones.getLsbD z.val = false →
    (∀ order : SecondOrder, ∃ t, exec (.secondEvent order) s = .next t
      ∧ (s.zones[z] = .resting r → t.zones[z] = (if r ≤ 1 then .free else .resting (r - 1)) ∧ (r ≤ 1 → s.walkCaused t))
      ∧ (s.zones[z] = .manualOff (some r) → t.zones[z] = .manualOff (if r ≤ 1 then none else some (r - 1)))
      ∧ (s.zones[z] = .manualOn → t.zones[z] = .manualOn)
      ∧ (∀ (n : EntryIx) (e : Entry), s.zones[z] = .ownedOff n (some r) → s.ownerLaw → s.table[n] = some e →
          e.secondEnds = none →
          (e.defn.kind ≠ .calendar ∨ s.timeValid = false ∨ s.isLive = false
            ∨ e.defn.calendarMatch.matchesTime s.calendar.advance = false) →
          t.zones[z] = if r ≤ 1 then (if slotRunning s.table[n] then .ownedOn n else .ownedOff n none)
            else .ownedOff n (some (r - 1))))
    ∧ (s.zones[z].rest = some r → r ≤ 1 →
      ∃ t, exec (.restEnd z) s = .next t
        ∧ (∀ x : ZoneIx, x ≠ z → t.zones[x] = s.zones[x])
        ∧ (s.zones[z] = .resting r → t.zones[z] = .free ∧ t.owed.underway.group.walk = true)
        ∧ (s.zones[z] = .manualOff (some r) → t.zones[z] = .manualOff none)
        ∧ (∀ n : EntryIx, s.zones[z] = .ownedOff n (some r) →
            t.zones[z] = if slotRunning s.table[n] then .ownedOn n else .ownedOff n none)
        ∧ t.owed.underway.zones.getLsbD z.val = true
        ∧ t = { s with zones := t.zones, owed := t.owed })

/-- R148: a held engine counts no second event, ends no run, wait or rest, makes no walk and takes no pattern trigger, follow event, pulse
edge or permit transition: no entry, no zone and no place in the list changes. For the last two this rests on the law that nothing is on its
way to a held engine, which every step keeps. -/
def Obligations.HeldEngineTakesNothing : Prop :=
  (∀ s t : State, s.heldLaw → step s = .next t → t.heldLaw)
  ∧ ∀ (s : State) (c : Instr), s.engine.held = true →
    ((∃ order, c = .secondEvent order) ∨ (∃ n, c = .runCompleted n ∨ c = .capped n ∨ c = .waitLimitExpiry n)
      ∨ (∃ z, c = .restEnd z) ∨ c = .grantWalk ∨ (∃ n m, c = .patternTrigger n ∨ c = .followEvent m n)
      ∨ (s.heldLaw ∧ ((∃ k, c = .pulseEdge k) ∨ ∃ n, c = .permitFalse n ∨ c = .permitTrue n))) →
    ∃ t, exec c s = .next t ∧ t.table = s.table ∧ t.zones = s.zones ∧ t.turn = s.turn

/-- R103 to R105, R112, R135: RUN_COMPLETED, CAPPED and WAIT_LIMIT_EXPIRY resolve the entry whose count the coming second event ends, and
RUN_COMPLETED the one whose last pulse is on its way; a run's zones are released and nothing else of the table and the zones changes. The
walk and the follow events of the end are handed on: one to each FOLLOW entry that names the source and accepts the outcome. Those of a
second event join what that second event hands on, and a rest that starts there does not count it (R119); reaching one counter early is
the model's choice (log 5). -/
def Obligations.CountEndRows : Prop :=
  (∀ (s : State) (n : EntryIx) (o : EntryOutcome) (l : FollowLink), l ∈ s.followLinks n o ↔
    l.source = n ∧ ∃ e, s.table[l.follower] = some e ∧ e.defn.kind = .follow ∧ e.defn.source = n
      ∧ (e.defn.followOn = .completedOnly → o = .completed)
      ∧ (e.defn.followOn = .anyEnd → o = .completed ∨ o = .aborted ∨ o = .capped ∨ o = .stopped))
  ∧ ∀ (s : State) (n : EntryIx) (e : Entry) (c : Instr) (o : EntryOutcome) (g : FollowGroup), s.takesArrivals = true →
    s.table[n] = some e → g = s.endGroup n e o (e.defn.nextPhase o) →
    ((s.uncounted n = true ∧ e.secondEnds = some o
        ∧ ((c = .runCompleted n ∧ o = .completed) ∨ (c = .capped n ∧ o = .capped)
          ∨ (c = .waitLimitExpiry n ∧ e.phase.isActive = true ∧ e.phase.ownsZones = false)))
      ∨ (c = .runCompleted n ∧ o = .completed ∧ e.secondEnds ≠ some .completed
        ∧ ∃ r p, e.phase = .running r ∧ r.counter = 1 ∧ e.defn.unit = .pulses ∧ p ∈ s.owed.pulses
          ∧ p.sensor = e.defn.pulseSource ∧ p.reached.getLsbD n.val = false)) →
    ∃ t e', exec c s = .next t ∧ t.table[n] = some e'
      ∧ e'.defn = e.defn ∧ e'.lastOutcome = some o ∧ e'.lastStart = e.lastStart
      ∧ (e'.phase = e.defn.nextPhase o ∨ (e.defn.nextPhase o = .armed ∧ s.levelHolds e.defn ∧ e'.phase = .due freshWait))
      ∧ e'.pending = e.noted (if o = .skipped then .skip else .ending)
      ∧ s.zonesMoved t e.defn.claim (if e.phase.ownsZones then .release else .keep)
      ∧ s.otherSlotsKept t n
      ∧ (e.secondEnds = some o → s.uncounted n = true →
          t.owed = { s.owed with underway := {
            entries := s.owed.underway.entries ||| entryBit n
            zones := t.owed.underway.zones
            group := {
              walk := s.owed.underway.group.walk || g.walk
              events := s.owed.underway.group.events ++ g.events } } }
          ∧ ∀ z : ZoneIx, t.owed.underway.zones.getLsbD z.val
              = (s.owed.underway.zones.getLsbD z.val || (s.zones[z].rest.isNone && t.zones[z].rest.isSome)))
      ∧ (e.secondEnds ≠ some o → s.handsOn { t with owed := { t.owed with pulses := s.owed.pulses } } g
          ∧ ∃ i, s.endingPulse n = some i ∧ t.owed.pulses = markReached n i s.owed.pulses)
      ∧ t = { s with table := t.table, zones := t.zones, owed := t.owed }

/-- R99, R120, R126, R128, R129: a walk visits the DUE entries, priority 7 first and in the order of the list among equals. It grants each one
that it finds grantable and goes on, passes over one that is neither grantable nor may preempt (skip-ahead), and ends at a preemption. A granted
entry is RUNNING with its run state loaded, and owns its claim set OWNED_ON. The grant is stated whole for the first entry that is not passed
over. The turn order law and the ownership law are asked for. A walk with no cause changes nothing (R127). That a walk of another cause may come
before the follow events of a resolution have been taken is the model's choice (log 38). The size of a set is the number of its members. -/
def Obligations.GrantWalkGrants : Prop :=
  (∀ (set : ZoneSet) (members : List ZoneIx), members.Nodup → (∀ z, z ∈ members ↔ set.getLsbD z.val = true) →
    setSize set = members.length)
  ∧ (∀ (set : EntrySet) (members : List EntryIx), members.Nodup → (∀ n, n ∈ members ↔ set.getLsbD n.val = true) →
    setSize set = members.length)
  ∧
  (∀ s : State, s.owed.walks = 0 → exec .grantWalk s = .next s)
  ∧ (∀ s : State, s.turnLaw →
    (∀ n : EntryIx, n ∈ s.selection ↔ ∃ e w, s.table[n] = some e ∧ e.phase = .due w)
      ∧ s.selection.Pairwise fun a b => ∀ x y, s.table[a] = some x → s.table[b] = some y →
          y.defn.priority < x.defn.priority
            ∨ (y.defn.priority = x.defn.priority ∧ s.turnPosition a < s.turnPosition b))
  ∧ (∀ (s : State) (e : Entry), s.grantable e = true ↔
    e.storedPermit ≠ some false ∧ (∀ z : ZoneIx, e.defn.claim.getLsbD z.val = true → s.zones[z] = .free)
      ∧ s.engaged + setSize e.defn.claim ≤ s.budget)
  ∧ (∀ s : State, s.takesArrivals = true → 0 < s.owed.walks →
    exec .grantWalk s = .next (walkOver s.selection { s with owed := { s.owed with walks := s.owed.walks - 1 } }))
  ∧ (∀ s : State, walkOver [] s = s)
  ∧ (∀ (s : State) (n : EntryIx) (rest : List EntryIx) (e : Entry) (w : WaitState),
    s.table[n] = some e → e.phase = .due w →
    (s.grantable e = true → walkOver (n :: rest) s = walkOver rest (s.grant n e w))
      ∧ (s.grantable e = false → s.mayPreempt e = false → walkOver (n :: rest) s = walkOver rest s)
      ∧ (s.grantable e = false → s.mayPreempt e = true → walkOver (n :: rest) s = s.preempt (s.victims e)))
  ∧ ∀ (s : State) (n : EntryIx) (before rest : List EntryIx) (e : Entry) (w : WaitState), s.takesArrivals = true →
    0 < s.owed.walks → s.turnLaw → s.ownerLaw →
    s.selection = before ++ n :: rest →
    (∀ m, m ∈ before → ∀ x, s.table[m] = some x → s.grantable x = false ∧ s.mayPreempt x = false) →
    s.table[n] = some e → e.phase = .due w → s.grantable e = true →
    ∃ t r, exec .grantWalk s = .next t
      ∧ t.table[n] = some { e with phase := .running r, lastStart := some s.calendar, pending := e.noted .start }
      ∧ (∀ k, w.remaining = some k → r.counter = k) ∧ (w.remaining = none → r.counter = e.defn.duration)
      ∧ r.duration = e.defn.duration ∧ r.cap = e.defn.cap
      ∧ (e.defn.unit = .minutes → r.subMinute = some 0) ∧ (e.defn.unit ≠ .minutes → r.subMinute = none)
      ∧ (0 < e.defn.cap → r.capCount = some { elapsed := 0, seconds := 0 }) ∧ (e.defn.cap = 0 → r.capCount = none)
      ∧ (∀ z : ZoneIx, e.defn.claim.getLsbD z.val = true → t.zones[z] = .ownedOn n)
      ∧ (rest = [] → t.turn = s.turn.erase n ++ [n] ∧ s.otherSlotsKept t n ∧ t.owed.walks = s.owed.walks - 1
          ∧ ∀ z : ZoneIx, e.defn.claim.getLsbD z.val = false → t.zones[z] = s.zones[z])
      ∧ t = { s with table := t.table, zones := t.zones, turn := t.turn, owed := t.owed }

/-- R130, R131: a DUE entry that is not grantable may preempt when every zone of its claim set is FREE or owned by an entry of strictly
lower priority, and the budget holds its claim once the claims of those owners, the victims, are given back; an entry with no victims does not
preempt. A walk that comes to such an entry, whether it is the first or after entries passed over, carries the preemption out and ends: each
victim is DUE with remaining equal to its run counter and releases its zones, every other zone and entry stays, the preemptor and the turn
order list stay, and a zone that becomes FREE at once causes a walk. -/
def Obligations.GrantWalkPreempts : Prop :=
  (∀ (s : State) (e : Entry),
    (s.mayPreempt e = true ↔ e.defn.preempt = true ∧ e.storedPermit ≠ some false
      ∧ (∀ z : ZoneIx, e.defn.claim.getLsbD z.val = true → s.zones[z] = .free
          ∨ ∃ o x, s.zones[z].owner = some o ∧ s.table[o] = some x ∧ x.defn.priority < e.defn.priority)
      ∧ (∃ z : ZoneIx, e.defn.claim.getLsbD z.val = true ∧ s.zones[z] ≠ .free)
      ∧ s.engaged + setSize e.defn.claim
          ≤ s.budget + ((s.victims e).map fun o => setSize (slotClaim s.table[o])).sum)
    ∧ (s.victims e).Nodup
    ∧ ∀ m : EntryIx, m ∈ s.victims e ↔ ∃ z : ZoneIx, e.defn.claim.getLsbD z.val = true ∧ s.zones[z].owner = some m)
  ∧ ∀ (s : State) (n : EntryIx) (before rest : List EntryIx) (e : Entry) (w : WaitState), s.takesArrivals = true →
    0 < s.owed.walks → s.ownerLaw →
    s.selection = before ++ n :: rest →
    (∀ m, m ∈ before → ∀ x, s.table[m] = some x → s.grantable x = false ∧ s.mayPreempt x = false) →
    s.table[n] = some e → e.phase = .due w → s.grantable e = false →
    s.mayPreempt e = true →
    ∃ t, exec .grantWalk s = .next t
      ∧ t.table[n] = some e ∧ t.turn = s.turn
      ∧ (∀ (m : EntryIx) (x : Entry) (r : RunState), m ∈ s.victims e → s.table[m] = some x →
          (x.phase = .running r ∨ x.phase = .paused r) →
          t.table[m] = some { x with
            phase := .due { remaining := some r.counter, elapsed := 0, seconds := 0 }
            pending := x.noted .preempt }
          ∧ ∀ z : ZoneIx, x.defn.claim.getLsbD z.val = true →
              t.zones[z] = (s.zones[z]).release (s.restTime z))
      ∧ (∀ m : EntryIx, m ∉ s.victims e → t.table[m] = s.table[m])
      ∧ (∀ z : ZoneIx, (∀ m x, m ∈ s.victims e → s.table[m] = some x → x.defn.claim.getLsbD z.val = false) →
          t.zones[z] = s.zones[z])
      ∧ ((∃ z : ZoneIx, s.zones[z] ≠ .free ∧ t.zones[z] = .free) → t.owed.walks = s.owed.walks)
      ∧ ((∀ z : ZoneIx, t.zones[z] = .free → s.zones[z] = .free) → t.owed.walks = s.owed.walks - 1)
      ∧ t = { s with table := t.table, zones := t.zones, owed := { s.owed with walks := t.owed.walks } }

/-! ### Chapter 5: signals -/

/-- R90, R112 to R114: the first pattern trigger on its way to a PATTERN entry, and a follow event on its way to a FOLLOW entry, reach that
entry as a trigger, and nothing else of the table, the zones or the list changes. A LEVEL entry that START and a grant have taken to RUNNING
meanwhile drops its pattern trigger with OVERLAP, whatever its retrigger setting, which is the model's reading of R46 beside R91 (log 11); the
definition that judges a pattern trigger is the one that stands at its arrival (log 26). A follow event chosen at the resolution is delivered
whatever follow source and follow on its FOLLOW entry names since (log 32), and of two from one source to one follower that of the second event
under way comes first, and otherwise the one handed on first (log 34). A follow event delivered leaves its group, and the
walk that it causes joins the walk of the group: with the last follow event of the group its one walk is caused, and before that it waits
(R113, R128). Those of the second event under way wait for that second event (log 5). The follow event of an entry that follows itself
comes before a command that moves the entry on: `State.settleSelf` is every such event on its way, delivered, and leaves none. -/
def Obligations.TriggerArrivalRows : Prop :=
  (∀ s : State,
    ((∀ l, l ∈ s.links → l.source ≠ l.follower) → s.settleSelf = s)
      ∧ (∀ l, l ∈ s.settleSelf.links ↔ l ∈ s.links ∧ l.source ≠ l.follower)
      ∧ (∀ n : EntryIx, s.links = [{ source := n, follower := n }] → exec (.followEvent n n) s = .next s.settleSelf)
      ∧ s.settleSelf = { s with table := s.settleSelf.table, owed := s.settleSelf.owed })
  ∧ ∀ (s : State) (n : EntryIx) (e : Entry), s.isLive = true → s.table[n] = some e →
    (∀ x : PatternTrigger, s.owed.triggers.find? (fun y => y.entry == n) = some x → e.defn.kind = .pattern →
      ∃ t, exec (.patternTrigger n) s = .next t
        ∧ ((e.defn.pattern.sense = .edge ∨ e.phase.ownsZones = false) →
            t.table[n] = some (e.trigger s.view x.levels (some x.levels)).entry)
        ∧ (e.defn.pattern.sense = .level → e.phase.ownsZones = true →
            t.table[n] = some { e with pending := e.noted .overlap })
        ∧ (e.phase = .armed → e.defn.permitHolds x.levels = true →
            t.table[n] = some { e with phase := .due freshWait, snapshot := some x.levels }
              ∧ t.owed.walks = s.owed.walks + 1)
        ∧ (e.phase ≠ .armed → t.owed.walks = s.owed.walks)
        ∧ t.owed = { s.owed with triggers := s.owed.triggers.erase x, walks := t.owed.walks }
        ∧ s.otherSlotsKept t n ∧ t = { s with table := t.table, owed := t.owed })
    ∧ (∀ source : EntryIx, s.linkOnItsWay { source := source, follower := n } = true → e.defn.kind = .follow →
      ∃ t, exec (.followEvent source n) s = .next t
        ∧ t.table[n] = some (e.trigger s.view s.levels none).entry
        ∧ (e.phase = .armed → e.defn.permitHolds s.levels = true →
            t.table[n] = some { e with phase := .due freshWait, snapshot := none })
        ∧ t.links = s.links.erase { source := source, follower := n }
        ∧ (∀ (l : FollowLink) (due : Bool), l = { source := source, follower := n } →
            (due = true ↔ e.phase = .armed ∧ e.defn.permitHolds s.levels = true) →
            (l ∈ s.owed.underway.group.events →
              t.owed = { s.owed with underway := { s.owed.underway with
                entries := if due then s.owed.underway.entries ||| entryBit n else s.owed.underway.entries
                group := { walk := s.owed.underway.group.walk || due, events := s.owed.underway.group.events.erase l } } })
            ∧ (l ∉ s.owed.underway.group.events → ∀ before g after, s.owed.follows = before ++ g :: after →
              (∀ x, x ∈ before → l ∉ x.events) → l ∈ g.events →
              (g.events = [l] → t.owed = { s.owed with
                follows := before ++ after
                walks := s.owed.walks + if g.walk || due then 1 else 0 })
              ∧ (g.events ≠ [l] → t.owed = { s.owed with
                follows := before ++ { walk := g.walk || due, events := g.events.erase l } :: after })))
        ∧ s.otherSlotsKept t n ∧ t = { s with table := t.table, owed := t.owed })

/-- R6, R106 to R108, R133: the first permit transition on its way to an entry reaches it: permit-false pauses a RUNNING entry under GATE
and ends it ABORTED under ABORT, permit-true resumes a PAUSED entry and causes a walk for a DUE one; in every other state, and false at a
PAUSED or DUE entry, it has no effect. Nor has permit-false at an entry without a permit, which ignores its permit mode; that a transition
still comes after a MODIFY is log 12's. The walk and the follow events of an ABORTED end are handed on as one group (R112). R120: a pause
switches an OWNED_ON zone off and starts its rest, and leaves an OWNED_OFF zone with its rest; a resume switches on an OWNED_OFF zone without a
rest, and leaves one that rests; a release makes a zone RESTING with a rest started or going on, and FREE without one. -/
def Obligations.PermitRows : Prop :=
  (∀ (rest : Nat) (n : EntryIx),
    ZoneEffect.pause.apply rest (.ownedOn n) = .ownedOff n (if rest = 0 then none else some rest)
    ∧ (∀ r, ZoneEffect.pause.apply rest (.ownedOff n r) = .ownedOff n r)
    ∧ ZoneEffect.resume.apply rest (.ownedOff n none) = .ownedOn n
    ∧ (∀ r, ZoneEffect.resume.apply rest (.ownedOff n (some r)) = .ownedOff n (some r))
    ∧ ZoneEffect.resume.apply rest (.ownedOn n) = .ownedOn n
    ∧ ZoneEffect.release.apply rest (.ownedOn n) = (if rest = 0 then .free else .resting rest)
    ∧ (∀ r, ZoneEffect.release.apply rest (.ownedOff n (some r)) = .resting r)
    ∧ ZoneEffect.release.apply rest (.ownedOff n none) = .free)
  ∧ (∀ (x : ZoneEffect) (rest : Nat) (z : Zone), x = .keep ∨ z.owner = none → x.apply rest z = z)
  ∧ ∀ (s : State) (n : EntryIx) (e : Entry) (x : PermitTransition), s.table[n] = some e →
    s.owed.transitions.find? (fun y => y.entry == n) = some x →
    ∃ t, exec (if x.value then .permitTrue n else .permitFalse n) s = .next t
      ∧ (∀ r, x.value = false → e.phase = .running r → e.defn.hasPermit = true → e.defn.permitMode = .gate →
          t.table[n] = some { e with phase := .paused r } ∧ s.zonesMoved t e.defn.claim .pause
            ∧ t.owed.walks = s.owed.walks ∧ t.owed.follows = s.owed.follows)
      ∧ (∀ r, x.value = false → e.phase = .running r → e.defn.hasPermit = true → e.defn.permitMode = .abort →
          s.zonesMoved t e.defn.claim .release
            ∧ s.handsOn { t with owed := { t.owed with transitions := s.owed.transitions } }
                (s.endGroup n e .aborted (e.defn.nextPhase .aborted))
            ∧ ∃ e', t.table[n] = some e' ∧ e'.lastOutcome = some .aborted ∧ e'.pending = e.noted .ending
              ∧ (e'.phase = e.defn.nextPhase .aborted
                  ∨ (e.defn.nextPhase .aborted = .armed ∧ s.levelHolds e.defn ∧ e'.phase = .due freshWait)))
      ∧ (∀ r, x.value = true → e.phase = .paused r →
          t.table[n] = some { e with phase := .running r } ∧ s.zonesMoved t e.defn.claim .resume
            ∧ t.owed.walks = s.owed.walks ∧ t.owed.follows = s.owed.follows)
      ∧ (∀ w, x.value = true → e.phase = .due w →
          t.table[n] = some e ∧ s.zonesMoved t e.defn.claim .keep ∧ t.owed.walks = s.owed.walks + 1
            ∧ t.owed.follows = s.owed.follows)
      ∧ (((x.value = false ∧ ((∀ r, e.phase ≠ .running r) ∨ e.defn.hasPermit = false))
            ∨ (x.value = true ∧ (∀ r, e.phase ≠ .paused r) ∧ ∀ w, e.phase ≠ .due w)) →
          t.table[n] = some e ∧ s.zonesMoved t e.defn.claim .keep ∧ t.owed.walks = s.owed.walks
            ∧ t.owed.follows = s.owed.follows)
      ∧ t.owed.transitions = s.owed.transitions.erase x
      ∧ t.owed = { s.owed with transitions := t.owed.transitions, walks := t.owed.walks, follows := t.owed.follows }
      ∧ s.otherSlotsKept t n ∧ t = { s with table := t.table, zones := t.zones, owed := t.owed }

/-- R95, R103, R112: the first pulse edge of a sensor takes 1 from every RUNNING PULSES entry of that source that it has not reached, ends the
one whose counter stands at 1 COMPLETED, with its next state and its zones released, and touches no other entry and no other zone. Each end
hands on its own walk and its own follow events, since each entry takes the edge as an arrival of its own. That it counts for a run that has
started since the edge was made, also through an end that the same edge brought about, is the model's choice (log 37). -/
def Obligations.PulseEdgeRow : Prop :=
  ∀ (s : State) (k : SensorIx) (p : PulseEdge), s.owed.pulses.find? (fun y => y.sensor == k) = some p →
    ∃ t, exec (.pulseEdge k) s = .next t
      ∧ (∀ (n : EntryIx) (e : Entry) r, s.table[n] = some e → p.reached.getLsbD n.val = false →
          e.phase = .running r → e.defn.unit = .pulses → e.defn.pulseSource = k →
          (2 ≤ r.counter → t.table[n] = some { e with phase := .running { r with counter := r.counter - 1 } })
          ∧ (r.counter = 1 →
              (∃ e', t.table[n] = some e' ∧ e'.defn = e.defn ∧ e'.lastOutcome = some .completed ∧ e'.lastStart = e.lastStart
                ∧ e'.pending = e.noted .ending
                ∧ (e'.phase = e.defn.nextPhase .completed
                  ∨ (e.defn.nextPhase .completed = .armed ∧ s.levelHolds e.defn ∧ e'.phase = .due freshWait)))
              ∧ ∀ z : ZoneIx, e.defn.claim.getLsbD z.val = true → t.zones[z] = (s.zones[z]).release (s.restTime z)))
      ∧ (∀ z : ZoneIx, (∀ (n : EntryIx) (e : Entry) r, s.table[n] = some e → p.reached.getLsbD n.val = false →
            e.phase = .running r → e.defn.unit = .pulses → e.defn.pulseSource = k → r.counter ≤ 1 →
            e.defn.claim.getLsbD z.val = false) →
          t.zones[z] = s.zones[z])
      ∧ (∀ n : EntryIx, (∀ e r, s.table[n] = some e → p.reached.getLsbD n.val = false →
            e.phase = .running r → e.defn.unit = .pulses → e.defn.pulseSource ≠ k) →
          t.table[n] = s.table[n])
      ∧ (∃ ended : List (EntryIx × Entry),
          (∀ n e, (n, e) ∈ ended ↔ s.table[n] = some e ∧ p.reached.getLsbD n.val = false ∧ e.defn.unit = .pulses
            ∧ e.defn.pulseSource = k ∧ ∃ r, e.phase = .running r ∧ r.counter ≤ 1)
          ∧ ended.Nodup
          ∧ ∃ groups : List FollowGroup,
            groups = ended.map (fun x => s.endGroup x.1 x.2 .completed (x.2.defn.nextPhase .completed))
            ∧ t.owed = { s.owed with
                pulses := s.owed.pulses.erase p
                follows := s.owed.follows ++ groups.filter fun g => g.events != []
                walks := s.owed.walks + (groups.filter fun g => g.events == [] && g.walk).length })
      ∧ t = { s with table := t.table, zones := t.zones, owed := t.owed }

/-- R81, R85 to R87: SET FLAGS gives the masked flags their values, CLEAR LATCHES clears the latches of its set, and the signals that
move form one change event: the definitions, states and snapshots of the table stay, and no zone, pulse or walk follows. Both answer OK with
the signal record after the change, laid out byte by byte. -/
def Obligations.SignalCommandRows : Prop :=
  ∀ (s : State) (c : Instr), (c = .setFlags ∧ s.inProgress 0x40 = true) ∨ (c = .clearLatches ∧ s.inProgress 0x41 = true) →
    ∃ t, exec c s = .next t
      ∧ (c = .setFlags → t.sensors = s.sensors
          ∧ ∀ i, i < 8 → t.flags.getLsbD i
              = if (s.input 1).testBit i then (s.input 0).testBit i else s.flags.getLsbD i)
      ∧ (c = .clearLatches → t.flags = s.flags
          ∧ ∀ k : SensorIx, t.sensors[k] = if (s.input 0).testBit k.val then { s.sensors[k] with latch := false }
              else s.sensors[k])
      ∧ (t.levels = s.levels → t.table = s.table ∧ t.owed = s.owed)
      ∧ (∀ (n : EntryIx) (e : Entry), s.table[n] = some e → ∃ e', t.table[n] = some e'
          ∧ e' = { e with storedPattern := e'.storedPattern, storedPermit := e'.storedPermit }
          ∧ (t.levels ≠ s.levels → e'.storedPattern = e.defn.patternValue t.levels (s.levels ^^^ t.levels)
              ∧ e'.storedPermit = e.defn.permitValue t.levels (s.levels ^^^ t.levels)))
      ∧ t.owed.pulses = s.owed.pulses ∧ t.owed.walks = s.owed.walks
      ∧ s.completes t .ok 0 ∧ t.shows t.signalRecord ∧ t.showsSignals t
      ∧ t = { s with table := t.table, owed := t.owed, iface := t.iface, flags := t.flags, sensors := t.sensors }

/-- R87, R90 to R92: a change event replaces the stored values and hands a pattern trigger to each PATTERN entry that R90 or R91 names, only
in LIVE, and a permit transition to each entry whose permit value changes. SET FLAGS, CLEAR LATCHES, SENSOR_PIN_CHANGE, SENSOR_ACCEPTANCE,
CONFIGURE and RESET_RELEASE each make one such event of the levels they move, and at RETURN_FROM_BACKUP the clearing of the latches and each
level accepted make one each. `y` is the state with the new levels, in which the event is made. R81: a signal level is the accepted level or
the latch of a sensor, or a soft flag. R88, Table 1 of Chapter 5: when a spec holds and when a pattern is satisfied, against current levels with
no signal changed. R6, R26, R89: which entries have a permit, when it holds, and which stored values an entry keeps. -/
def Obligations.ChangeEventDelivers : Prop :=
  (∀ (s : State) (k : SensorIx), s.levels.getLsbD k.val = (s.sensors[k].accepted || s.sensors[k].latch)
    ∧ s.levels.getLsbD (8 + k.val) = s.flags.getLsbD k.val)
  ∧ (∀ (sp : Spec) (levels changed : Levels) (i : Nat), specHolds sp levels changed i = true ↔
      (sp = .low ∧ levels.getLsbD i = false) ∨ (sp = .high ∧ levels.getLsbD i = true)
        ∨ (sp = .change ∧ changed.getLsbD i = true)
        ∨ (sp = .fall ∧ changed.getLsbD i = true ∧ levels.getLsbD i = false)
        ∨ (sp = .rise ∧ changed.getLsbD i = true ∧ levels.getLsbD i = true))
  ∧ (∀ (p : Pattern) (levels changed : Levels),
      (p.combine = .all → (p.satisfied levels changed = true ↔
        ∀ i : Fin 16, p.specs[i] ≠ .ignore → specHolds p.specs[i] levels changed i.val = true))
      ∧ (p.combine = .any → (p.satisfied levels changed = true ↔
        ∃ i : Fin 16, p.specs[i] ≠ .ignore ∧ specHolds p.specs[i] levels changed i.val = true))
      ∧ (p.hasTransition = true ↔ ∃ i : Fin 16, p.specs[i] = .change ∨ p.specs[i] = .fall ∨ p.specs[i] = .rise))
  ∧ (∀ (d : Definition) (levels changed : Levels),
      (d.hasPermit = true ↔
        (d.kind = .pattern ∧ d.pattern.sense = .level) ∨ (d.kind ≠ .pattern ∧ d.pattern.present = true))
      ∧ (d.permitHolds levels = true ↔ d.hasPermit = true → d.pattern.satisfied levels 0 = true)
      ∧ (d.isLevel = true ↔ d.kind = .pattern ∧ d.pattern.sense = .level)
      ∧ d.patternValue levels changed = (if d.kind = .pattern then some (d.pattern.satisfied levels changed) else none)
      ∧ d.permitValue levels changed = if d.hasPermit = true then some (d.pattern.satisfied levels changed) else none)
  ∧
  (∀ (y : State) (before changed : Levels), changed = before ^^^ y.levels →
    (changed = 0 → y.changeEvent before = y)
    ∧ (changed ≠ 0 → ∃ (triggers : List PatternTrigger) (transitions : List PermitTransition) (u : State),
      y.changeEvent before = u
        ∧ u = { y with table := u.table, owed := { y.owed with
            triggers := y.owed.triggers ++ triggers
            transitions := y.owed.transitions ++ transitions } }
        ∧ (∀ n : EntryIx, u.table[n] = (y.table[n]).map fun e => { e with
            storedPattern := e.defn.patternValue y.levels changed
            storedPermit := e.defn.permitValue y.levels changed })
        ∧ (y.isLive = false → triggers = [])
        ∧ (y.isLive = true → ∀ x : PatternTrigger, x ∈ triggers ↔
            x.levels = y.levels ∧ ∃ e, y.table[x.entry] = some e ∧ e.defn.kind = .pattern
              ∧ e.defn.pattern.satisfied y.levels changed = true
              ∧ ((e.defn.pattern.sense = .edge
                    ∧ (e.defn.pattern.hasTransition = true ∨ e.storedPattern.getD false = false))
                  ∨ (e.defn.pattern.sense = .level ∧ e.phase = .armed)))
        ∧ (y.takesArrivals = false → transitions = [])
        ∧ (y.takesArrivals = true → ∀ x : PermitTransition, x ∈ transitions ↔
            ∃ e old, y.table[x.entry] = some e ∧ e.storedPermit = some old
              ∧ e.defn.permitValue y.levels changed = some x.value ∧ x.value ≠ old)))
  ∧ (∀ (s : State) (c : Instr),
      (c = .setFlags ∧ s.inProgress 0x40 = true) ∨ (c = .clearLatches ∧ s.inProgress 0x41 = true)
        ∨ (∃ k level, c = .sensorPinChange k level ∧ s.watchesPins = true)
        ∨ (∃ k, c = .sensorAcceptance k ∧ s.watchesPins = true ∧ s.sensors[k].filter.isSome = true)
        ∨ (c = .configure ∧ s.inProgress 0x50 = true ∧ s.engine.mode ≠ .live ∧ s.site.lock = false
            ∧ firstBad (configChecks s.input) = none) →
      ∃ t y, exec c s = .next t ∧ y = { s with flags := t.flags, sensors := t.sensors, site := t.site }
        ∧ t.table = (y.changeEvent s.levels).table
        ∧ t.owed = { (y.changeEvent s.levels).owed with pulses := t.owed.pulses, walks := t.owed.walks })
  ∧ (∀ s : State, s.powered = true → s.supply.condition = .main → s.engine.held = true →
      ∃ t y, exec .resetRelease s = .next t
        ∧ y = { s with flags := t.flags, sensors := t.sensors, engine := t.engine, owed := s.dropArrivals.owed }
        ∧ t.owed = (y.changeEvent s.levels).owed
        ∧ ∀ n : EntryIx, (t.table[n]).map (fun e => (e.storedPattern, e.storedPermit))
            = ((y.changeEvent s.levels).table[n]).map fun e => (e.storedPattern, e.storedPermit))
  ∧ ∀ (order : ReturnOrder) (f : State → State) (u : State), f ∈ wakeEvents order.sensors →
      ∃ y, y = { u with sensors := (f u).sensors }
        ∧ (f u).table = (y.changeEvent u.levels).table
        ∧ (f u).owed = { (y.changeEvent u.levels).owed with pulses := (f u).owed.pulses }

/-- R83, R84, R95, R97: a pin that comes to another level starts a filter period, or with filter time 0 is accepted at once, and a pin that
returns abandons its period. An acceptance, by SENSOR_ACCEPTANCE or at once, makes the candidate the accepted level: a rising one in latch mode
sets the latch, and a rise of the signal is one pulse edge. The acceptance comes by itself when the pin has held the candidate for the filter
time, 0, 20, 100 or 500 ms in cycles of the internal oscillator (R82; log 17), one of which an internal cycle adds. That a pin which returns
after that, with the acceptance still to come, abandons the period too is the model's choice (log 29). While the pins are not watched, in BACKUP
or without power, a pin moves and nothing else does. -/
def Obligations.SensorRows : Prop :=
  (∀ (s : State) (k : SensorIx) (level : Bool), s.watchesPins = false →
    exec (.sensorPinChange k level) s = .next { s with sensors := s.sensors.set k { s.sensors[k] with pin := level } }
      ∧ exec (.sensorAcceptance k) s = .next s)
  ∧ ∀ (s : State) (k : SensorIx), s.watchesPins = true →
    (s.filterTime k = 32 * (match s.settings.filterCodes.toNat / 4 ^ k.val % 4 with
      | 0 => 0
      | 1 => 20
      | 2 => 100
      | _ => 500)
    ∧ s.tick.sensors[k] = { s.sensors[k] with filter := s.sensors[k].filter.map fun f => { f with held := f.held + 1 } }
    ∧ (.sensorAcceptance k ∈ s.waiting ↔ ∃ f, s.sensors[k].filter = some f ∧ s.filterTime k ≤ f.held))
    ∧ (∀ level : Bool, ∃ t, exec (.sensorPinChange k level) s = .next t
      ∧ t.sensors[k].pin = level
      ∧ ((level ^^ s.settings.sensorPolarity.getLsbD k.val) = s.sensors[k].accepted →
          t.sensors[k] = { s.sensors[k] with pin := level, filter := none } ∧ t.table = s.table ∧ t.owed = s.owed)
      ∧ ((level ^^ s.settings.sensorPolarity.getLsbD k.val) ≠ s.sensors[k].accepted → s.filterTime k ≠ 0 →
          s.sensors[k].filter = none →
          t.sensors[k] = { s.sensors[k] with pin := level, filter := some { candidate := !s.sensors[k].accepted, held := 0 } }
            ∧ t.table = s.table ∧ t.owed = s.owed)
      ∧ ((level ^^ s.settings.sensorPolarity.getLsbD k.val) ≠ s.sensors[k].accepted → s.filterTime k ≠ 0 →
          s.sensors[k].filter.isSome = true → t.sensors[k] = { s.sensors[k] with pin := level })
      ∧ ((level ^^ s.settings.sensorPolarity.getLsbD k.val) ≠ s.sensors[k].accepted → s.filterTime k = 0 →
          t.sensors[k] = {
              pin := level
              accepted := !s.sensors[k].accepted
              filter := none
              latch := s.sensors[k].latch || (!s.sensors[k].accepted && s.latchMode k) }
            ∧ (t.owed.pulses = if !s.sensors[k].level && t.sensors[k].level && s.takesArrivals
                then s.owed.pulses ++ [{ sensor := k, reached := 0 }] else s.owed.pulses)
            ∧ (t.levels = s.levels → t.table = s.table ∧ t.owed = s.owed))
      ∧ (∀ j : SensorIx, j ≠ k → t.sensors[j] = s.sensors[j])
      ∧ t = { s with sensors := t.sensors, table := t.table, owed := t.owed })
    ∧ ∀ f : FilterPeriod, s.sensors[k].filter = some f →
      ∃ t, exec (.sensorAcceptance k) s = .next t
        ∧ t.sensors[k] = { s.sensors[k] with
            accepted := f.candidate
            filter := none
            latch := s.sensors[k].latch || (f.candidate && s.latchMode k) }
        ∧ (t.owed.pulses = if !s.sensors[k].level && t.sensors[k].level && s.takesArrivals
            then s.owed.pulses ++ [{ sensor := k, reached := 0 }] else s.owed.pulses)
        ∧ (t.levels = s.levels → t.table = s.table ∧ t.owed = s.owed)
        ∧ (∀ j : SensorIx, j ≠ k → t.sensors[j] = s.sensors[j])
        ∧ t = { s with sensors := t.sensors, table := t.table, owed := t.owed }

/-! ### Chapter 7: the manual overrides -/

/-- R121, R122, Tables 1 and 2 of Chapter 7: SET ZONES is judged as a whole, by its mode codes, by the zones that refuse their mode and by the
budget, and a taken one moves every masked zone by its mode and its state, with one walk where a zone becomes FREE or the engaged count falls.
The mode codes and the mask stand in the input as Table 3 of Chapter 11 lays it out. R118: the engaged count is the number of zones in OWNED_ON,
OWNED_OFF or MANUAL_ON. -/
def Obligations.SetZonesRow : Prop :=
  (∀ (s : State) (z : ZoneIx), s.zoneModeCode z = s.input (z.val / 4) / 4 ^ (z.val % 4) % 4
    ∧ (s.zoneMasked z ↔ (s.input (4 + z.val / 8)).testBit (z.val % 8) = true))
  ∧ (∀ (zones : Vector Zone 16) (members : List ZoneIx), members.Nodup →
    (∀ z : ZoneIx, z ∈ members ↔
      (∃ n, zones[z] = .ownedOn n) ∨ (∃ n r, zones[z] = .ownedOff n r) ∨ zones[z] = .manualOn) →
    engagedCount zones = members.length)
  ∧ (∀ s : State, s.engaged = engagedCount s.zones)
  ∧
  ∀ s : State, s.inProgress 0x48 = true →
    (∀ z : ZoneIx, (s.zoneMasked z → s.zoneModeCode z ≠ 3) → ¬ s.zoneBusy z →
      (¬ s.zoneMasked z → s.zonesAsked[z] = s.zones[z])
      ∧ (s.zoneMasked z →
        (s.zoneModeCode z = 1 → s.zonesAsked[z] = .manualOn)
        ∧ (s.zoneModeCode z = 2 → s.zones[z] ≠ .manualOn → s.zonesAsked[z] = .manualOff s.zones[z].rest)
        ∧ (s.zoneModeCode z = 2 → s.zones[z] = .manualOn → s.zonesAsked[z] = .manualOff (startRest (s.restTime z)))
        ∧ (s.zoneModeCode z = 0 →
          (s.zones[z] = .manualOn →
            s.zonesAsked[z] = if s.restTime z = 0 then .free else .resting (s.restTime z))
          ∧ (s.zones[z] = .manualOff none → s.zonesAsked[z] = .free)
          ∧ (∀ r, s.zones[z] = .manualOff (some r) → s.zonesAsked[z] = .resting r)
          ∧ (s.zones[z] ≠ .manualOn → (∀ r, s.zones[z] ≠ .manualOff r) → s.zonesAsked[z] = s.zones[z]))))
    ∧ ∃ t, exec .setZones s = .next t
      ∧ (∀ z : ZoneIx, s.zoneMasked z → s.zoneModeCode z = 3 → (∀ y : ZoneIx, y < z → s.zoneMasked y → s.zoneModeCode y ≠ 3) →
          s.refuses t .invalidField (byteOf (z.val / 4)))
      ∧ ((∀ z : ZoneIx, s.zoneMasked z → s.zoneModeCode z ≠ 3) →
        (∀ z : ZoneIx, s.zoneBusy z → (∀ y : ZoneIx, y < z → ¬ s.zoneBusy y) → s.refuses t .zoneBusy (byteOf z.val))
        ∧ ((∀ z : ZoneIx, ¬ s.zoneBusy z) →
          (s.budget < engagedCount s.zonesAsked → s.refuses t .overBudget (byteOf (engagedCount s.zonesAsked)))
          ∧ (engagedCount s.zonesAsked ≤ s.budget →
            t.zones = s.zonesAsked
              ∧ ((t.engaged < s.engaged ∨ ∃ z : ZoneIx, s.zones[z] ≠ .free ∧ t.zones[z] = .free) →
                  t.owed = { s.owed with walks := s.owed.walks + 1 })
              ∧ (s.engaged ≤ t.engaged → (∀ z : ZoneIx, t.zones[z] = .free → s.zones[z] = .free) → t.owed = s.owed)
              ∧ s.completes t .ok 0 ∧ t.shows t.zoneSnapshot
              ∧ t = { s with zones := t.zones, owed := t.owed, iface := t.iface })))

/-! ### Chapter 8: modes, configuration, supply and RESET -/

/-- R142, R143: CONFIGURE is refused in LIVE, under the lock, and for a field out of range, at its lowest byte; a taken one puts its
configuration in force with the lock set, makes every zone FREE, and sets every sensor to its pin under the new polarity with no trigger; of
an entry it changes the stored values alone. Its output is the configuration record without the flags of READ CONFIG (Table 3 of Chapter 11,
R165), which is the model's reading of R143 (log 30). R141: without a valid configuration the cold values are in force. -/
def Obligations.ConfigureRow : Prop :=
  (∀ s : State, s.settings = (if s.site.valid then s.site.config else
      { budget := 0, rests := Vector.replicate 16 0, zonePolarity := 0, sensorPolarity := 0, latchModes := 0, filterCodes := 0
        crystalCode := 3 })
    ∧ s.budget = s.settings.budget ∧ (∀ z : ZoneIx, s.restTime z = s.settings.rests[z])
    ∧ ∀ k : SensorIx, s.latchMode k = s.settings.latchModes.getLsbD k.val)
  ∧ ∀ s : State, s.inProgress 0x50 = true →
    ∃ t, exec .configure s = .next t
      ∧ (s.engine.mode = .live → s.refuses t .notSuspended 0)
      ∧ (s.engine.mode ≠ .live → s.site.lock = true → s.refuses t .locked 0)
      ∧ (s.engine.mode ≠ .live → s.site.lock = false →
        (s.input 0 = 0 ∨ 16 < s.input 0 → s.refuses t .invalidField 0)
        ∧ (1 ≤ s.input 0 → s.input 0 ≤ 16 →
          (4 < s.input 1 → s.refuses t .invalidField 1)
          ∧ (s.input 1 ≤ 4 →
            (∀ z : ZoneIx, 60 < s.input (2 + z.val) → (∀ y : ZoneIx, y < z → s.input (2 + y.val) ≤ 60) →
              s.refuses t .invalidField (byteOf (2 + z.val)))
            ∧ ((∀ z : ZoneIx, s.input (2 + z.val) ≤ 60) →
              t.site = { config := SiteConfig.ofRecord s.input, valid := true, lock := true }
                ∧ t.budget = s.input 0 ∧ t.settings.crystalCode = s.input 1
                ∧ (∀ z : ZoneIx, t.zones[z] = .free ∧ t.restTime z = s.input (2 + z.val))
                ∧ t.settings.zonePolarity.toNat = s.input 0x12 + 256 * s.input 0x13
                ∧ t.settings.sensorPolarity.toNat = s.input 0x14 ∧ t.settings.latchModes.toNat = s.input 0x15
                ∧ t.settings.filterCodes.toNat = s.input 0x16 + 256 * s.input 0x17
                ∧ (∀ k : SensorIx, t.sensors[k]
                    = { pin := s.sensors[k].pin, accepted := s.sensors[k].pin ^^ (s.input 0x14).testBit k.val
                        latch := false, filter := none })
                ∧ (∀ n : EntryIx, s.table[n] = none → t.table[n] = none)
                ∧ (∀ (n : EntryIx) (e : Entry), s.table[n] = some e → ∃ e', t.table[n] = some e'
                    ∧ e' = { e with storedPattern := e'.storedPattern, storedPermit := e'.storedPermit })
                ∧ t.owed.triggers = s.owed.triggers ∧ t.owed.pulses = s.owed.pulses
                ∧ s.completes t .ok 0 ∧ t.shows t.configImage
                ∧ t.configRecord = t.configImage ++ [3]
                ∧ t = { s with
                    site := t.site, zones := t.zones, sensors := t.sensors, table := t.table, owed := t.owed
                    iface := t.iface }))))

/-- R138: ENGINE START from another mode, with the configuration valid, makes the engine LIVE, makes DUE exactly the ARMED LEVEL entries whose
pattern the current levels satisfy, causes one walk and returns their number and set; without a valid configuration it is refused, and in LIVE
it changes nothing. A second event that has reached some counter before it is counted whole first, while the engine is not LIVE, so its time is
not offered (R140; what has come first is log 9's). That its walk stays owed, and comes after the completion, is the model's choice (log 33),
and so is that a walk caused before it, while the engine was not LIVE, stays owed beside the one that it causes (log 39). R139: ENGINE SUSPEND
in LIVE makes the engine SUSPENDED and resolves every active entry STOPPED, releasing the zones of runs, hands on no follow event, and returns
their number and set; in another mode it changes nothing. `x` is the state in which what came first has been finished in LIVE (R140): a second
event that has reached some counter is counted whole, which is log 9's, then the follow events on their way have reached their followers, and
the walks caused by then are made, after all of it (R128). The triggers, permit transitions and pulse edges still on their way when the engine
stops being LIVE reach no entry (log 7). -/
def Obligations.EngineModeRows : Prop :=
  ∀ s : State,
    (s.inProgress 0x52 = true → ∃ t, exec .engineStart s = .next t
      ∧ (s.engine.mode = .live → s.completes t .ok 0 ∧ t.shows (findResult 0 none) ∧ t = { s with iface := t.iface })
      ∧ (s.engine.mode ≠ .live → s.site.valid = false → s.refuses t .noConfig 0)
      ∧ (s.engine.mode ≠ .live → s.site.valid = true → s.takesArrivals = true →
        ∀ x : State, x = s.finishUnderway →
        (s.owed.underway = Underway.nothing → x = s)
        ∧ (s.owed.underway ≠ Underway.nothing →
          ∃ order u, exec (.secondEvent order) s = .next u ∧ x = { u with ticks := s.ticks + 1 })
        ∧ ∃ set : EntrySet,
          (∀ n : EntryIx, set.getLsbD n.val = true ↔ ∃ e, x.table[n] = some e ∧ e.phase = .armed
            ∧ e.defn.kind = .pattern ∧ e.defn.pattern.sense = .level ∧ e.defn.pattern.satisfied x.levels 0 = true)
          ∧ (∀ n : EntryIx, t.table[n] = (x.table[n]).map fun e =>
              if set.getLsbD n.val then { e with phase := .due freshWait, snapshot := some x.levels } else e)
          ∧ t.engine = { s.engine with mode := .live }
          ∧ t.owed = { x.owed with walks := x.owed.walks + 1 }
          ∧ s.completes t .ok (byteOf (setSize set)) ∧ t.shows (findResult set none)
          ∧ t = { x with engine := t.engine, table := t.table, owed := t.owed, iface := t.iface }))
    ∧ (s.inProgress 0x53 = true → ∃ t, exec .engineSuspend s = .next t
      ∧ (s.engine.mode ≠ .live → s.completes t .ok 0 ∧ t.shows (findResult 0 none) ∧ t = { s with iface := t.iface })
      ∧ (s.engine.mode = .live → ∀ x : State, x = s.settleEnds →
        (s.owed.underway = Underway.nothing →
          (s.links = [] → s.owed.walks = 0 → x = s)
          ∧ (s.links = [] → s.owed.walks = 1 → exec .grantWalk s = .next x)
          ∧ (∀ l rest, s.links = l :: rest →
              ∃ u, exec (.followEvent l.source l.follower) s = .next u ∧ u.links = rest ∧ x = u.settleEnds)
          ∧ x = { s with table := x.table, zones := x.zones, turn := x.turn, owed := x.owed })
        ∧ (s.owed.underway ≠ Underway.nothing → s.powered = true →
          ∃ order u, exec (.secondEvent order) s = .next u ∧ x = ({ u with ticks := s.ticks + 1 } : State).settleEnds)
        ∧ x.links = [] ∧ x.owed.underway = Underway.nothing
        ∧ ∃ set : EntrySet,
          (∀ n : EntryIx, set.getLsbD n.val = true ↔ ∃ e, x.table[n] = some e ∧ e.phase.isActive = true)
          ∧ (∀ n : EntryIx, t.table[n] = (x.table[n]).map fun e =>
              if set.getLsbD n.val then
                { e with
                  phase := if e.defn.rep = .once then .spent else .armed
                  lastOutcome := some .stopped
                  pending := e.noted .ending }
              else e)
          ∧ (∀ (n : EntryIx) (z : ZoneIx), slotOwns x.table[n] z = true →
              t.zones[z] = (x.zones[z]).release (x.restTime z))
          ∧ (∀ z : ZoneIx, (∀ n : EntryIx, slotOwns x.table[n] z = false) → t.zones[z] = x.zones[z])
          ∧ t.engine = { s.engine with mode := .suspended }
          ∧ t.owed.triggers = [] ∧ t.owed.transitions = [] ∧ t.owed.pulses = [] ∧ t.links = []
          ∧ s.completes t .ok (byteOf (setSize set)) ∧ t.shows (findResult set none)
          ∧ t = { x with engine := t.engine, table := t.table, zones := t.zones, owed := t.owed, iface := t.iface }))

/-- R145 with R34, R77, R97, R125 and R162: the entry to BACKUP, where an active mains source falls back to INTERNAL at the position it has
reached (within the rounding of log 8; counted from its switch where no cycle has come since, log 40) and abandons a candidate INTERNAL, which an
active crystal keeps; the qualification time of 100 ms, which runs while VDD stays above 2.8 V and returns to 0 at its fall (R146, R147; log 17);
and the loss of the retention mark. That the part does nothing from the loss to the cold start is the model's reading (log 14), and so is that
what was on its way is dropped at the entry to BACKUP (log 7) and that an open bus transaction is closed there (log 13). The zones that it makes
FREE cause no walk (log 39). -/
def Obligations.SupplyRows : Prop :=
  (∀ s : State,
    ((s.supply.condition = .battery ∨ s.powered = false) →
      s.tick.supply = { s.supply with
        qualification := if Config.vddAbove s.ticks = true then s.supply.qualification + 1 else 0 })
    ∧ ((∃ order, .returnFromBackup order ∈ s.waiting) ↔
        s.powered = true ∧ s.supply.condition = .battery ∧ 3200 ≤ s.supply.qualification)
    ∧ (.coldStart ∈ s.waiting ↔ s.powered = false ∧ 3200 ≤ s.supply.qualification))
  ∧ (∀ s : State, s.powered = true → s.supply.condition = .main →
    ∃ t, exec .entryToBackup s = .next t
      ∧ t.supply = { s.supply with condition := .battery, qualification := 0 }
      ∧ t.engine.mode = .backup ∧ t.engine.held = s.engine.held
      ∧ (s.engine.mode = .live → t.engine.remembered = .live)
      ∧ (s.engine.mode = .suspended → t.engine.remembered = .suspended)
      ∧ (∀ n : EntryIx, t.table[n] = (s.table[n]).map fun e =>
          if e.phase.isActive then { e with phase := .armed, lastOutcome := some .interrupted } else e)
      ∧ (∀ z : ZoneIx, (∀ r, s.zones[z] = .manualOff r → t.zones[z] = .manualOff none)
          ∧ ((∀ r, s.zones[z] ≠ .manualOff r) → t.zones[z] = .free) ∧ t.zoneOutput z = .highImpedance)
      ∧ (∀ k : SensorIx, t.sensors[k] = { s.sensors[k] with filter := none })
      ∧ (s.timebase.active.isMains = true → t.timebase.active = .internal ∧ t.timebase.prescaler < 32000
          ∧ ∃ position : Nat,
            s.timebase.prescaler * 32000 < (position + 1) * s.timebase.active.divisor
              ∧ position * s.timebase.active.divisor < s.timebase.prescaler * 32000 + s.timebase.active.divisor
              ∧ s.owed.seconds ≤ t.owed.seconds
              ∧ (t.owed.seconds - s.owed.seconds) * 32000 + t.timebase.prescaler = position + s.timebase.sincePrescaler)
      ∧ (s.timebase.active.isMains = false → t.timebase.active = s.timebase.active
          ∧ t.timebase.prescaler = s.timebase.prescaler ∧ t.owed.seconds = s.owed.seconds)
      ∧ (∀ c, s.timebase.selector.candidate = some c → c.isMains = true → t.timebase.selector = .steady)
      ∧ ((∀ c, s.timebase.selector.candidate = some c → c.isMains = false ∧ c ≠ .internal) →
          t.timebase.selector = s.timebase.selector)
      ∧ (s.timebase.selector.candidate = some .internal →
          (s.timebase.active.isMains = true → t.timebase.selector = .steady)
          ∧ (s.timebase.active.isMains = false → t.timebase.selector = s.timebase.selector))
      ∧ (s.timebase.active.isMains = false → (∀ c, s.timebase.selector.candidate = some c → c.isMains = false) →
          t.timebase = s.timebase)
      ∧ ((s.timebase.active.isMains = true ∨ ∃ c, s.timebase.selector.candidate = some c ∧ c.isMains = true) →
          t.device = s.device ||| noticeClockFault)
      ∧ (s.timebase.active.isMains = false → (∀ c, s.timebase.selector.candidate = some c → c.isMains = false) →
          t.device = s.device)
      ∧ t.owed.triggers = [] ∧ t.owed.transitions = [] ∧ t.owed.pulses = [] ∧ t.owed.follows = [] ∧ t.owed.walks = 0
      ∧ t.iface = { s.iface with code := none, busy := false, phase := .closed, reply := .released }
      ∧ t = { s with
          supply := t.supply, engine := t.engine, table := t.table, zones := t.zones, sensors := t.sensors
          timebase := t.timebase, device := t.device, owed := t.owed, iface := t.iface })
  ∧ ∀ s : State,
    (s.supply.condition = .battery ∨ s.powered = false →
      exec .supplyDip s = .next { s with supply := { s.supply with qualification := 0 } })
    ∧ ∃ t, exec .retentionMarkLost s = .next t ∧ t.powered = false ∧ t.iface.busy = false ∧ t.iface.code = none
      ∧ (∀ z : ZoneIx, t.zoneOutput z = .highImpedance)
      ∧ t = { s with
          supply := { s.supply with mark := false, qualification := 0 }
          owed := t.owed, iface := t.iface }

/-- R146, R97, R148: the return from BACKUP. The interface starts fresh, SUPPLY_RETURN is set, every latch is cleared and each pin compared
with its accepted level; the engine takes the remembered mode, before, among or after these events, with the re-checks and one walk in LIVE.
The whole return is these events one after another, with the mode taken at its place among them: the clearing of the latches is one change
event, and each comparison is what SENSOR_PIN_CHANGE does with the pin as it stands, with its change event and its pulse edge. A RESET line
still asserted holds the engine; one found released after a hold makes the release first, and the engine takes SUSPENDED. The place of the
engine's return among the conditioner's events and the order of the sensors are the model's operands (log 18), and the bus phase of a fresh
interface is its choice (log 13). -/
def Obligations.ReturnRow : Prop :=
  (∀ (u : State) (f : State → State) (rest : List (State → State)),
    u.through [] = u ∧ u.through (f :: rest) = (f u).through rest)
  ∧ (∀ first : List SensorIx, wakeEvents first
    = (fun u => ({ u with sensors := Vector.ofFn fun k => { u.sensors[k] with latch := false } } : State).changeEvent u.levels)
      :: (first ++ List.finRange 8).map fun k u => u.watchPin k)
  ∧ (∀ (u : State) (k : SensorIx), u.watchesPins = true → exec (.sensorPinChange k u.sensors[k].pin) u = .next (u.watchPin k))
  ∧ (∀ u : State, u.restoreMode .suspended = { u with engine := { u.engine with mode := .suspended } })
  ∧ (∀ u v : State, v = u.restoreMode .live →
    v.engine = { u.engine with mode := .live } ∧ v = { u with engine := v.engine, table := v.table, owed := v.owed }
      ∧ (u.takesArrivals = false → v.table = u.table ∧ v.owed = u.owed)
      ∧ (u.takesArrivals = true → v.owed = { u.owed with walks := u.owed.walks + 1 }
        ∧ ∀ n : EntryIx, v.table[n] = (u.table[n]).map fun e =>
          if e.phase = .armed ∧ e.defn.isLevel = true ∧ e.defn.pattern.satisfied u.levels 0 = true
          then { e with phase := .due freshWait, snapshot := some u.levels } else e))
  ∧ ∀ (s : State) (order : ReturnOrder), s.powered = true → s.supply.condition = .battery →
    ∃ t, exec (.returnFromBackup order) s = .next t
      ∧ (∃ (x y : State) (mode : Mode), x = { s with supply := t.supply, iface := t.iface }
        ∧ (s.pins.reset = true → mode = s.engine.remembered.toMode
          ∧ y = { x with
              engine := { s.engine with held := true }
              device := s.device ||| noticeSupplyReturn
              owed := { s.owed with
                triggers := []
                transitions := []
                pulses := []
                follows := []
                walks := 0
                underway := { s.owed.underway with group := { walk := false, events := [] } } } })
        ∧ (s.pins.reset = false → s.engine.held = false → mode = s.engine.remembered.toMode
          ∧ y = { x with device := s.device ||| noticeSupplyReturn })
        ∧ (s.pins.reset = false → s.engine.held = true → mode = .suspended
          ∧ ∃ u, exec .resetRelease x = .next u ∧ y = { u with device := u.device ||| noticeSupplyReturn })
        ∧ t = ((y.through ((wakeEvents order.sensors).take order.place)).restoreMode mode).through
            ((wakeEvents order.sensors).drop order.place))
      ∧ t.supply = { s.supply with condition := .main, qualification := 0 }
      ∧ t.iface = Interface.fresh ∧ t.engine.remembered = s.engine.remembered
      ∧ (∀ k : SensorIx,
          (s.pinLevel k = s.sensors[k].accepted →
            t.sensors[k] = { s.sensors[k] with latch := false, filter := none })
          ∧ (s.pinLevel k ≠ s.sensors[k].accepted → s.filterTime k ≠ 0 → s.sensors[k].filter = none →
            t.sensors[k] = { s.sensors[k] with latch := false, filter := some { candidate := s.pinLevel k, held := 0 } })
          ∧ (s.pinLevel k ≠ s.sensors[k].accepted → s.filterTime k = 0 →
            t.sensors[k] = { s.sensors[k] with
              accepted := s.pinLevel k, latch := s.pinLevel k && s.latchMode k, filter := none }))
      ∧ (s.pins.reset = true → t.engine = { s.engine with mode := s.engine.remembered.toMode, held := true })
      ∧ (s.pins.reset = false → s.engine.held = false →
          t.engine = { s.engine with mode := s.engine.remembered.toMode })
      ∧ (s.pins.reset = true ∨ s.engine.held = false →
          t.device = s.device ||| noticeSupplyReturn
            ∧ t = { s with
                supply := t.supply, iface := t.iface, engine := t.engine, device := t.device, sensors := t.sensors
                table := t.table, owed := t.owed })
      ∧ (s.pins.reset = false → s.engine.held = false → s.engine.remembered = .live →
          t.owed.walks = s.owed.walks + 1
            ∧ ∃ levels : Levels,
              (order.place = 0 → levels = s.levels) ∧ (9 + order.sensors.length ≤ order.place → levels = t.levels)
              ∧ ∀ (n : EntryIx) (e : Entry), s.table[n] = some e →
              ∃ e', t.table[n] = some e'
                ∧ ((e.phase = .armed ∧ e.defn.isLevel = true ∧ e.defn.pattern.satisfied levels 0 = true) →
                    e' = { e with
                      phase := .due freshWait, snapshot := some levels
                      storedPattern := e'.storedPattern, storedPermit := e'.storedPermit })
                ∧ (¬ (e.phase = .armed ∧ e.defn.isLevel = true ∧ e.defn.pattern.satisfied levels 0 = true) →
                    e' = { e with storedPattern := e'.storedPattern, storedPermit := e'.storedPermit }))
      ∧ (s.pins.reset = false → s.engine.held = true →
          t.engine = { s.engine with mode := .suspended, held := false }
            ∧ t.device = noticeSupplyReturn ∧ t.flags = 0 ∧ t.site = { s.site with lock := false }
            ∧ (∀ z : ZoneIx, t.zones[z] = .free)
            ∧ (∀ (n : EntryIx) e, s.table[n] = some e → ∃ e', t.table[n] = some e' ∧ e'.defn = e.defn ∧ e'.pending = 0))

/-- R117: each zone output follows its zone's state under its polarity, is inactive while the RESET line holds the engine, and is high impedance
in BACKUP and in the wait of a power-up. R148, R149: the assertion of RESET holds the engine, drives every zone output to its inactive level,
and drops the command in progress; the release makes the engine SUSPENDED, interrupts the active entries, frees every zone, and clears the lock,
the soft flags, the latches, every notice and the interface. A held engine acts as not LIVE and takes no arrival, the bus is ignored there and
in BACKUP, and the pins are watched outside BACKUP. In BACKUP only the line's own level moves. That what was on its way is dropped at the
assertion is the model's reading (log 7), and the bus phase of the interface is its choice (log 13). The zones that the release makes FREE cause
no walk (log 39). -/
def Obligations.ResetLineRows : Prop :=
  (∀ s : State,
    (s.isLive = true ↔ s.engine.mode = .live ∧ s.engine.held = false ∧ s.powered = true)
    ∧ (s.takesArrivals = true ↔ s.powered = true ∧ s.engine.held = false)
    ∧ (s.busHeard = true ↔ s.powered = true ∧ s.engine.held = false ∧ s.supply.condition = .main)
    ∧ (s.watchesPins = true ↔ s.powered = true ∧ s.supply.condition = .main)
    ∧ s.powered = s.supply.mark)
  ∧ (∀ (s : State) (z : ZoneIx),
    (s.powered = true → s.supply.condition = .main →
      (s.engine.held = false → ((∃ n, s.zones[z] = .ownedOn n) ∨ s.zones[z] = .manualOn) →
        s.zoneOutput z = if s.settings.zonePolarity.getLsbD z.val then .low else .high)
      ∧ ((s.engine.held = true ∨ ((∀ n, s.zones[z] ≠ .ownedOn n) ∧ s.zones[z] ≠ .manualOn)) →
        s.zoneOutput z = if s.settings.zonePolarity.getLsbD z.val then .high else .low))
    ∧ ((s.powered = false ∨ s.supply.condition = .battery) → s.zoneOutput z = .highImpedance))
  ∧ ∀ s : State, s.powered = true →
    (s.supply.condition = .battery →
      exec .resetAssert s = .next { s with pins := { s.pins with reset := true } }
        ∧ exec .resetRelease s = .next { s with pins := { s.pins with reset := false } })
    ∧ (s.supply.condition = .main → s.engine.held = false →
      ∃ t, exec .resetAssert s = .next t
        ∧ t.engine = { s.engine with held := true } ∧ t.isLive = false ∧ t.busHeard = false
        ∧ (∀ z : ZoneIx, t.zoneOutput z = if s.settings.zonePolarity.getLsbD z.val then .high else .low)
        ∧ t.owed.triggers = [] ∧ t.owed.transitions = [] ∧ t.owed.pulses = [] ∧ t.owed.follows = [] ∧ t.owed.walks = 0
        ∧ t.iface = { s.iface with code := none, busy := false, phase := .closed, reply := .released }
        ∧ t = { s with
            engine := t.engine, owed := t.owed, iface := t.iface, pins := { s.pins with reset := true } })
    ∧ (s.supply.condition = .main → s.engine.held = true →
      ∃ t, exec .resetRelease s = .next t
        ∧ t.engine = { s.engine with mode := .suspended, held := false }
        ∧ (∀ (n : EntryIx) e, s.table[n] = some e → ∃ e', t.table[n] = some e'
            ∧ (e.phase.isActive = true → e' = { e with
                phase := .armed, lastOutcome := some .interrupted, pending := 0
                storedPattern := e'.storedPattern, storedPermit := e'.storedPermit })
            ∧ (e.phase.isActive = false → e' = { e with
                pending := 0, storedPattern := e'.storedPattern, storedPermit := e'.storedPermit }))
        ∧ (∀ n : EntryIx, s.table[n] = none → t.table[n] = none)
        ∧ (∀ z : ZoneIx, t.zones[z] = .free)
        ∧ t.site = { s.site with lock := false } ∧ t.flags = 0
        ∧ (∀ k : SensorIx, t.sensors[k] = { s.sensors[k] with latch := false })
        ∧ t.device = 0 ∧ t.noticePending = false ∧ t.iface = Interface.fresh
        ∧ t = { s with
            engine := t.engine, table := t.table, zones := t.zones, site := t.site, flags := t.flags
            sensors := t.sensors, device := t.device, iface := t.iface, owed := t.owed
            pins := { s.pins with reset := false } })

/-! ### Chapter 9: notices -/

/-- R151, R152: NEXT NOTICE returns and clears the device group, or the group of the entry with a notice pending that has the highest priority
and among equals the lowest index, with the number of groups still pending in DETAIL, one for each entry with a notice pending and one for the
device; where nothing is pending it answers NOTHING. Table 1 of Chapter 11: the bits of the categories and the codes of the outcomes, and the
notice record byte by byte. R154: INT is driven low exactly while a notice is pending and VDD supplies the part, and is released by the NEXT
NOTICE that clears the last group. -/
def Obligations.NextNoticeRow : Prop :=
  (Category.start.bit = 1 ∧ Category.ending.bit = 2 ∧ Category.skip.bit = 4 ∧ Category.overlap.bit = 8 ∧ Category.preempt.bit = 16)
  ∧ (noticeColdStart = 1 ∧ noticeSupplyReturn = 2 ∧ noticeClockFault = 4 ∧ noticeClockSwitched = 8)
  ∧ (∀ o : EntryOutcome, o.code = (match o with
    | .completed => 1
    | .aborted => 2
    | .capped => 3
    | .stopped => 4
    | .skipped => 5
    | .blocked => 6
    | .interrupted => 7))
  ∧ (∀ (s : State) (groups : List EntryIx), groups.Nodup →
    (∀ n : EntryIx, n ∈ groups ↔ ∃ e, s.table[n] = some e ∧ e.pending ≠ 0) →
    s.pendingGroups = groups.length + if s.device = 0 then 0 else 1)
  ∧
  (∀ s : State, s.intLow = true ↔ s.powered = true ∧ s.supply.condition = .main
    ∧ (s.device ≠ 0 ∨ ∃ (n : EntryIx) (e : Entry), s.table[n] = some e ∧ e.pending ≠ 0))
  ∧ ∀ s : State, s.inProgress 0x60 = true →
    ∃ t, exec .nextNotice s = .next t
      ∧ (s.device ≠ 0 →
          s.completes t .ok (byteOf t.pendingGroups) ∧ t.shows (deviceNoticeRecord s.device)
            ∧ t.showsNotice 0xFF s.device.toNat 0 0 0
            ∧ t = { s with device := 0, iface := t.iface })
      ∧ (∀ (n : EntryIx) (e : Entry), s.device = 0 → s.table[n] = some e → e.pending ≠ 0 →
          (∀ (m : EntryIx) (x : Entry), s.table[m] = some x → x.pending ≠ 0 →
            x.defn.priority < e.defn.priority ∨ (x.defn.priority = e.defn.priority ∧ n ≤ m)) →
          t.table[n] = some { e with pending := 0 } ∧ s.otherSlotsKept t n
            ∧ s.completes t .ok (byteOf t.pendingGroups) ∧ t.shows (entryNoticeRecord n e)
            ∧ t.showsNotice n.val e.pending.toNat e.defn.tag.toNat e.phase.code ((e.lastOutcome.map fun o => o.code).getD 0)
            ∧ t = { s with table := t.table, iface := t.iface })
      ∧ (s.device = 0 → (∀ (n : EntryIx) e, s.table[n] = some e → e.pending = 0) → s.refuses t .nothing 0)
      ∧ (t.pendingGroups = 0 → t.intLow = false)

/-! ### Chapter 10: the two-wire interface -/

/-- R156 to R158, R160: the bytes that a write transfers. A pointer byte above 0x33 and a byte to the buffer or to COMMAND during BUSY are
NACKed and change nothing else than that the rest of the transaction is NACKed; the others are ACKed, and the pointer advances past each data
byte, from 0x33 to 0x00. While the bus is ignored, and outside a transaction of the part's own, nothing is driven and no other interface state
changes. The buffer law is asked for. -/
def Obligations.BusWriteRows : Prop :=
  ∀ (s : State) (b : Byte), s.bufferLaw →
    (s.busHeard = false ∨ s.iface.phase = .closed ∨ s.iface.phase = .ignored → ∀ c : Instr,
      (c = .pointerByte b ∨ c = .transferBufferWrite b ∨ c = .commandWrite b ∨ c = .ignoredRegisterWrite b) →
      exec c s = .next { s with iface := { s.iface with reply := .released } })
    ∧ (s.busHeard = true →
      (s.iface.phase = .awaitPointer → ∃ t, exec (.pointerByte b) s = .next t
        ∧ (b.toNat ≤ 0x33 → t.iface.pointer.val = b.toNat
            ∧ t = { s with iface := { s.iface with pointer := t.iface.pointer, reply := .ack, phase := .writing } })
        ∧ (0x33 < b.toNat → t = { s with iface := { s.iface with reply := .nack, phase := .nacking } }))
      ∧ (s.iface.phase = .writing →
        (s.iface.pointer.val < 0x30 → ∃ t, exec (.transferBufferWrite b) s = .next t
          ∧ (s.iface.busy = false →
              (∀ a, t.iface.buffer.read a = if a = s.iface.pointer.val then b else s.iface.buffer.read a)
                ∧ t.iface.pointer.val = s.iface.pointer.val + 1
                ∧ t = { s with iface :=
                    { s.iface with buffer := t.iface.buffer, pointer := t.iface.pointer, reply := .ack } })
          ∧ (s.iface.busy = true → t = { s with iface := { s.iface with reply := .nack, phase := .nacking } }))
        ∧ (s.iface.pointer.val = 0x30 → ∃ t, exec (.commandWrite b) s = .next t
          ∧ (s.iface.busy = false →
              t = { s with iface := { s.iface with code := some b, pointer := 0x31, reply := .ack } })
          ∧ (s.iface.busy = true → t = { s with iface := { s.iface with reply := .nack, phase := .nacking } }))
        ∧ (0x30 < s.iface.pointer.val → ∃ t, exec (.ignoredRegisterWrite b) s = .next t
          ∧ (s.iface.pointer.val < 0x33 → t.iface.pointer.val = s.iface.pointer.val + 1)
          ∧ (s.iface.pointer.val = 0x33 → t.iface.pointer.val = 0)
          ∧ t = { s with iface := { s.iface with pointer := t.iface.pointer, reply := .ack } }))
      ∧ (s.iface.phase = .nacking → ∀ c : Instr,
        (c = .pointerByte b ∨ c = .transferBufferWrite b ∨ c = .commandWrite b ∨ c = .ignoredRegisterWrite b) →
        exec c s = .next { s with iface := { s.iface with reply := .nack } }))

/-- R156 to R159, R163: a read gives the byte at the pointer, which advances; a START or a STOP begins a code taken, which sets BUSY; a START
opens a transaction for the part's own address alone, with ADR sampled at it; a byte cut off leaves nothing. That the row COMMAND_BEGIN alone may
stand for the beginning, with the transaction left open, is the model's choice (log 13), and so is that the level of ADR sampled at a START is
kept in the state (log 16). While the bus is ignored, and for a read outside a transaction of the part's own, nothing is driven and no other
interface state changes. Table 5 of Chapter 11: the codes of RESULT. -/
def Obligations.BusReadAndConditionRows : Prop :=
  (∀ s : State, s.busHeard = false → ∀ c : Instr,
    (c = .byteRead ∨ c = .commandBegin ∨ ∃ condition cut, c = .busStartOrStop condition cut) →
    exec c s = .next { s with iface := { s.iface with reply := .released } })
  ∧ (ResultCode.none.code = 0 ∧ ResultCode.ok.code = 1 ∧ ResultCode.unknownCommand.code = 2 ∧ ResultCode.badIndex.code = 3
    ∧ ResultCode.emptySlot.code = 4 ∧ ResultCode.occupied.code = 5 ∧ ResultCode.invalidField.code = 6
    ∧ ResultCode.entryProtected.code = 7 ∧ ResultCode.active.code = 8 ∧ ResultCode.inUse.code = 9 ∧ ResultCode.badLink.code = 10
    ∧ ResultCode.wrongState.code = 11 ∧ ResultCode.engineNotLive.code = 12 ∧ ResultCode.notSuspended.code = 13
    ∧ ResultCode.locked.code = 14 ∧ ResultCode.noConfig.code = 15 ∧ ResultCode.overBudget.code = 16
    ∧ ResultCode.zoneBusy.code = 17 ∧ ResultCode.nothing.code = 18)
  ∧ ∀ s : State, s.busHeard = true →
    ((s.iface.phase = .closed ∨ s.iface.phase = .ignored) →
      exec .byteRead s = .next { s with iface := { s.iface with reply := .released } })
    ∧ (s.iface.phase = .reading → ∃ t, exec .byteRead s = .next t
      ∧ (∃ v : Byte, t.iface.reply = .byte v
        ∧ (s.iface.pointer.val < 0x30 → v = s.iface.buffer.read s.iface.pointer.val)
        ∧ (s.iface.pointer.val = 0x30 → v = 0)
        ∧ (s.iface.pointer.val = 0x31 → v = byteOf s.iface.result.code)
        ∧ (s.iface.pointer.val = 0x32 →
            v.getLsbD 0 = s.iface.busy ∧ v.getLsbD 1 = (s.engine.mode == .live) ∧ v.getLsbD 2 = s.timeValid
              ∧ v.getLsbD 3 = s.site.valid ∧ v.getLsbD 4 = s.noticePending
              ∧ v.toNat / 32 = s.timebase.active.code)
        ∧ (s.iface.pointer.val = 0x33 → v = s.iface.detail))
      ∧ (s.iface.pointer.val < 0x33 → t.iface.pointer.val = s.iface.pointer.val + 1)
      ∧ (s.iface.pointer.val = 0x33 → t.iface.pointer.val = 0)
      ∧ t = { s with iface := { s.iface with pointer := t.iface.pointer, reply := t.iface.reply } })
    ∧ (s.iface.code.isSome = true → exec .commandBegin s = .next { s with iface := { s.iface with busy := true } })
    ∧ (s.iface.code = none → exec .commandBegin s = .next s)
    ∧ ∀ cut : Nat,
      (∃ t, exec (.busStartOrStop .stop cut) s = .next t
        ∧ t = { s with iface :=
            { s.iface with busy := s.iface.busy || s.iface.code.isSome, phase := .closed, reply := .released } })
      ∧ ∀ (adr read : Bool) (address : BitVec 7), ∃ t, exec (.busStartOrStop (.start adr address read) cut) s = .next t
        ∧ (address = (if adr then 0x2F else 0x2E) →
            t.iface.phase = (if read then .reading else .awaitPointer) ∧ t.iface.reply = .ack)
        ∧ (address ≠ (if adr then 0x2F else 0x2E) → t.iface.phase = .ignored ∧ t.iface.reply = .released)
        ∧ t = { s with
            iface := { s.iface with
              busy := s.iface.busy || s.iface.code.isSome, phase := t.iface.phase, reply := t.iface.reply }
            pins := { s.pins with adr := adr } }

/-! ### The laws that every step keeps -/

/-- R126, R12: every step keeps the turn order law and the link law, from every state. -/
def Obligations.TableLawsKept : Prop :=
  ∀ s t : State, s.turnLaw ∧ s.linkLaw → step s = .next t → t.turnLaw ∧ t.linkLaw

/-- R131, R137, R145: every step keeps the law of the active entries, the range of every run counter, duration and remaining value, and
the law that the engine is in BACKUP exactly on BATTERY with no command in progress there. -/
def Obligations.EntryLawsKept : Prop :=
  ∀ s t : State, s.modeLaw ∧ s.counterLaw ∧ s.supplyLaw → step s = .next t → t.modeLaw ∧ t.counterLaw ∧ t.supplyLaw

/-- R116, R118, R125, R137: every step keeps the budget law, the ownership law, the law that an OWNED_ON zone belongs to a RUNNING entry, and
the law that no zone is engaged in BACKUP. The engaged count is the number of zones in OWNED_ON, OWNED_OFF or MANUAL_ON. -/
def Obligations.ZoneLawsKept : Prop :=
  (∀ z : Zone, z.engaged = true ↔ (∃ n, z = .ownedOn n) ∨ (∃ n r, z = .ownedOff n r) ∨ z = .manualOn)
  ∧ (∀ (s : State) (members : List ZoneIx), members.Nodup → (∀ z : ZoneIx, z ∈ members ↔ s.zones[z].engaged = true) →
    s.engaged = members.length)
  ∧ ∀ s t : State,
    s.modeLaw ∧ s.supplyLaw ∧ s.budgetLaw ∧ s.ownerLaw ∧ s.energyLaw ∧ s.darkLaw → step s = .next t →
    t.modeLaw ∧ t.supplyLaw ∧ t.budgetLaw ∧ t.ownerLaw ∧ t.energyLaw ∧ t.darkLaw

/-- R22, R51, R67, R69, R75: every step keeps the calendar on a date and time that exists, the protection boundary at one of its four values,
the transfer buffer in canonical form, the crystal oscillator running exactly while it is active or the candidate, the candidate another source
than the active one, and the prescaler below its divisor. The canonical form of the buffer is the model's own (log 21). R74: the active source
changes only at a switch from READY, with CLOCK_SWITCHED, or to INTERNAL, at a fault fallback with CLOCK_FAULT or at a cold start; and a source
is READY only as it was, or from a check of it, but for INTERNAL. -/
def Obligations.DeviceLawsKept : Prop :=
  (∀ s t : State, step s = .next t →
    (t.timebase.active ≠ s.timebase.active →
      ((∃ code quiet, s.timebase.selector = .ready t.timebase.active code quiet) ∧ t.device &&& noticeClockSwitched ≠ 0)
        ∨ (t.timebase.active = .internal ∧ (t.device &&& noticeClockFault ≠ 0 ∨ s.powered = false)))
    ∧ ∀ x code quiet, t.timebase.selector = .ready x code quiet → x ≠ .internal →
      (∃ before, s.timebase.selector = .ready x code before) ∨ ∃ c : Check, s.timebase.selector = .starting c ∧ c.source = x
        ∧ c.code = code)
  ∧ ∀ s t : State,
    s.calendarLaw ∧ s.boundaryLaw ∧ s.bufferLaw ∧ s.crystalLaw ∧ s.candidateLaw ∧ s.prescalerLaw → step s = .next t →
    t.calendarLaw ∧ t.boundaryLaw ∧ t.bufferLaw ∧ t.crystalLaw ∧ t.candidateLaw ∧ t.prescalerLaw
end

