-- ==== Sys2Proof/Laws/Entry.lean ====
section
/-! SUPPORT. What the functions of one entry can do: each keeps the definition part, and each says which of its parts may change. -/

namespace Sys2Proof.Machine

/-! ### The definition part is kept -/

@[simp] theorem Effect.only_entry (e : Entry) : (Effect.only e).entry = e := rfl
@[simp] theorem Effect.only_zones (e : Entry) : (Effect.only e).zones = .keep := rfl
@[simp] theorem Effect.only_ended (e : Entry) : (Effect.only e).ended = none := rfl
@[simp] theorem Effect.only_walk (e : Entry) : (Effect.only e).walk = false := rfl
@[simp] theorem Effect.andThen_entry (a : Effect) (f : Entry → Effect) : (a.andThen f).entry = (f a.entry).entry := rfl

@[simp] theorem Entry.note_defn (e : Entry) (c : Category) : (e.note c).defn = e.defn := rfl
@[simp] theorem Entry.note_phase (e : Entry) (c : Category) : (e.note c).phase = e.phase := rfl
@[simp] theorem Entry.becomeDue_defn (e : Entry) (x : Option Levels) : (e.becomeDue x).defn = e.defn := rfl
@[simp] theorem Entry.becomeDue_phase (e : Entry) (x : Option Levels) :
    (e.becomeDue x).phase = .due { remaining := none, elapsed := 0, seconds := 0 } := rfl

@[simp] theorem Entry.noteOutcome_defn (e : Entry) (o : EntryOutcome) : (e.noteOutcome o).defn = e.defn := by
  cases o <;> rfl

@[simp] theorem Entry.recheck_defn (v : View) (e : Entry) : (e.recheck v).entry.defn = e.defn := by
  unfold Entry.recheck; split <;> rfl

@[simp] theorem Entry.settle_defn (v : View) (o : EntryOutcome) (next : Phase) (e : Entry) :
    (e.settle v o next).entry.defn = e.defn := by
  simp [Entry.settle]

@[simp] theorem Entry.resolve_defn (v : View) (o : EntryOutcome) (e : Entry) : (e.resolve v o).entry.defn = e.defn :=
  Entry.settle_defn v o _ e

@[simp] theorem Entry.trigger_defn (v : View) (levels : Levels) (x : Option Levels) (e : Entry) :
    (e.trigger v levels x).entry.defn = e.defn := by
  unfold Entry.trigger
  split
  · split
    · split
      · rfl
      · exact Entry.resolve_defn _ _ _
    · rfl
    · rfl
    · split <;> rfl
    · split <;> rfl
    · rfl
    · rfl
  · rfl

@[simp] theorem Entry.patternTrigger_defn (v : View) (levels : Levels) (e : Entry) :
    (e.patternTrigger v levels).entry.defn = e.defn := by
  unfold Entry.patternTrigger; split
  · split
    · rfl
    · exact Entry.trigger_defn _ _ _ _
  · rfl

@[simp] theorem Entry.followEvent_defn (v : View) (e : Entry) : (e.followEvent v).entry.defn = e.defn := by
  unfold Entry.followEvent; split
  · exact Entry.trigger_defn _ _ _ _
  · rfl

@[simp] theorem Entry.countOn_defn (e : Entry) : e.countOn.defn = e.defn := by
  unfold Entry.countOn; split <;> rfl

@[simp] theorem Entry.count_defn (v : View) (e : Entry) : (e.count v).entry.defn = e.defn := by
  unfold Entry.count; split
  · exact Entry.resolve_defn _ _ _
  · exact Entry.countOn_defn e

@[simp] theorem Entry.secondEvent_defn (v : View) (matched matchFirst skipCount : Bool) (e : Entry) :
    (e.secondEvent v matched matchFirst skipCount).entry.defn = e.defn := by
  unfold Entry.secondEvent
  split <;> simp only <;> split <;> split <;> simp

@[simp] theorem Entry.pulse_defn (v : View) (k : SensorIx) (e : Entry) : (e.pulse v k).entry.defn = e.defn := by
  unfold Entry.pulse
  split
  · split
    · split
      · exact Entry.resolve_defn _ _ _
      · rfl
    · rfl
  all_goals rfl

@[simp] theorem Entry.permitTransition_defn (v : View) (value : Bool) (e : Entry) :
    (e.permitTransition v value).entry.defn = e.defn := by
  unfold Entry.permitTransition
  split
  · split
    · split
      · rfl
      · exact Entry.resolve_defn _ _ _
    · rfl
  all_goals rfl

@[simp] theorem Entry.holdActive_defn (v : View) (e : Entry) : (e.holdActive v).entry.defn = e.defn :=
  Entry.settle_defn _ _ _ _

@[simp] theorem Entry.arm_defn (v : View) (e : Entry) : (e.arm v).entry.defn = e.defn := by simp [Entry.arm]

@[simp] theorem Entry.confirmed_defn (v : View) (e : Entry) : (e.confirmed v).entry.defn = e.defn := by
  simp [Entry.confirmed]

@[simp] theorem Entry.victimised_defn (e : Entry) : e.victimised.entry.defn = e.defn := by
  unfold Entry.victimised; split <;> rfl

@[simp] theorem Entry.granted_defn (e : Entry) (w : WaitState) (now : Calendar) : (e.granted w now).defn = e.defn := rfl

/-! ### The next state after a resolution -/

/-- A re-check outside LIVE leaves the entry alone (R48). -/
theorem Entry.recheck_of_not_live (v : View) (e : Entry) (h : v.live = false) : e.recheck v = Effect.only e := by
  simp [Entry.recheck, Entry.recheckTakes, h]

/-- A re-check leaves an entry alone that is not ARMED (R47). -/
theorem Entry.recheck_of_not_armed (v : View) (e : Entry) (h : e.phase ≠ .armed) : e.recheck v = Effect.only e := by
  have : e.phase.isArmed = false := by
    revert h; cases e.phase <;> simp [Phase.isArmed]
  simp [Entry.recheck, Entry.recheckTakes, this]

/-- A re-check keeps the zones and ends nothing. -/
@[simp] theorem Entry.recheck_zones (v : View) (e : Entry) : (e.recheck v).zones = .keep := by
  unfold Entry.recheck; split <;> rfl
@[simp] theorem Entry.recheck_ended (v : View) (e : Entry) : (e.recheck v).ended = none := by
  unfold Entry.recheck; split <;> rfl
@[simp] theorem Entry.recheck_lastOutcome (v : View) (e : Entry) : (e.recheck v).entry.lastOutcome = e.lastOutcome := by
  unfold Entry.recheck; split <;> rfl
@[simp] theorem Entry.recheck_pending (v : View) (e : Entry) : (e.recheck v).entry.pending = e.pending := by
  unfold Entry.recheck; split <;> rfl

/-- After a re-check the entry is as it was, or DUE by a trigger with the current levels as its snapshot (R48). -/
theorem Entry.recheck_phase (v : View) (e : Entry) :
    (e.recheck v).entry = e ∨ (e.phase = .armed ∧ v.live = true ∧ (e.recheck v).entry = e.becomeDue (some v.levels)) := by
  unfold Entry.recheck
  split
  · next h =>
    right
    simp only [Entry.recheckTakes, Bool.and_eq_true] at h
    refine ⟨?_, h.1.1.1, rfl⟩
    have h' := h.1.1.2
    revert h'
    cases e.phase <;> simp [Phase.isArmed]
  · exact Or.inl rfl

/-- R32: what a resolution leaves: the outcome, and the next state or DUE by the re-check of an entry that enters ARMED. -/
@[simp] theorem Entry.settle_lastOutcome (v : View) (o : EntryOutcome) (next : Phase) (e : Entry) :
    (e.settle v o next).entry.lastOutcome = some o := by simp [Entry.settle]
@[simp] theorem Entry.settle_zones (v : View) (o : EntryOutcome) (next : Phase) (e : Entry) :
    (e.settle v o next).zones = if e.phase.ownsZones then ZoneEffect.release else ZoneEffect.keep := rfl
@[simp] theorem Entry.settle_ended (v : View) (o : EntryOutcome) (next : Phase) (e : Entry) :
    (e.settle v o next).ended = if v.live && o.isEnd then some o else none := rfl

/-- A trigger ends no run: BLOCKED is not an end (R31). -/
@[simp] theorem Entry.trigger_ended (v : View) (levels : Levels) (x : Option Levels) (e : Entry) :
    (e.trigger v levels x).ended = none := by
  unfold Entry.trigger
  split
  · split
    · split
      · rfl
      · simp [Entry.resolve, EntryOutcome.isEnd]
    all_goals first | rfl | (split <;> rfl)
  · rfl

/-- A trigger moves no zone. -/
@[simp] theorem Entry.trigger_zones (v : View) (levels : Levels) (x : Option Levels) (e : Entry) :
    (e.trigger v levels x).zones = .keep := by
  unfold Entry.trigger
  split
  · split
    · next h =>
      split
      · rfl
      · simp [Entry.resolve, h, Phase.ownsZones]
    all_goals first | rfl | (split <;> rfl)
  · rfl

@[simp] theorem Entry.patternTrigger_ended (v : View) (levels : Levels) (e : Entry) : (e.patternTrigger v levels).ended = none := by
  unfold Entry.patternTrigger; split
  · split
    · rfl
    · exact Entry.trigger_ended _ _ _ _
  · rfl
@[simp] theorem Entry.patternTrigger_zones (v : View) (levels : Levels) (e : Entry) : (e.patternTrigger v levels).zones = .keep := by
  unfold Entry.patternTrigger; split
  · split
    · rfl
    · exact Entry.trigger_zones _ _ _ _
  · rfl
@[simp] theorem Entry.followEvent_ended (v : View) (e : Entry) : (e.followEvent v).ended = none := by
  unfold Entry.followEvent; split
  · exact Entry.trigger_ended _ _ _ _
  · rfl
@[simp] theorem Entry.followEvent_zones (v : View) (e : Entry) : (e.followEvent v).zones = .keep := by
  unfold Entry.followEvent; split
  · exact Entry.trigger_zones _ _ _ _
  · rfl

/-- A resolution leaves the entry in the next state, or DUE by the re-check of an entry that enters ARMED (R32, R48). -/
theorem Entry.settle_phase (v : View) (o : EntryOutcome) (next : Phase) (e : Entry) :
    (e.settle v o next).entry.phase = next
      ∨ (next = .armed ∧ v.live = true
          ∧ (e.settle v o next).entry.phase = .due { remaining := none, elapsed := 0, seconds := 0 }) := by
  rcases Entry.recheck_phase v { e.noteOutcome o with phase := next, lastOutcome := some o } with h | ⟨h1, h2, h3⟩
  · left
    simp only [Entry.settle, h]
  · right
    refine ⟨h1, h2, ?_⟩
    simp only [Entry.settle, h3, Entry.becomeDue_phase]

end Sys2Proof.Machine
end

