-- ==== Sys2Proof/Laws/Memory.lean ====
section
/-! SUPPORT. The transfer buffer as memory: what a read gives after a write or a record, and that every operation keeps the canonical
form. -/

namespace Sys2Proof.Machine

/-- Below the first cell of a canonical list every address reads as unlisted. -/
theorem Memory.read_below : ∀ (m : Memory) (lo a : Nat), Memory.wfFrom lo m = true → a < lo → m.read a = Memory.unlisted
  | [], _, _, _, _ => rfl
  | (b, v) :: rest, lo, a, h, hlt => by
    simp only [Memory.wfFrom, Bool.and_eq_true, decide_eq_true_eq] at h
    obtain ⟨⟨⟨hb, _⟩, _⟩, hr⟩ := h
    have hne : a ≠ b := by omega
    simp only [Memory.read, if_neg hne]
    exact Memory.read_below rest (b + 1) a hr (by omega)

/-- The canonical form from a later address is the canonical form from an earlier one. -/
theorem Memory.wfFrom_mono : ∀ (m : Memory) (lo lo' : Nat), lo' ≤ lo → Memory.wfFrom lo m = true → Memory.wfFrom lo' m = true
  | [], _, _, _, _ => rfl
  | (b, v) :: rest, lo, lo', hle, h => by
    simp only [Memory.wfFrom, Bool.and_eq_true, decide_eq_true_eq] at h ⊢
    exact ⟨⟨⟨by omega, h.1.1.2⟩, h.1.2⟩, h.2⟩

/-- What a cell put in front reads as, over a list that starts beyond it. -/
theorem Memory.read_cell (a : Nat) (v : Byte) (rest : Memory) (x : Nat) (h : Memory.wfFrom (a + 1) rest = true) :
    (Memory.cell a v rest).read x = if x = a then v else rest.read x := by
  by_cases hv : v = Memory.unlisted
  · simp only [Memory.cell, if_pos hv]
    split
    · next hx => rw [Memory.read_below rest (a + 1) x h (by omega), hv]
    · rfl
  · simp only [Memory.cell, if_neg hv, Memory.read]

/-- A cell put in front keeps the canonical form. -/
theorem Memory.wfFrom_cell (lo a : Nat) (v : Byte) (rest : Memory) (hlo : lo ≤ a) (ha : a < Memory.size)
    (h : Memory.wfFrom (a + 1) rest = true) : Memory.wfFrom lo (Memory.cell a v rest) = true := by
  by_cases hv : v = Memory.unlisted
  · simp only [Memory.cell, if_pos hv]
    exact Memory.wfFrom_mono rest (a + 1) lo (by omega) h
  · simp only [Memory.cell, if_neg hv, Memory.wfFrom, Bool.and_eq_true, decide_eq_true_eq, bne_iff_ne]
    exact ⟨⟨⟨hlo, ha⟩, hv⟩, h⟩

/-- A read after a write, from any lower bound. -/
theorem Memory.read_write_from : ∀ (m : Memory) (lo a : Nat) (v : Byte) (x : Nat), Memory.wfFrom lo m = true →
    (m.write a v).read x = if x = a then v else m.read x
  | [], _, a, v, x, _ => by
    simp only [Memory.write]
    rw [Memory.read_cell a v [] x rfl]
  | (b, w) :: rest, lo, a, v, x, h => by
    have h' := h
    simp only [Memory.wfFrom, Bool.and_eq_true, decide_eq_true_eq] at h'
    obtain ⟨⟨⟨hb, hs⟩, hw⟩, hr⟩ := h'
    simp only [Memory.write]
    split
    · next hab =>
      rw [Memory.read_cell]
      simp only [Memory.wfFrom, Bool.and_eq_true, decide_eq_true_eq]
      exact ⟨⟨⟨by omega, hs⟩, hw⟩, hr⟩
    · split
      · next hab =>
        subst hab
        rw [Memory.read_cell a v rest x hr]
        simp only [Memory.read]
        split <;> rfl
      · next hlt hne =>
        simp only [Memory.read]
        rw [Memory.read_write_from rest (b + 1) a v x hr]
        by_cases hxb : x = b
        · subst hxb
          rw [if_pos rfl, if_neg (Ne.symm hne), if_pos rfl]
        · rw [if_neg hxb, if_neg hxb]

/-- A write keeps the canonical form, from any lower bound not above the address. -/
theorem Memory.wfFrom_write : ∀ (m : Memory) (lo a : Nat) (v : Byte), Memory.wfFrom lo m = true → lo ≤ a → a < Memory.size →
    Memory.wfFrom lo (m.write a v) = true
  | [], lo, a, v, _, hlo, ha => Memory.wfFrom_cell lo a v [] hlo ha rfl
  | (b, w) :: rest, lo, a, v, h, hlo, ha => by
    have h' := h
    simp only [Memory.wfFrom, Bool.and_eq_true, decide_eq_true_eq] at h'
    obtain ⟨⟨⟨hb, hs⟩, hw⟩, hr⟩ := h'
    simp only [Memory.write]
    split
    · next hab =>
      refine Memory.wfFrom_cell lo a v _ hlo ha ?_
      simp only [Memory.wfFrom, Bool.and_eq_true, decide_eq_true_eq]
      exact ⟨⟨⟨by omega, hs⟩, hw⟩, hr⟩
    · split
      · next hab =>
        subst hab
        exact Memory.wfFrom_cell lo a v rest hlo ha hr
      · next hlt hne =>
        simp only [Memory.wfFrom, Bool.and_eq_true, decide_eq_true_eq]
        exact ⟨⟨⟨hb, hs⟩, hw⟩, Memory.wfFrom_write rest (b + 1) a v hr (by omega) ha⟩

/-- A read after a write gives the byte written at its address, and what stood before at every other. -/
theorem Memory.read_write (m : Memory) (a : Nat) (v : Byte) (x : Nat) (h : m.wf = true) :
    (m.write a v).read x = if x = a then v else m.read x := Memory.read_write_from m 0 a v x h

/-- A write inside the buffer keeps the canonical form. -/
theorem Memory.wf_write (m : Memory) (a : Nat) (v : Byte) (h : m.wf = true) (ha : a < Memory.size) :
    (m.write a v).wf = true := Memory.wfFrom_write m 0 a v h (Nat.zero_le a) ha

/-- The cells of a record are in canonical form where the record ends inside the buffer. -/
theorem Memory.wfFrom_cellsFrom : ∀ (bytes : List Byte) (a : Nat), a + bytes.length ≤ Memory.size →
    Memory.wfFrom a (Memory.cellsFrom a bytes) = true
  | [], _, _ => rfl
  | v :: rest, a, h => by
    simp only [List.length_cons] at h
    exact Memory.wfFrom_cell a a v _ (Nat.le_refl a) (by omega) (Memory.wfFrom_cellsFrom rest (a + 1) (by omega))

/-- The bytes of a record read back in their order. -/
theorem Memory.read_cellsFrom : ∀ (bytes : List Byte) (a k : Nat), a + bytes.length ≤ Memory.size →
    (Memory.cellsFrom a bytes).read (a + k) = bytes.getD k 0
  | [], a, k, _ => by simp [Memory.cellsFrom, Memory.read, Memory.unlisted]
  | v :: rest, a, k, h => by
    simp only [List.length_cons] at h
    simp only [Memory.cellsFrom]
    rw [Memory.read_cell a v _ _ (Memory.wfFrom_cellsFrom rest (a + 1) (by omega))]
    cases k with
    | zero => simp
    | succ k =>
      rw [if_neg (by omega), show a + (k + 1) = a + 1 + k by omega, Memory.read_cellsFrom rest (a + 1) k (by omega)]
      simp

/-- A record is in canonical form. -/
theorem Memory.wf_ofRecord (bytes : List Byte) : (Memory.ofRecord bytes).wf = true := by
  refine Memory.wfFrom_cellsFrom _ 0 ?_
  simp only [List.length_take]
  omega

/-- R165: a record reads back from address 0x00, and every byte of the buffer beyond it reads 0. -/
theorem Memory.read_ofRecord (bytes : List Byte) (a : Nat) (ha : a < Memory.size) :
    (Memory.ofRecord bytes).read a = bytes.getD a 0 := by
  have h := Memory.read_cellsFrom (bytes.take Memory.size) 0 a (by simp only [List.length_take]; omega)
  rw [Nat.zero_add] at h
  rw [Memory.ofRecord, h]
  simp only [List.getD_eq_getElem?_getD, List.getElem?_take_of_lt ha]

/-- The fresh buffer is in canonical form. -/
theorem Memory.wf_nil : Memory.wf [] = true := rfl

end Sys2Proof.Machine
end

