-- ==== Sys2Proof/Laws/State.lean ====
section
/-! SUPPORT. One lemma for each field and each named update of the state, each true by rfl, so that no later proof unfolds a
record update. -/

namespace Sys2Proof.Machine

variable (s : State)

/-! ### putEntry -/

@[simp] theorem State.putEntry_pending (n : EntryIx) (e : Option Entry) : (s.putEntry n e).pending = s.pending := by delta State.putEntry; rfl
@[simp] theorem State.putEntry_table (n : EntryIx) (e : Option Entry) : (s.putEntry n e).table = s.table.set n e := by delta State.putEntry; rfl
@[simp] theorem State.putEntry_turn (n : EntryIx) (e : Option Entry) : (s.putEntry n e).turn = s.turn := by delta State.putEntry; rfl
@[simp] theorem State.putEntry_boundary (n : EntryIx) (e : Option Entry) : (s.putEntry n e).boundary = s.boundary := by delta State.putEntry; rfl
@[simp] theorem State.putEntry_calendar (n : EntryIx) (e : Option Entry) : (s.putEntry n e).calendar = s.calendar := by delta State.putEntry; rfl
@[simp] theorem State.putEntry_timeValid (n : EntryIx) (e : Option Entry) : (s.putEntry n e).timeValid = s.timeValid := by delta State.putEntry; rfl
@[simp] theorem State.putEntry_timebase (n : EntryIx) (e : Option Entry) : (s.putEntry n e).timebase = s.timebase := by delta State.putEntry; rfl
@[simp] theorem State.putEntry_sensors (n : EntryIx) (e : Option Entry) : (s.putEntry n e).sensors = s.sensors := by delta State.putEntry; rfl
@[simp] theorem State.putEntry_flags (n : EntryIx) (e : Option Entry) : (s.putEntry n e).flags = s.flags := by delta State.putEntry; rfl
@[simp] theorem State.putEntry_zones (n : EntryIx) (e : Option Entry) : (s.putEntry n e).zones = s.zones := by delta State.putEntry; rfl
@[simp] theorem State.putEntry_engine (n : EntryIx) (e : Option Entry) : (s.putEntry n e).engine = s.engine := by delta State.putEntry; rfl
@[simp] theorem State.putEntry_site (n : EntryIx) (e : Option Entry) : (s.putEntry n e).site = s.site := by delta State.putEntry; rfl
@[simp] theorem State.putEntry_supply (n : EntryIx) (e : Option Entry) : (s.putEntry n e).supply = s.supply := by delta State.putEntry; rfl
@[simp] theorem State.putEntry_device (n : EntryIx) (e : Option Entry) : (s.putEntry n e).device = s.device := by delta State.putEntry; rfl
@[simp] theorem State.putEntry_iface (n : EntryIx) (e : Option Entry) : (s.putEntry n e).iface = s.iface := by delta State.putEntry; rfl
@[simp] theorem State.putEntry_pins (n : EntryIx) (e : Option Entry) : (s.putEntry n e).pins = s.pins := by delta State.putEntry; rfl
@[simp] theorem State.putEntry_owed (n : EntryIx) (e : Option Entry) : (s.putEntry n e).owed = s.owed := by delta State.putEntry; rfl
@[simp] theorem State.putEntry_ticks (n : EntryIx) (e : Option Entry) : (s.putEntry n e).ticks = s.ticks := by delta State.putEntry; rfl

/-! ### putZone -/

@[simp] theorem State.putZone_pending (z : ZoneIx) (x : Zone) : (s.putZone z x).pending = s.pending := by delta State.putZone; rfl
@[simp] theorem State.putZone_table (z : ZoneIx) (x : Zone) : (s.putZone z x).table = s.table := by delta State.putZone; rfl
@[simp] theorem State.putZone_turn (z : ZoneIx) (x : Zone) : (s.putZone z x).turn = s.turn := by delta State.putZone; rfl
@[simp] theorem State.putZone_boundary (z : ZoneIx) (x : Zone) : (s.putZone z x).boundary = s.boundary := by delta State.putZone; rfl
@[simp] theorem State.putZone_calendar (z : ZoneIx) (x : Zone) : (s.putZone z x).calendar = s.calendar := by delta State.putZone; rfl
@[simp] theorem State.putZone_timeValid (z : ZoneIx) (x : Zone) : (s.putZone z x).timeValid = s.timeValid := by delta State.putZone; rfl
@[simp] theorem State.putZone_timebase (z : ZoneIx) (x : Zone) : (s.putZone z x).timebase = s.timebase := by delta State.putZone; rfl
@[simp] theorem State.putZone_sensors (z : ZoneIx) (x : Zone) : (s.putZone z x).sensors = s.sensors := by delta State.putZone; rfl
@[simp] theorem State.putZone_flags (z : ZoneIx) (x : Zone) : (s.putZone z x).flags = s.flags := by delta State.putZone; rfl
@[simp] theorem State.putZone_zones (z : ZoneIx) (x : Zone) : (s.putZone z x).zones = s.zones.set z x := by delta State.putZone; rfl
@[simp] theorem State.putZone_engine (z : ZoneIx) (x : Zone) : (s.putZone z x).engine = s.engine := by delta State.putZone; rfl
@[simp] theorem State.putZone_site (z : ZoneIx) (x : Zone) : (s.putZone z x).site = s.site := by delta State.putZone; rfl
@[simp] theorem State.putZone_supply (z : ZoneIx) (x : Zone) : (s.putZone z x).supply = s.supply := by delta State.putZone; rfl
@[simp] theorem State.putZone_device (z : ZoneIx) (x : Zone) : (s.putZone z x).device = s.device := by delta State.putZone; rfl
@[simp] theorem State.putZone_iface (z : ZoneIx) (x : Zone) : (s.putZone z x).iface = s.iface := by delta State.putZone; rfl
@[simp] theorem State.putZone_pins (z : ZoneIx) (x : Zone) : (s.putZone z x).pins = s.pins := by delta State.putZone; rfl
@[simp] theorem State.putZone_owed (z : ZoneIx) (x : Zone) : (s.putZone z x).owed = s.owed := by delta State.putZone; rfl
@[simp] theorem State.putZone_ticks (z : ZoneIx) (x : Zone) : (s.putZone z x).ticks = s.ticks := by delta State.putZone; rfl

/-! ### putSensor -/

@[simp] theorem State.putSensor_pending (k : SensorIx) (x : Sensor) : (s.putSensor k x).pending = s.pending := by delta State.putSensor; rfl
@[simp] theorem State.putSensor_table (k : SensorIx) (x : Sensor) : (s.putSensor k x).table = s.table := by delta State.putSensor; rfl
@[simp] theorem State.putSensor_turn (k : SensorIx) (x : Sensor) : (s.putSensor k x).turn = s.turn := by delta State.putSensor; rfl
@[simp] theorem State.putSensor_boundary (k : SensorIx) (x : Sensor) : (s.putSensor k x).boundary = s.boundary := by delta State.putSensor; rfl
@[simp] theorem State.putSensor_calendar (k : SensorIx) (x : Sensor) : (s.putSensor k x).calendar = s.calendar := by delta State.putSensor; rfl
@[simp] theorem State.putSensor_timeValid (k : SensorIx) (x : Sensor) : (s.putSensor k x).timeValid = s.timeValid := by delta State.putSensor; rfl
@[simp] theorem State.putSensor_timebase (k : SensorIx) (x : Sensor) : (s.putSensor k x).timebase = s.timebase := by delta State.putSensor; rfl
@[simp] theorem State.putSensor_sensors (k : SensorIx) (x : Sensor) : (s.putSensor k x).sensors = s.sensors.set k x := by delta State.putSensor; rfl
@[simp] theorem State.putSensor_flags (k : SensorIx) (x : Sensor) : (s.putSensor k x).flags = s.flags := by delta State.putSensor; rfl
@[simp] theorem State.putSensor_zones (k : SensorIx) (x : Sensor) : (s.putSensor k x).zones = s.zones := by delta State.putSensor; rfl
@[simp] theorem State.putSensor_engine (k : SensorIx) (x : Sensor) : (s.putSensor k x).engine = s.engine := by delta State.putSensor; rfl
@[simp] theorem State.putSensor_site (k : SensorIx) (x : Sensor) : (s.putSensor k x).site = s.site := by delta State.putSensor; rfl
@[simp] theorem State.putSensor_supply (k : SensorIx) (x : Sensor) : (s.putSensor k x).supply = s.supply := by delta State.putSensor; rfl
@[simp] theorem State.putSensor_device (k : SensorIx) (x : Sensor) : (s.putSensor k x).device = s.device := by delta State.putSensor; rfl
@[simp] theorem State.putSensor_iface (k : SensorIx) (x : Sensor) : (s.putSensor k x).iface = s.iface := by delta State.putSensor; rfl
@[simp] theorem State.putSensor_pins (k : SensorIx) (x : Sensor) : (s.putSensor k x).pins = s.pins := by delta State.putSensor; rfl
@[simp] theorem State.putSensor_owed (k : SensorIx) (x : Sensor) : (s.putSensor k x).owed = s.owed := by delta State.putSensor; rfl
@[simp] theorem State.putSensor_ticks (k : SensorIx) (x : Sensor) : (s.putSensor k x).ticks = s.ticks := by delta State.putSensor; rfl

/-! ### oweWalks -/

@[simp] theorem State.oweWalks_pending (k : Nat) : (s.oweWalks k).pending = s.pending := by delta State.oweWalks; rfl
@[simp] theorem State.oweWalks_table (k : Nat) : (s.oweWalks k).table = s.table := by delta State.oweWalks; rfl
@[simp] theorem State.oweWalks_turn (k : Nat) : (s.oweWalks k).turn = s.turn := by delta State.oweWalks; rfl
@[simp] theorem State.oweWalks_boundary (k : Nat) : (s.oweWalks k).boundary = s.boundary := by delta State.oweWalks; rfl
@[simp] theorem State.oweWalks_calendar (k : Nat) : (s.oweWalks k).calendar = s.calendar := by delta State.oweWalks; rfl
@[simp] theorem State.oweWalks_timeValid (k : Nat) : (s.oweWalks k).timeValid = s.timeValid := by delta State.oweWalks; rfl
@[simp] theorem State.oweWalks_timebase (k : Nat) : (s.oweWalks k).timebase = s.timebase := by delta State.oweWalks; rfl
@[simp] theorem State.oweWalks_sensors (k : Nat) : (s.oweWalks k).sensors = s.sensors := by delta State.oweWalks; rfl
@[simp] theorem State.oweWalks_flags (k : Nat) : (s.oweWalks k).flags = s.flags := by delta State.oweWalks; rfl
@[simp] theorem State.oweWalks_zones (k : Nat) : (s.oweWalks k).zones = s.zones := by delta State.oweWalks; rfl
@[simp] theorem State.oweWalks_engine (k : Nat) : (s.oweWalks k).engine = s.engine := by delta State.oweWalks; rfl
@[simp] theorem State.oweWalks_site (k : Nat) : (s.oweWalks k).site = s.site := by delta State.oweWalks; rfl
@[simp] theorem State.oweWalks_supply (k : Nat) : (s.oweWalks k).supply = s.supply := by delta State.oweWalks; rfl
@[simp] theorem State.oweWalks_device (k : Nat) : (s.oweWalks k).device = s.device := by delta State.oweWalks; rfl
@[simp] theorem State.oweWalks_iface (k : Nat) : (s.oweWalks k).iface = s.iface := by delta State.oweWalks; rfl
@[simp] theorem State.oweWalks_pins (k : Nat) : (s.oweWalks k).pins = s.pins := by delta State.oweWalks; rfl
@[simp] theorem State.oweWalks_owed (k : Nat) : (s.oweWalks k).owed = { s.owed with walks := s.owed.walks + k } := by delta State.oweWalks; rfl
@[simp] theorem State.oweWalks_ticks (k : Nat) : (s.oweWalks k).ticks = s.ticks := by delta State.oweWalks; rfl

/-! ### oweSeconds -/

@[simp] theorem State.oweSeconds_pending (k : Nat) : (s.oweSeconds k).pending = s.pending := by delta State.oweSeconds; rfl
@[simp] theorem State.oweSeconds_table (k : Nat) : (s.oweSeconds k).table = s.table := by delta State.oweSeconds; rfl
@[simp] theorem State.oweSeconds_turn (k : Nat) : (s.oweSeconds k).turn = s.turn := by delta State.oweSeconds; rfl
@[simp] theorem State.oweSeconds_boundary (k : Nat) : (s.oweSeconds k).boundary = s.boundary := by delta State.oweSeconds; rfl
@[simp] theorem State.oweSeconds_calendar (k : Nat) : (s.oweSeconds k).calendar = s.calendar := by delta State.oweSeconds; rfl
@[simp] theorem State.oweSeconds_timeValid (k : Nat) : (s.oweSeconds k).timeValid = s.timeValid := by delta State.oweSeconds; rfl
@[simp] theorem State.oweSeconds_timebase (k : Nat) : (s.oweSeconds k).timebase = s.timebase := by delta State.oweSeconds; rfl
@[simp] theorem State.oweSeconds_sensors (k : Nat) : (s.oweSeconds k).sensors = s.sensors := by delta State.oweSeconds; rfl
@[simp] theorem State.oweSeconds_flags (k : Nat) : (s.oweSeconds k).flags = s.flags := by delta State.oweSeconds; rfl
@[simp] theorem State.oweSeconds_zones (k : Nat) : (s.oweSeconds k).zones = s.zones := by delta State.oweSeconds; rfl
@[simp] theorem State.oweSeconds_engine (k : Nat) : (s.oweSeconds k).engine = s.engine := by delta State.oweSeconds; rfl
@[simp] theorem State.oweSeconds_site (k : Nat) : (s.oweSeconds k).site = s.site := by delta State.oweSeconds; rfl
@[simp] theorem State.oweSeconds_supply (k : Nat) : (s.oweSeconds k).supply = s.supply := by delta State.oweSeconds; rfl
@[simp] theorem State.oweSeconds_device (k : Nat) : (s.oweSeconds k).device = s.device := by delta State.oweSeconds; rfl
@[simp] theorem State.oweSeconds_iface (k : Nat) : (s.oweSeconds k).iface = s.iface := by delta State.oweSeconds; rfl
@[simp] theorem State.oweSeconds_pins (k : Nat) : (s.oweSeconds k).pins = s.pins := by delta State.oweSeconds; rfl
@[simp] theorem State.oweSeconds_owed (k : Nat) : (s.oweSeconds k).owed = { s.owed with seconds := s.owed.seconds + k } := by delta State.oweSeconds; rfl
@[simp] theorem State.oweSeconds_ticks (k : Nat) : (s.oweSeconds k).ticks = s.ticks := by delta State.oweSeconds; rfl

/-! ### dropArrivals -/

@[simp] theorem State.dropArrivals_pending : (s.dropArrivals).pending = s.pending := by delta State.dropArrivals; rfl
@[simp] theorem State.dropArrivals_table : (s.dropArrivals).table = s.table := by delta State.dropArrivals; rfl
@[simp] theorem State.dropArrivals_turn : (s.dropArrivals).turn = s.turn := by delta State.dropArrivals; rfl
@[simp] theorem State.dropArrivals_boundary : (s.dropArrivals).boundary = s.boundary := by delta State.dropArrivals; rfl
@[simp] theorem State.dropArrivals_calendar : (s.dropArrivals).calendar = s.calendar := by delta State.dropArrivals; rfl
@[simp] theorem State.dropArrivals_timeValid : (s.dropArrivals).timeValid = s.timeValid := by delta State.dropArrivals; rfl
@[simp] theorem State.dropArrivals_timebase : (s.dropArrivals).timebase = s.timebase := by delta State.dropArrivals; rfl
@[simp] theorem State.dropArrivals_sensors : (s.dropArrivals).sensors = s.sensors := by delta State.dropArrivals; rfl
@[simp] theorem State.dropArrivals_flags : (s.dropArrivals).flags = s.flags := by delta State.dropArrivals; rfl
@[simp] theorem State.dropArrivals_zones : (s.dropArrivals).zones = s.zones := by delta State.dropArrivals; rfl
@[simp] theorem State.dropArrivals_engine : (s.dropArrivals).engine = s.engine := by delta State.dropArrivals; rfl
@[simp] theorem State.dropArrivals_site : (s.dropArrivals).site = s.site := by delta State.dropArrivals; rfl
@[simp] theorem State.dropArrivals_supply : (s.dropArrivals).supply = s.supply := by delta State.dropArrivals; rfl
@[simp] theorem State.dropArrivals_device : (s.dropArrivals).device = s.device := by delta State.dropArrivals; rfl
@[simp] theorem State.dropArrivals_iface : (s.dropArrivals).iface = s.iface := by delta State.dropArrivals; rfl
@[simp] theorem State.dropArrivals_pins : (s.dropArrivals).pins = s.pins := by delta State.dropArrivals; rfl
@[simp] theorem State.dropArrivals_owed : (s.dropArrivals).owed = { s.owed with
      triggers := [], transitions := [], pulses := [], follows := [], walks := 0
      underway := { s.owed.underway with group := { walk := false, events := [] } } } := rfl
@[simp] theorem State.dropArrivals_ticks : (s.dropArrivals).ticks = s.ticks := by delta State.dropArrivals; rfl

/-! ### dropFollowsTo -/

@[simp] theorem State.dropFollowsTo_pending (n : EntryIx) : (s.dropFollowsTo n).pending = s.pending := by delta State.dropFollowsTo; rfl
@[simp] theorem State.dropFollowsTo_table (n : EntryIx) : (s.dropFollowsTo n).table = s.table := by delta State.dropFollowsTo; rfl
@[simp] theorem State.dropFollowsTo_turn (n : EntryIx) : (s.dropFollowsTo n).turn = s.turn := by delta State.dropFollowsTo; rfl
@[simp] theorem State.dropFollowsTo_boundary (n : EntryIx) : (s.dropFollowsTo n).boundary = s.boundary := by delta State.dropFollowsTo; rfl
@[simp] theorem State.dropFollowsTo_calendar (n : EntryIx) : (s.dropFollowsTo n).calendar = s.calendar := by delta State.dropFollowsTo; rfl
@[simp] theorem State.dropFollowsTo_timeValid (n : EntryIx) : (s.dropFollowsTo n).timeValid = s.timeValid := by delta State.dropFollowsTo; rfl
@[simp] theorem State.dropFollowsTo_timebase (n : EntryIx) : (s.dropFollowsTo n).timebase = s.timebase := by delta State.dropFollowsTo; rfl
@[simp] theorem State.dropFollowsTo_sensors (n : EntryIx) : (s.dropFollowsTo n).sensors = s.sensors := by delta State.dropFollowsTo; rfl
@[simp] theorem State.dropFollowsTo_flags (n : EntryIx) : (s.dropFollowsTo n).flags = s.flags := by delta State.dropFollowsTo; rfl
@[simp] theorem State.dropFollowsTo_zones (n : EntryIx) : (s.dropFollowsTo n).zones = s.zones := by delta State.dropFollowsTo; rfl
@[simp] theorem State.dropFollowsTo_engine (n : EntryIx) : (s.dropFollowsTo n).engine = s.engine := by delta State.dropFollowsTo; rfl
@[simp] theorem State.dropFollowsTo_site (n : EntryIx) : (s.dropFollowsTo n).site = s.site := by delta State.dropFollowsTo; rfl
@[simp] theorem State.dropFollowsTo_supply (n : EntryIx) : (s.dropFollowsTo n).supply = s.supply := by delta State.dropFollowsTo; rfl
@[simp] theorem State.dropFollowsTo_device (n : EntryIx) : (s.dropFollowsTo n).device = s.device := by delta State.dropFollowsTo; rfl
@[simp] theorem State.dropFollowsTo_iface (n : EntryIx) : (s.dropFollowsTo n).iface = s.iface := by delta State.dropFollowsTo; rfl
@[simp] theorem State.dropFollowsTo_pins (n : EntryIx) : (s.dropFollowsTo n).pins = s.pins := by delta State.dropFollowsTo; rfl
@[simp] theorem State.dropFollowsTo_ticks (n : EntryIx) : (s.dropFollowsTo n).ticks = s.ticks := by delta State.dropFollowsTo; rfl

/-! ### nextTick -/

@[simp] theorem State.nextTick_pending : s.nextTick.pending = s.pending := by delta State.nextTick; rfl
@[simp] theorem State.nextTick_table : s.nextTick.table = s.table := by delta State.nextTick; rfl
@[simp] theorem State.nextTick_turn : s.nextTick.turn = s.turn := by delta State.nextTick; rfl
@[simp] theorem State.nextTick_boundary : s.nextTick.boundary = s.boundary := by delta State.nextTick; rfl
@[simp] theorem State.nextTick_calendar : s.nextTick.calendar = s.calendar := by delta State.nextTick; rfl
@[simp] theorem State.nextTick_timeValid : s.nextTick.timeValid = s.timeValid := by delta State.nextTick; rfl
@[simp] theorem State.nextTick_timebase : s.nextTick.timebase = s.timebase := by delta State.nextTick; rfl
@[simp] theorem State.nextTick_sensors : s.nextTick.sensors = s.sensors := by delta State.nextTick; rfl
@[simp] theorem State.nextTick_flags : s.nextTick.flags = s.flags := by delta State.nextTick; rfl
@[simp] theorem State.nextTick_zones : s.nextTick.zones = s.zones := by delta State.nextTick; rfl
@[simp] theorem State.nextTick_engine : s.nextTick.engine = s.engine := by delta State.nextTick; rfl
@[simp] theorem State.nextTick_site : s.nextTick.site = s.site := by delta State.nextTick; rfl
@[simp] theorem State.nextTick_supply : s.nextTick.supply = s.supply := by delta State.nextTick; rfl
@[simp] theorem State.nextTick_device : s.nextTick.device = s.device := by delta State.nextTick; rfl
@[simp] theorem State.nextTick_iface : s.nextTick.iface = s.iface := by delta State.nextTick; rfl
@[simp] theorem State.nextTick_pins : s.nextTick.pins = s.pins := by delta State.nextTick; rfl
@[simp] theorem State.nextTick_owed : s.nextTick.owed = s.owed := by delta State.nextTick; rfl
@[simp] theorem State.nextTick_ticks : s.nextTick.ticks = s.ticks + 1 := by delta State.nextTick; rfl

/-! ### dropArrivalsTo -/

@[simp] theorem State.dropArrivalsTo_pending (n : EntryIx) : (s.dropArrivalsTo n).pending = s.pending := by delta State.dropArrivalsTo; rfl
@[simp] theorem State.dropArrivalsTo_table (n : EntryIx) : (s.dropArrivalsTo n).table = s.table := by delta State.dropArrivalsTo; rfl
@[simp] theorem State.dropArrivalsTo_turn (n : EntryIx) : (s.dropArrivalsTo n).turn = s.turn := by delta State.dropArrivalsTo; rfl
@[simp] theorem State.dropArrivalsTo_boundary (n : EntryIx) : (s.dropArrivalsTo n).boundary = s.boundary := by delta State.dropArrivalsTo; rfl
@[simp] theorem State.dropArrivalsTo_calendar (n : EntryIx) : (s.dropArrivalsTo n).calendar = s.calendar := by delta State.dropArrivalsTo; rfl
@[simp] theorem State.dropArrivalsTo_timeValid (n : EntryIx) : (s.dropArrivalsTo n).timeValid = s.timeValid := by delta State.dropArrivalsTo; rfl
@[simp] theorem State.dropArrivalsTo_timebase (n : EntryIx) : (s.dropArrivalsTo n).timebase = s.timebase := by delta State.dropArrivalsTo; rfl
@[simp] theorem State.dropArrivalsTo_sensors (n : EntryIx) : (s.dropArrivalsTo n).sensors = s.sensors := by delta State.dropArrivalsTo; rfl
@[simp] theorem State.dropArrivalsTo_flags (n : EntryIx) : (s.dropArrivalsTo n).flags = s.flags := by delta State.dropArrivalsTo; rfl
@[simp] theorem State.dropArrivalsTo_zones (n : EntryIx) : (s.dropArrivalsTo n).zones = s.zones := by delta State.dropArrivalsTo; rfl
@[simp] theorem State.dropArrivalsTo_engine (n : EntryIx) : (s.dropArrivalsTo n).engine = s.engine := by delta State.dropArrivalsTo; rfl
@[simp] theorem State.dropArrivalsTo_site (n : EntryIx) : (s.dropArrivalsTo n).site = s.site := by delta State.dropArrivalsTo; rfl
@[simp] theorem State.dropArrivalsTo_supply (n : EntryIx) : (s.dropArrivalsTo n).supply = s.supply := by delta State.dropArrivalsTo; rfl
@[simp] theorem State.dropArrivalsTo_device (n : EntryIx) : (s.dropArrivalsTo n).device = s.device := by delta State.dropArrivalsTo; rfl
@[simp] theorem State.dropArrivalsTo_iface (n : EntryIx) : (s.dropArrivalsTo n).iface = s.iface := by delta State.dropArrivalsTo; rfl
@[simp] theorem State.dropArrivalsTo_pins (n : EntryIx) : (s.dropArrivalsTo n).pins = s.pins := by delta State.dropArrivalsTo; rfl
@[simp] theorem State.dropArrivalsTo_ticks (n : EntryIx) : (s.dropArrivalsTo n).ticks = s.ticks := by delta State.dropArrivalsTo; rfl

/-! ### dropTransitionsTo -/

@[simp] theorem State.dropTransitionsTo_pending (n : EntryIx) : (s.dropTransitionsTo n).pending = s.pending := by delta State.dropTransitionsTo; rfl
@[simp] theorem State.dropTransitionsTo_table (n : EntryIx) : (s.dropTransitionsTo n).table = s.table := by delta State.dropTransitionsTo; rfl
@[simp] theorem State.dropTransitionsTo_turn (n : EntryIx) : (s.dropTransitionsTo n).turn = s.turn := by delta State.dropTransitionsTo; rfl
@[simp] theorem State.dropTransitionsTo_boundary (n : EntryIx) : (s.dropTransitionsTo n).boundary = s.boundary := by delta State.dropTransitionsTo; rfl
@[simp] theorem State.dropTransitionsTo_calendar (n : EntryIx) : (s.dropTransitionsTo n).calendar = s.calendar := by delta State.dropTransitionsTo; rfl
@[simp] theorem State.dropTransitionsTo_timeValid (n : EntryIx) : (s.dropTransitionsTo n).timeValid = s.timeValid := by delta State.dropTransitionsTo; rfl
@[simp] theorem State.dropTransitionsTo_timebase (n : EntryIx) : (s.dropTransitionsTo n).timebase = s.timebase := by delta State.dropTransitionsTo; rfl
@[simp] theorem State.dropTransitionsTo_sensors (n : EntryIx) : (s.dropTransitionsTo n).sensors = s.sensors := by delta State.dropTransitionsTo; rfl
@[simp] theorem State.dropTransitionsTo_flags (n : EntryIx) : (s.dropTransitionsTo n).flags = s.flags := by delta State.dropTransitionsTo; rfl
@[simp] theorem State.dropTransitionsTo_zones (n : EntryIx) : (s.dropTransitionsTo n).zones = s.zones := by delta State.dropTransitionsTo; rfl
@[simp] theorem State.dropTransitionsTo_engine (n : EntryIx) : (s.dropTransitionsTo n).engine = s.engine := by delta State.dropTransitionsTo; rfl
@[simp] theorem State.dropTransitionsTo_site (n : EntryIx) : (s.dropTransitionsTo n).site = s.site := by delta State.dropTransitionsTo; rfl
@[simp] theorem State.dropTransitionsTo_supply (n : EntryIx) : (s.dropTransitionsTo n).supply = s.supply := by delta State.dropTransitionsTo; rfl
@[simp] theorem State.dropTransitionsTo_device (n : EntryIx) : (s.dropTransitionsTo n).device = s.device := by delta State.dropTransitionsTo; rfl
@[simp] theorem State.dropTransitionsTo_iface (n : EntryIx) : (s.dropTransitionsTo n).iface = s.iface := by delta State.dropTransitionsTo; rfl
@[simp] theorem State.dropTransitionsTo_pins (n : EntryIx) : (s.dropTransitionsTo n).pins = s.pins := by delta State.dropTransitionsTo; rfl
@[simp] theorem State.dropTransitionsTo_owed (n : EntryIx) : (s.dropTransitionsTo n).owed = { s.owed with transitions := s.owed.transitions.filter fun t => t.entry != n } := by delta State.dropTransitionsTo; rfl
@[simp] theorem State.dropTransitionsTo_ticks (n : EntryIx) : (s.dropTransitionsTo n).ticks = s.ticks := by delta State.dropTransitionsTo; rfl

/-! ### clearAllLatches -/

@[simp] theorem State.clearAllLatches_pending : (s.clearAllLatches).pending = s.pending := by delta State.clearAllLatches; rfl
@[simp] theorem State.clearAllLatches_table : (s.clearAllLatches).table = s.table := by delta State.clearAllLatches; rfl
@[simp] theorem State.clearAllLatches_turn : (s.clearAllLatches).turn = s.turn := by delta State.clearAllLatches; rfl
@[simp] theorem State.clearAllLatches_boundary : (s.clearAllLatches).boundary = s.boundary := by delta State.clearAllLatches; rfl
@[simp] theorem State.clearAllLatches_calendar : (s.clearAllLatches).calendar = s.calendar := by delta State.clearAllLatches; rfl
@[simp] theorem State.clearAllLatches_timeValid : (s.clearAllLatches).timeValid = s.timeValid := by delta State.clearAllLatches; rfl
@[simp] theorem State.clearAllLatches_timebase : (s.clearAllLatches).timebase = s.timebase := by delta State.clearAllLatches; rfl
@[simp] theorem State.clearAllLatches_sensors : (s.clearAllLatches).sensors = Vector.ofFn fun k => { s.sensors[k] with latch := false } := by delta State.clearAllLatches; rfl
@[simp] theorem State.clearAllLatches_flags : (s.clearAllLatches).flags = s.flags := by delta State.clearAllLatches; rfl
@[simp] theorem State.clearAllLatches_zones : (s.clearAllLatches).zones = s.zones := by delta State.clearAllLatches; rfl
@[simp] theorem State.clearAllLatches_engine : (s.clearAllLatches).engine = s.engine := by delta State.clearAllLatches; rfl
@[simp] theorem State.clearAllLatches_site : (s.clearAllLatches).site = s.site := by delta State.clearAllLatches; rfl
@[simp] theorem State.clearAllLatches_supply : (s.clearAllLatches).supply = s.supply := by delta State.clearAllLatches; rfl
@[simp] theorem State.clearAllLatches_device : (s.clearAllLatches).device = s.device := by delta State.clearAllLatches; rfl
@[simp] theorem State.clearAllLatches_iface : (s.clearAllLatches).iface = s.iface := by delta State.clearAllLatches; rfl
@[simp] theorem State.clearAllLatches_pins : (s.clearAllLatches).pins = s.pins := by delta State.clearAllLatches; rfl
@[simp] theorem State.clearAllLatches_owed : (s.clearAllLatches).owed = s.owed := by delta State.clearAllLatches; rfl
@[simp] theorem State.clearAllLatches_ticks : (s.clearAllLatches).ticks = s.ticks := by delta State.clearAllLatches; rfl

/-! ### conditionAfresh -/

@[simp] theorem State.conditionAfresh_pending : (s.conditionAfresh).pending = s.pending := by delta State.conditionAfresh; rfl
@[simp] theorem State.conditionAfresh_table : (s.conditionAfresh).table = s.table := by delta State.conditionAfresh; rfl
@[simp] theorem State.conditionAfresh_turn : (s.conditionAfresh).turn = s.turn := by delta State.conditionAfresh; rfl
@[simp] theorem State.conditionAfresh_boundary : (s.conditionAfresh).boundary = s.boundary := by delta State.conditionAfresh; rfl
@[simp] theorem State.conditionAfresh_calendar : (s.conditionAfresh).calendar = s.calendar := by delta State.conditionAfresh; rfl
@[simp] theorem State.conditionAfresh_timeValid : (s.conditionAfresh).timeValid = s.timeValid := by delta State.conditionAfresh; rfl
@[simp] theorem State.conditionAfresh_timebase : (s.conditionAfresh).timebase = s.timebase := by delta State.conditionAfresh; rfl
@[simp] theorem State.conditionAfresh_sensors : (s.conditionAfresh).sensors = Vector.ofFn fun k => { s.sensors[k] with accepted := s.pinLevel k, latch := false, filter := none } := by delta State.conditionAfresh; rfl
@[simp] theorem State.conditionAfresh_flags : (s.conditionAfresh).flags = s.flags := by delta State.conditionAfresh; rfl
@[simp] theorem State.conditionAfresh_zones : (s.conditionAfresh).zones = s.zones := by delta State.conditionAfresh; rfl
@[simp] theorem State.conditionAfresh_engine : (s.conditionAfresh).engine = s.engine := by delta State.conditionAfresh; rfl
@[simp] theorem State.conditionAfresh_site : (s.conditionAfresh).site = s.site := by delta State.conditionAfresh; rfl
@[simp] theorem State.conditionAfresh_supply : (s.conditionAfresh).supply = s.supply := by delta State.conditionAfresh; rfl
@[simp] theorem State.conditionAfresh_device : (s.conditionAfresh).device = s.device := by delta State.conditionAfresh; rfl
@[simp] theorem State.conditionAfresh_iface : (s.conditionAfresh).iface = s.iface := by delta State.conditionAfresh; rfl
@[simp] theorem State.conditionAfresh_pins : (s.conditionAfresh).pins = s.pins := by delta State.conditionAfresh; rfl
@[simp] theorem State.conditionAfresh_owed : (s.conditionAfresh).owed = s.owed := by delta State.conditionAfresh; rfl
@[simp] theorem State.conditionAfresh_ticks : (s.conditionAfresh).ticks = s.ticks := by delta State.conditionAfresh; rfl

/-! ### abandonFilters -/

@[simp] theorem State.abandonFilters_pending : (s.abandonFilters).pending = s.pending := by delta State.abandonFilters; rfl
@[simp] theorem State.abandonFilters_table : (s.abandonFilters).table = s.table := by delta State.abandonFilters; rfl
@[simp] theorem State.abandonFilters_turn : (s.abandonFilters).turn = s.turn := by delta State.abandonFilters; rfl
@[simp] theorem State.abandonFilters_boundary : (s.abandonFilters).boundary = s.boundary := by delta State.abandonFilters; rfl
@[simp] theorem State.abandonFilters_calendar : (s.abandonFilters).calendar = s.calendar := by delta State.abandonFilters; rfl
@[simp] theorem State.abandonFilters_timeValid : (s.abandonFilters).timeValid = s.timeValid := by delta State.abandonFilters; rfl
@[simp] theorem State.abandonFilters_timebase : (s.abandonFilters).timebase = s.timebase := by delta State.abandonFilters; rfl
@[simp] theorem State.abandonFilters_sensors : (s.abandonFilters).sensors = Vector.ofFn fun k => { s.sensors[k] with filter := none } := by delta State.abandonFilters; rfl
@[simp] theorem State.abandonFilters_flags : (s.abandonFilters).flags = s.flags := by delta State.abandonFilters; rfl
@[simp] theorem State.abandonFilters_zones : (s.abandonFilters).zones = s.zones := by delta State.abandonFilters; rfl
@[simp] theorem State.abandonFilters_engine : (s.abandonFilters).engine = s.engine := by delta State.abandonFilters; rfl
@[simp] theorem State.abandonFilters_site : (s.abandonFilters).site = s.site := by delta State.abandonFilters; rfl
@[simp] theorem State.abandonFilters_supply : (s.abandonFilters).supply = s.supply := by delta State.abandonFilters; rfl
@[simp] theorem State.abandonFilters_device : (s.abandonFilters).device = s.device := by delta State.abandonFilters; rfl
@[simp] theorem State.abandonFilters_iface : (s.abandonFilters).iface = s.iface := by delta State.abandonFilters; rfl
@[simp] theorem State.abandonFilters_pins : (s.abandonFilters).pins = s.pins := by delta State.abandonFilters; rfl
@[simp] theorem State.abandonFilters_owed : (s.abandonFilters).owed = s.owed := by delta State.abandonFilters; rfl
@[simp] theorem State.abandonFilters_ticks : (s.abandonFilters).ticks = s.ticks := by delta State.abandonFilters; rfl

/-! ### report -/

@[simp] theorem State.report_pending (c : DeviceSet) : (s.report c).pending = s.pending := by delta State.report; rfl
@[simp] theorem State.report_table (c : DeviceSet) : (s.report c).table = s.table := by delta State.report; rfl
@[simp] theorem State.report_turn (c : DeviceSet) : (s.report c).turn = s.turn := by delta State.report; rfl
@[simp] theorem State.report_boundary (c : DeviceSet) : (s.report c).boundary = s.boundary := by delta State.report; rfl
@[simp] theorem State.report_calendar (c : DeviceSet) : (s.report c).calendar = s.calendar := by delta State.report; rfl
@[simp] theorem State.report_timeValid (c : DeviceSet) : (s.report c).timeValid = s.timeValid := by delta State.report; rfl
@[simp] theorem State.report_timebase (c : DeviceSet) : (s.report c).timebase = s.timebase := by delta State.report; rfl
@[simp] theorem State.report_sensors (c : DeviceSet) : (s.report c).sensors = s.sensors := by delta State.report; rfl
@[simp] theorem State.report_flags (c : DeviceSet) : (s.report c).flags = s.flags := by delta State.report; rfl
@[simp] theorem State.report_zones (c : DeviceSet) : (s.report c).zones = s.zones := by delta State.report; rfl
@[simp] theorem State.report_engine (c : DeviceSet) : (s.report c).engine = s.engine := by delta State.report; rfl
@[simp] theorem State.report_site (c : DeviceSet) : (s.report c).site = s.site := by delta State.report; rfl
@[simp] theorem State.report_supply (c : DeviceSet) : (s.report c).supply = s.supply := by delta State.report; rfl
@[simp] theorem State.report_device (c : DeviceSet) : (s.report c).device = s.device ||| c := by delta State.report; rfl
@[simp] theorem State.report_iface (c : DeviceSet) : (s.report c).iface = s.iface := by delta State.report; rfl
@[simp] theorem State.report_pins (c : DeviceSet) : (s.report c).pins = s.pins := by delta State.report; rfl
@[simp] theorem State.report_owed (c : DeviceSet) : (s.report c).owed = s.owed := by delta State.report; rfl
@[simp] theorem State.report_ticks (c : DeviceSet) : (s.report c).ticks = s.ticks := by delta State.report; rfl

/-! ### failCandidate -/

@[simp] theorem State.failCandidate_pending : (s.failCandidate).pending = s.pending := by delta State.failCandidate; rfl
@[simp] theorem State.failCandidate_table : (s.failCandidate).table = s.table := by delta State.failCandidate; rfl
@[simp] theorem State.failCandidate_turn : (s.failCandidate).turn = s.turn := by delta State.failCandidate; rfl
@[simp] theorem State.failCandidate_boundary : (s.failCandidate).boundary = s.boundary := by delta State.failCandidate; rfl
@[simp] theorem State.failCandidate_calendar : (s.failCandidate).calendar = s.calendar := by delta State.failCandidate; rfl
@[simp] theorem State.failCandidate_timeValid : (s.failCandidate).timeValid = s.timeValid := by delta State.failCandidate; rfl
@[simp] theorem State.failCandidate_timebase : (s.failCandidate).timebase = ({ s.timebase with selector := .steady } : Timebase).withOscillator := by delta State.failCandidate; rfl
@[simp] theorem State.failCandidate_sensors : (s.failCandidate).sensors = s.sensors := by delta State.failCandidate; rfl
@[simp] theorem State.failCandidate_flags : (s.failCandidate).flags = s.flags := by delta State.failCandidate; rfl
@[simp] theorem State.failCandidate_zones : (s.failCandidate).zones = s.zones := by delta State.failCandidate; rfl
@[simp] theorem State.failCandidate_engine : (s.failCandidate).engine = s.engine := by delta State.failCandidate; rfl
@[simp] theorem State.failCandidate_site : (s.failCandidate).site = s.site := by delta State.failCandidate; rfl
@[simp] theorem State.failCandidate_supply : (s.failCandidate).supply = s.supply := by delta State.failCandidate; rfl
@[simp] theorem State.failCandidate_device : (s.failCandidate).device = s.device ||| noticeClockFault := by delta State.failCandidate; rfl
@[simp] theorem State.failCandidate_iface : (s.failCandidate).iface = s.iface := by delta State.failCandidate; rfl
@[simp] theorem State.failCandidate_pins : (s.failCandidate).pins = s.pins := by delta State.failCandidate; rfl
@[simp] theorem State.failCandidate_owed : (s.failCandidate).owed = s.owed := by delta State.failCandidate; rfl
@[simp] theorem State.failCandidate_ticks : (s.failCandidate).ticks = s.ticks := by delta State.failCandidate; rfl

/-! ### selectSource -/

@[simp] theorem State.selectSource_pending (c : Source) : (s.selectSource c).pending = s.pending := by delta State.selectSource; rfl
@[simp] theorem State.selectSource_table (c : Source) : (s.selectSource c).table = s.table := by delta State.selectSource; rfl
@[simp] theorem State.selectSource_turn (c : Source) : (s.selectSource c).turn = s.turn := by delta State.selectSource; rfl
@[simp] theorem State.selectSource_boundary (c : Source) : (s.selectSource c).boundary = s.boundary := by delta State.selectSource; rfl
@[simp] theorem State.selectSource_calendar (c : Source) : (s.selectSource c).calendar = s.calendar := by delta State.selectSource; rfl
@[simp] theorem State.selectSource_timeValid (c : Source) : (s.selectSource c).timeValid = s.timeValid := by delta State.selectSource; rfl
@[simp] theorem State.selectSource_timebase (c : Source) : (s.selectSource c).timebase = ({ s.timebase with selector := s.selectorFor c } : Timebase).withOscillator := by delta State.selectSource; rfl
@[simp] theorem State.selectSource_sensors (c : Source) : (s.selectSource c).sensors = s.sensors := by delta State.selectSource; rfl
@[simp] theorem State.selectSource_flags (c : Source) : (s.selectSource c).flags = s.flags := by delta State.selectSource; rfl
@[simp] theorem State.selectSource_zones (c : Source) : (s.selectSource c).zones = s.zones := by delta State.selectSource; rfl
@[simp] theorem State.selectSource_engine (c : Source) : (s.selectSource c).engine = s.engine := by delta State.selectSource; rfl
@[simp] theorem State.selectSource_site (c : Source) : (s.selectSource c).site = s.site := by delta State.selectSource; rfl
@[simp] theorem State.selectSource_supply (c : Source) : (s.selectSource c).supply = s.supply := by delta State.selectSource; rfl
@[simp] theorem State.selectSource_device (c : Source) : (s.selectSource c).device = s.device := by delta State.selectSource; rfl
@[simp] theorem State.selectSource_iface (c : Source) : (s.selectSource c).iface = s.iface := by delta State.selectSource; rfl
@[simp] theorem State.selectSource_pins (c : Source) : (s.selectSource c).pins = s.pins := by delta State.selectSource; rfl
@[simp] theorem State.selectSource_owed (c : Source) : (s.selectSource c).owed = s.owed := by delta State.selectSource; rfl
@[simp] theorem State.selectSource_ticks (c : Source) : (s.selectSource c).ticks = s.ticks := by delta State.selectSource; rfl

/-! ### passCheck -/

@[simp] theorem State.passCheck_pending (c : Check) : (s.passCheck c).pending = s.pending := by delta State.passCheck; rfl
@[simp] theorem State.passCheck_table (c : Check) : (s.passCheck c).table = s.table := by delta State.passCheck; rfl
@[simp] theorem State.passCheck_turn (c : Check) : (s.passCheck c).turn = s.turn := by delta State.passCheck; rfl
@[simp] theorem State.passCheck_boundary (c : Check) : (s.passCheck c).boundary = s.boundary := by delta State.passCheck; rfl
@[simp] theorem State.passCheck_calendar (c : Check) : (s.passCheck c).calendar = s.calendar := by delta State.passCheck; rfl
@[simp] theorem State.passCheck_timeValid (c : Check) : (s.passCheck c).timeValid = s.timeValid := by delta State.passCheck; rfl
@[simp] theorem State.passCheck_timebase (c : Check) : (s.passCheck c).timebase = { s.timebase with selector := .ready c.source c.code 0 } := by delta State.passCheck; rfl
@[simp] theorem State.passCheck_sensors (c : Check) : (s.passCheck c).sensors = s.sensors := by delta State.passCheck; rfl
@[simp] theorem State.passCheck_flags (c : Check) : (s.passCheck c).flags = s.flags := by delta State.passCheck; rfl
@[simp] theorem State.passCheck_zones (c : Check) : (s.passCheck c).zones = s.zones := by delta State.passCheck; rfl
@[simp] theorem State.passCheck_engine (c : Check) : (s.passCheck c).engine = s.engine := by delta State.passCheck; rfl
@[simp] theorem State.passCheck_site (c : Check) : (s.passCheck c).site = s.site := by delta State.passCheck; rfl
@[simp] theorem State.passCheck_supply (c : Check) : (s.passCheck c).supply = s.supply := by delta State.passCheck; rfl
@[simp] theorem State.passCheck_device (c : Check) : (s.passCheck c).device = s.device := by delta State.passCheck; rfl
@[simp] theorem State.passCheck_iface (c : Check) : (s.passCheck c).iface = s.iface := by delta State.passCheck; rfl
@[simp] theorem State.passCheck_pins (c : Check) : (s.passCheck c).pins = s.pins := by delta State.passCheck; rfl
@[simp] theorem State.passCheck_owed (c : Check) : (s.passCheck c).owed = s.owed := by delta State.passCheck; rfl
@[simp] theorem State.passCheck_ticks (c : Check) : (s.passCheck c).ticks = s.ticks := by delta State.passCheck; rfl

/-! ### complete -/

@[simp] theorem State.complete_pending (r : ResultCode) (d : Byte) (o : Option (List Byte)) : (s.complete r d o).pending = s.pending := by delta State.complete; rfl
@[simp] theorem State.complete_table (r : ResultCode) (d : Byte) (o : Option (List Byte)) : (s.complete r d o).table = s.table := by delta State.complete; rfl
@[simp] theorem State.complete_turn (r : ResultCode) (d : Byte) (o : Option (List Byte)) : (s.complete r d o).turn = s.turn := by delta State.complete; rfl
@[simp] theorem State.complete_boundary (r : ResultCode) (d : Byte) (o : Option (List Byte)) : (s.complete r d o).boundary = s.boundary := by delta State.complete; rfl
@[simp] theorem State.complete_calendar (r : ResultCode) (d : Byte) (o : Option (List Byte)) : (s.complete r d o).calendar = s.calendar := by delta State.complete; rfl
@[simp] theorem State.complete_timeValid (r : ResultCode) (d : Byte) (o : Option (List Byte)) : (s.complete r d o).timeValid = s.timeValid := by delta State.complete; rfl
@[simp] theorem State.complete_timebase (r : ResultCode) (d : Byte) (o : Option (List Byte)) : (s.complete r d o).timebase = s.timebase := by delta State.complete; rfl
@[simp] theorem State.complete_sensors (r : ResultCode) (d : Byte) (o : Option (List Byte)) : (s.complete r d o).sensors = s.sensors := by delta State.complete; rfl
@[simp] theorem State.complete_flags (r : ResultCode) (d : Byte) (o : Option (List Byte)) : (s.complete r d o).flags = s.flags := by delta State.complete; rfl
@[simp] theorem State.complete_zones (r : ResultCode) (d : Byte) (o : Option (List Byte)) : (s.complete r d o).zones = s.zones := by delta State.complete; rfl
@[simp] theorem State.complete_engine (r : ResultCode) (d : Byte) (o : Option (List Byte)) : (s.complete r d o).engine = s.engine := by delta State.complete; rfl
@[simp] theorem State.complete_site (r : ResultCode) (d : Byte) (o : Option (List Byte)) : (s.complete r d o).site = s.site := by delta State.complete; rfl
@[simp] theorem State.complete_supply (r : ResultCode) (d : Byte) (o : Option (List Byte)) : (s.complete r d o).supply = s.supply := by delta State.complete; rfl
@[simp] theorem State.complete_device (r : ResultCode) (d : Byte) (o : Option (List Byte)) : (s.complete r d o).device = s.device := by delta State.complete; rfl
@[simp] theorem State.complete_pins (r : ResultCode) (d : Byte) (o : Option (List Byte)) : (s.complete r d o).pins = s.pins := by delta State.complete; rfl
@[simp] theorem State.complete_owed (r : ResultCode) (d : Byte) (o : Option (List Byte)) : (s.complete r d o).owed = s.owed := by delta State.complete; rfl
@[simp] theorem State.complete_ticks (r : ResultCode) (d : Byte) (o : Option (List Byte)) : (s.complete r d o).ticks = s.ticks := by delta State.complete; rfl

/-! ### refuse -/

@[simp] theorem State.refuse_pending (r : ResultCode) (d : Byte) : (s.refuse r d).pending = s.pending := by delta State.refuse; rfl
@[simp] theorem State.refuse_table (r : ResultCode) (d : Byte) : (s.refuse r d).table = s.table := by delta State.refuse; rfl
@[simp] theorem State.refuse_turn (r : ResultCode) (d : Byte) : (s.refuse r d).turn = s.turn := by delta State.refuse; rfl
@[simp] theorem State.refuse_boundary (r : ResultCode) (d : Byte) : (s.refuse r d).boundary = s.boundary := by delta State.refuse; rfl
@[simp] theorem State.refuse_calendar (r : ResultCode) (d : Byte) : (s.refuse r d).calendar = s.calendar := by delta State.refuse; rfl
@[simp] theorem State.refuse_timeValid (r : ResultCode) (d : Byte) : (s.refuse r d).timeValid = s.timeValid := by delta State.refuse; rfl
@[simp] theorem State.refuse_timebase (r : ResultCode) (d : Byte) : (s.refuse r d).timebase = s.timebase := by delta State.refuse; rfl
@[simp] theorem State.refuse_sensors (r : ResultCode) (d : Byte) : (s.refuse r d).sensors = s.sensors := by delta State.refuse; rfl
@[simp] theorem State.refuse_flags (r : ResultCode) (d : Byte) : (s.refuse r d).flags = s.flags := by delta State.refuse; rfl
@[simp] theorem State.refuse_zones (r : ResultCode) (d : Byte) : (s.refuse r d).zones = s.zones := by delta State.refuse; rfl
@[simp] theorem State.refuse_engine (r : ResultCode) (d : Byte) : (s.refuse r d).engine = s.engine := by delta State.refuse; rfl
@[simp] theorem State.refuse_site (r : ResultCode) (d : Byte) : (s.refuse r d).site = s.site := by delta State.refuse; rfl
@[simp] theorem State.refuse_supply (r : ResultCode) (d : Byte) : (s.refuse r d).supply = s.supply := by delta State.refuse; rfl
@[simp] theorem State.refuse_device (r : ResultCode) (d : Byte) : (s.refuse r d).device = s.device := by delta State.refuse; rfl
@[simp] theorem State.refuse_iface (r : ResultCode) (d : Byte) : (s.refuse r d).iface = { s.iface with code := none, busy := false, result := r, detail := d } := by delta State.refuse; rfl
@[simp] theorem State.refuse_pins (r : ResultCode) (d : Byte) : (s.refuse r d).pins = s.pins := by delta State.refuse; rfl
@[simp] theorem State.refuse_owed (r : ResultCode) (d : Byte) : (s.refuse r d).owed = s.owed := by delta State.refuse; rfl
@[simp] theorem State.refuse_ticks (r : ResultCode) (d : Byte) : (s.refuse r d).ticks = s.ticks := by delta State.refuse; rfl

/-! ### answer -/

@[simp] theorem State.answer_pending (r : BusReply) : (s.answer r).pending = s.pending := by delta State.answer; rfl
@[simp] theorem State.answer_table (r : BusReply) : (s.answer r).table = s.table := by delta State.answer; rfl
@[simp] theorem State.answer_turn (r : BusReply) : (s.answer r).turn = s.turn := by delta State.answer; rfl
@[simp] theorem State.answer_boundary (r : BusReply) : (s.answer r).boundary = s.boundary := by delta State.answer; rfl
@[simp] theorem State.answer_calendar (r : BusReply) : (s.answer r).calendar = s.calendar := by delta State.answer; rfl
@[simp] theorem State.answer_timeValid (r : BusReply) : (s.answer r).timeValid = s.timeValid := by delta State.answer; rfl
@[simp] theorem State.answer_timebase (r : BusReply) : (s.answer r).timebase = s.timebase := by delta State.answer; rfl
@[simp] theorem State.answer_sensors (r : BusReply) : (s.answer r).sensors = s.sensors := by delta State.answer; rfl
@[simp] theorem State.answer_flags (r : BusReply) : (s.answer r).flags = s.flags := by delta State.answer; rfl
@[simp] theorem State.answer_zones (r : BusReply) : (s.answer r).zones = s.zones := by delta State.answer; rfl
@[simp] theorem State.answer_engine (r : BusReply) : (s.answer r).engine = s.engine := by delta State.answer; rfl
@[simp] theorem State.answer_site (r : BusReply) : (s.answer r).site = s.site := by delta State.answer; rfl
@[simp] theorem State.answer_supply (r : BusReply) : (s.answer r).supply = s.supply := by delta State.answer; rfl
@[simp] theorem State.answer_device (r : BusReply) : (s.answer r).device = s.device := by delta State.answer; rfl
@[simp] theorem State.answer_iface (r : BusReply) : (s.answer r).iface = { s.iface with reply := r } := by delta State.answer; rfl
@[simp] theorem State.answer_pins (r : BusReply) : (s.answer r).pins = s.pins := by delta State.answer; rfl
@[simp] theorem State.answer_owed (r : BusReply) : (s.answer r).owed = s.owed := by delta State.answer; rfl
@[simp] theorem State.answer_ticks (r : BusReply) : (s.answer r).ticks = s.ticks := by delta State.answer; rfl

/-! ### enterPhase -/

@[simp] theorem State.enterPhase_pending (p : BusPhase) : (s.enterPhase p).pending = s.pending := by delta State.enterPhase; rfl
@[simp] theorem State.enterPhase_table (p : BusPhase) : (s.enterPhase p).table = s.table := by delta State.enterPhase; rfl
@[simp] theorem State.enterPhase_turn (p : BusPhase) : (s.enterPhase p).turn = s.turn := by delta State.enterPhase; rfl
@[simp] theorem State.enterPhase_boundary (p : BusPhase) : (s.enterPhase p).boundary = s.boundary := by delta State.enterPhase; rfl
@[simp] theorem State.enterPhase_calendar (p : BusPhase) : (s.enterPhase p).calendar = s.calendar := by delta State.enterPhase; rfl
@[simp] theorem State.enterPhase_timeValid (p : BusPhase) : (s.enterPhase p).timeValid = s.timeValid := by delta State.enterPhase; rfl
@[simp] theorem State.enterPhase_timebase (p : BusPhase) : (s.enterPhase p).timebase = s.timebase := by delta State.enterPhase; rfl
@[simp] theorem State.enterPhase_sensors (p : BusPhase) : (s.enterPhase p).sensors = s.sensors := by delta State.enterPhase; rfl
@[simp] theorem State.enterPhase_flags (p : BusPhase) : (s.enterPhase p).flags = s.flags := by delta State.enterPhase; rfl
@[simp] theorem State.enterPhase_zones (p : BusPhase) : (s.enterPhase p).zones = s.zones := by delta State.enterPhase; rfl
@[simp] theorem State.enterPhase_engine (p : BusPhase) : (s.enterPhase p).engine = s.engine := by delta State.enterPhase; rfl
@[simp] theorem State.enterPhase_site (p : BusPhase) : (s.enterPhase p).site = s.site := by delta State.enterPhase; rfl
@[simp] theorem State.enterPhase_supply (p : BusPhase) : (s.enterPhase p).supply = s.supply := by delta State.enterPhase; rfl
@[simp] theorem State.enterPhase_device (p : BusPhase) : (s.enterPhase p).device = s.device := by delta State.enterPhase; rfl
@[simp] theorem State.enterPhase_iface (p : BusPhase) : (s.enterPhase p).iface = { s.iface with phase := p } := by delta State.enterPhase; rfl
@[simp] theorem State.enterPhase_pins (p : BusPhase) : (s.enterPhase p).pins = s.pins := by delta State.enterPhase; rfl
@[simp] theorem State.enterPhase_owed (p : BusPhase) : (s.enterPhase p).owed = s.owed := by delta State.enterPhase; rfl
@[simp] theorem State.enterPhase_ticks (p : BusPhase) : (s.enterPhase p).ticks = s.ticks := by delta State.enterPhase; rfl

/-! ### advancePointer -/

@[simp] theorem State.advancePointer_pending : (s.advancePointer).pending = s.pending := by delta State.advancePointer; rfl
@[simp] theorem State.advancePointer_table : (s.advancePointer).table = s.table := by delta State.advancePointer; rfl
@[simp] theorem State.advancePointer_turn : (s.advancePointer).turn = s.turn := by delta State.advancePointer; rfl
@[simp] theorem State.advancePointer_boundary : (s.advancePointer).boundary = s.boundary := by delta State.advancePointer; rfl
@[simp] theorem State.advancePointer_calendar : (s.advancePointer).calendar = s.calendar := by delta State.advancePointer; rfl
@[simp] theorem State.advancePointer_timeValid : (s.advancePointer).timeValid = s.timeValid := by delta State.advancePointer; rfl
@[simp] theorem State.advancePointer_timebase : (s.advancePointer).timebase = s.timebase := by delta State.advancePointer; rfl
@[simp] theorem State.advancePointer_sensors : (s.advancePointer).sensors = s.sensors := by delta State.advancePointer; rfl
@[simp] theorem State.advancePointer_flags : (s.advancePointer).flags = s.flags := by delta State.advancePointer; rfl
@[simp] theorem State.advancePointer_zones : (s.advancePointer).zones = s.zones := by delta State.advancePointer; rfl
@[simp] theorem State.advancePointer_engine : (s.advancePointer).engine = s.engine := by delta State.advancePointer; rfl
@[simp] theorem State.advancePointer_site : (s.advancePointer).site = s.site := by delta State.advancePointer; rfl
@[simp] theorem State.advancePointer_supply : (s.advancePointer).supply = s.supply := by delta State.advancePointer; rfl
@[simp] theorem State.advancePointer_device : (s.advancePointer).device = s.device := by delta State.advancePointer; rfl
@[simp] theorem State.advancePointer_iface : (s.advancePointer).iface = { s.iface with pointer := s.iface.pointer + 1 } := by delta State.advancePointer; rfl
@[simp] theorem State.advancePointer_pins : (s.advancePointer).pins = s.pins := by delta State.advancePointer; rfl
@[simp] theorem State.advancePointer_owed : (s.advancePointer).owed = s.owed := by delta State.advancePointer; rfl
@[simp] theorem State.advancePointer_ticks : (s.advancePointer).ticks = s.ticks := by delta State.advancePointer; rfl

/-! ### cutInterface -/

@[simp] theorem State.cutInterface_pending : (s.cutInterface).pending = s.pending := by delta State.cutInterface; rfl
@[simp] theorem State.cutInterface_table : (s.cutInterface).table = s.table := by delta State.cutInterface; rfl
@[simp] theorem State.cutInterface_turn : (s.cutInterface).turn = s.turn := by delta State.cutInterface; rfl
@[simp] theorem State.cutInterface_boundary : (s.cutInterface).boundary = s.boundary := by delta State.cutInterface; rfl
@[simp] theorem State.cutInterface_calendar : (s.cutInterface).calendar = s.calendar := by delta State.cutInterface; rfl
@[simp] theorem State.cutInterface_timeValid : (s.cutInterface).timeValid = s.timeValid := by delta State.cutInterface; rfl
@[simp] theorem State.cutInterface_timebase : (s.cutInterface).timebase = s.timebase := by delta State.cutInterface; rfl
@[simp] theorem State.cutInterface_sensors : (s.cutInterface).sensors = s.sensors := by delta State.cutInterface; rfl
@[simp] theorem State.cutInterface_flags : (s.cutInterface).flags = s.flags := by delta State.cutInterface; rfl
@[simp] theorem State.cutInterface_zones : (s.cutInterface).zones = s.zones := by delta State.cutInterface; rfl
@[simp] theorem State.cutInterface_engine : (s.cutInterface).engine = s.engine := by delta State.cutInterface; rfl
@[simp] theorem State.cutInterface_site : (s.cutInterface).site = s.site := by delta State.cutInterface; rfl
@[simp] theorem State.cutInterface_supply : (s.cutInterface).supply = s.supply := by delta State.cutInterface; rfl
@[simp] theorem State.cutInterface_device : (s.cutInterface).device = s.device := by delta State.cutInterface; rfl
@[simp] theorem State.cutInterface_iface : (s.cutInterface).iface = { s.iface with code := none, busy := false, phase := .closed, reply := .released } := by delta State.cutInterface; rfl
@[simp] theorem State.cutInterface_pins : (s.cutInterface).pins = s.pins := by delta State.cutInterface; rfl
@[simp] theorem State.cutInterface_owed : (s.cutInterface).owed = s.owed := by delta State.cutInterface; rfl
@[simp] theorem State.cutInterface_ticks : (s.cutInterface).ticks = s.ticks := by delta State.cutInterface; rfl

/-! ### freshInterface -/

@[simp] theorem State.freshInterface_pending : (s.freshInterface).pending = s.pending := by delta State.freshInterface; rfl
@[simp] theorem State.freshInterface_table : (s.freshInterface).table = s.table := by delta State.freshInterface; rfl
@[simp] theorem State.freshInterface_turn : (s.freshInterface).turn = s.turn := by delta State.freshInterface; rfl
@[simp] theorem State.freshInterface_boundary : (s.freshInterface).boundary = s.boundary := by delta State.freshInterface; rfl
@[simp] theorem State.freshInterface_calendar : (s.freshInterface).calendar = s.calendar := by delta State.freshInterface; rfl
@[simp] theorem State.freshInterface_timeValid : (s.freshInterface).timeValid = s.timeValid := by delta State.freshInterface; rfl
@[simp] theorem State.freshInterface_timebase : (s.freshInterface).timebase = s.timebase := by delta State.freshInterface; rfl
@[simp] theorem State.freshInterface_sensors : (s.freshInterface).sensors = s.sensors := by delta State.freshInterface; rfl
@[simp] theorem State.freshInterface_flags : (s.freshInterface).flags = s.flags := by delta State.freshInterface; rfl
@[simp] theorem State.freshInterface_zones : (s.freshInterface).zones = s.zones := by delta State.freshInterface; rfl
@[simp] theorem State.freshInterface_engine : (s.freshInterface).engine = s.engine := by delta State.freshInterface; rfl
@[simp] theorem State.freshInterface_site : (s.freshInterface).site = s.site := by delta State.freshInterface; rfl
@[simp] theorem State.freshInterface_supply : (s.freshInterface).supply = s.supply := by delta State.freshInterface; rfl
@[simp] theorem State.freshInterface_device : (s.freshInterface).device = s.device := by delta State.freshInterface; rfl
@[simp] theorem State.freshInterface_iface : (s.freshInterface).iface = Interface.fresh := by delta State.freshInterface; rfl
@[simp] theorem State.freshInterface_pins : (s.freshInterface).pins = s.pins := by delta State.freshInterface; rfl
@[simp] theorem State.freshInterface_owed : (s.freshInterface).owed = s.owed := by delta State.freshInterface; rfl
@[simp] theorem State.freshInterface_ticks : (s.freshInterface).ticks = s.ticks := by delta State.freshInterface; rfl

/-! ### setMode -/

@[simp] theorem State.setMode_pending (m : Mode) : (s.setMode m).pending = s.pending := by delta State.setMode; rfl
@[simp] theorem State.setMode_table (m : Mode) : (s.setMode m).table = s.table := by delta State.setMode; rfl
@[simp] theorem State.setMode_turn (m : Mode) : (s.setMode m).turn = s.turn := by delta State.setMode; rfl
@[simp] theorem State.setMode_boundary (m : Mode) : (s.setMode m).boundary = s.boundary := by delta State.setMode; rfl
@[simp] theorem State.setMode_calendar (m : Mode) : (s.setMode m).calendar = s.calendar := by delta State.setMode; rfl
@[simp] theorem State.setMode_timeValid (m : Mode) : (s.setMode m).timeValid = s.timeValid := by delta State.setMode; rfl
@[simp] theorem State.setMode_timebase (m : Mode) : (s.setMode m).timebase = s.timebase := by delta State.setMode; rfl
@[simp] theorem State.setMode_sensors (m : Mode) : (s.setMode m).sensors = s.sensors := by delta State.setMode; rfl
@[simp] theorem State.setMode_flags (m : Mode) : (s.setMode m).flags = s.flags := by delta State.setMode; rfl
@[simp] theorem State.setMode_zones (m : Mode) : (s.setMode m).zones = s.zones := by delta State.setMode; rfl
@[simp] theorem State.setMode_engine (m : Mode) : (s.setMode m).engine = { s.engine with mode := m } := by delta State.setMode; rfl
@[simp] theorem State.setMode_site (m : Mode) : (s.setMode m).site = s.site := by delta State.setMode; rfl
@[simp] theorem State.setMode_supply (m : Mode) : (s.setMode m).supply = s.supply := by delta State.setMode; rfl
@[simp] theorem State.setMode_device (m : Mode) : (s.setMode m).device = s.device := by delta State.setMode; rfl
@[simp] theorem State.setMode_iface (m : Mode) : (s.setMode m).iface = s.iface := by delta State.setMode; rfl
@[simp] theorem State.setMode_pins (m : Mode) : (s.setMode m).pins = s.pins := by delta State.setMode; rfl
@[simp] theorem State.setMode_owed (m : Mode) : (s.setMode m).owed = s.owed := by delta State.setMode; rfl
@[simp] theorem State.setMode_ticks (m : Mode) : (s.setMode m).ticks = s.ticks := by delta State.setMode; rfl

/-! ### hold -/

@[simp] theorem State.hold_pending : (s.hold).pending = s.pending := by delta State.hold; rfl
@[simp] theorem State.hold_table : (s.hold).table = s.table := by delta State.hold; rfl
@[simp] theorem State.hold_turn : (s.hold).turn = s.turn := by delta State.hold; rfl
@[simp] theorem State.hold_boundary : (s.hold).boundary = s.boundary := by delta State.hold; rfl
@[simp] theorem State.hold_calendar : (s.hold).calendar = s.calendar := by delta State.hold; rfl
@[simp] theorem State.hold_timeValid : (s.hold).timeValid = s.timeValid := by delta State.hold; rfl
@[simp] theorem State.hold_timebase : (s.hold).timebase = s.timebase := by delta State.hold; rfl
@[simp] theorem State.hold_sensors : (s.hold).sensors = s.sensors := by delta State.hold; rfl
@[simp] theorem State.hold_flags : (s.hold).flags = s.flags := by delta State.hold; rfl
@[simp] theorem State.hold_zones : (s.hold).zones = s.zones := by delta State.hold; rfl
@[simp] theorem State.hold_engine : (s.hold).engine = { s.engine with held := true } := by delta State.hold; rfl
@[simp] theorem State.hold_site : (s.hold).site = s.site := by delta State.hold; rfl
@[simp] theorem State.hold_supply : (s.hold).supply = s.supply := by delta State.hold; rfl
@[simp] theorem State.hold_device : (s.hold).device = s.device := by delta State.hold; rfl
@[simp] theorem State.hold_iface : (s.hold).iface = s.iface := by delta State.hold; rfl
@[simp] theorem State.hold_pins : (s.hold).pins = s.pins := by delta State.hold; rfl
@[simp] theorem State.hold_owed : (s.hold).owed = s.owed := by delta State.hold; rfl
@[simp] theorem State.hold_ticks : (s.hold).ticks = s.ticks := by delta State.hold; rfl

/-! ### unhold -/

@[simp] theorem State.unhold_pending : (s.unhold).pending = s.pending := by delta State.unhold; rfl
@[simp] theorem State.unhold_table : (s.unhold).table = s.table := by delta State.unhold; rfl
@[simp] theorem State.unhold_turn : (s.unhold).turn = s.turn := by delta State.unhold; rfl
@[simp] theorem State.unhold_boundary : (s.unhold).boundary = s.boundary := by delta State.unhold; rfl
@[simp] theorem State.unhold_calendar : (s.unhold).calendar = s.calendar := by delta State.unhold; rfl
@[simp] theorem State.unhold_timeValid : (s.unhold).timeValid = s.timeValid := by delta State.unhold; rfl
@[simp] theorem State.unhold_timebase : (s.unhold).timebase = s.timebase := by delta State.unhold; rfl
@[simp] theorem State.unhold_sensors : (s.unhold).sensors = s.sensors := by delta State.unhold; rfl
@[simp] theorem State.unhold_flags : (s.unhold).flags = s.flags := by delta State.unhold; rfl
@[simp] theorem State.unhold_zones : (s.unhold).zones = s.zones := by delta State.unhold; rfl
@[simp] theorem State.unhold_engine : (s.unhold).engine = { s.engine with held := false } := by delta State.unhold; rfl
@[simp] theorem State.unhold_site : (s.unhold).site = s.site := by delta State.unhold; rfl
@[simp] theorem State.unhold_supply : (s.unhold).supply = s.supply := by delta State.unhold; rfl
@[simp] theorem State.unhold_device : (s.unhold).device = s.device := by delta State.unhold; rfl
@[simp] theorem State.unhold_iface : (s.unhold).iface = s.iface := by delta State.unhold; rfl
@[simp] theorem State.unhold_pins : (s.unhold).pins = s.pins := by delta State.unhold; rfl
@[simp] theorem State.unhold_owed : (s.unhold).owed = s.owed := by delta State.unhold; rfl
@[simp] theorem State.unhold_ticks : (s.unhold).ticks = s.ticks := by delta State.unhold; rfl

/-! ### unlock -/

@[simp] theorem State.unlock_pending : (s.unlock).pending = s.pending := by delta State.unlock; rfl
@[simp] theorem State.unlock_table : (s.unlock).table = s.table := by delta State.unlock; rfl
@[simp] theorem State.unlock_turn : (s.unlock).turn = s.turn := by delta State.unlock; rfl
@[simp] theorem State.unlock_boundary : (s.unlock).boundary = s.boundary := by delta State.unlock; rfl
@[simp] theorem State.unlock_calendar : (s.unlock).calendar = s.calendar := by delta State.unlock; rfl
@[simp] theorem State.unlock_timeValid : (s.unlock).timeValid = s.timeValid := by delta State.unlock; rfl
@[simp] theorem State.unlock_timebase : (s.unlock).timebase = s.timebase := by delta State.unlock; rfl
@[simp] theorem State.unlock_sensors : (s.unlock).sensors = s.sensors := by delta State.unlock; rfl
@[simp] theorem State.unlock_flags : (s.unlock).flags = s.flags := by delta State.unlock; rfl
@[simp] theorem State.unlock_zones : (s.unlock).zones = s.zones := by delta State.unlock; rfl
@[simp] theorem State.unlock_engine : (s.unlock).engine = s.engine := by delta State.unlock; rfl
@[simp] theorem State.unlock_site : (s.unlock).site = { s.site with lock := false } := by delta State.unlock; rfl
@[simp] theorem State.unlock_supply : (s.unlock).supply = s.supply := by delta State.unlock; rfl
@[simp] theorem State.unlock_device : (s.unlock).device = s.device := by delta State.unlock; rfl
@[simp] theorem State.unlock_iface : (s.unlock).iface = s.iface := by delta State.unlock; rfl
@[simp] theorem State.unlock_pins : (s.unlock).pins = s.pins := by delta State.unlock; rfl
@[simp] theorem State.unlock_owed : (s.unlock).owed = s.owed := by delta State.unlock; rfl
@[simp] theorem State.unlock_ticks : (s.unlock).ticks = s.ticks := by delta State.unlock; rfl

/-! ### enterBattery -/

@[simp] theorem State.enterBattery_pending : (s.enterBattery).pending = s.pending := by delta State.enterBattery; rfl
@[simp] theorem State.enterBattery_table : (s.enterBattery).table = s.table := by delta State.enterBattery; rfl
@[simp] theorem State.enterBattery_turn : (s.enterBattery).turn = s.turn := by delta State.enterBattery; rfl
@[simp] theorem State.enterBattery_boundary : (s.enterBattery).boundary = s.boundary := by delta State.enterBattery; rfl
@[simp] theorem State.enterBattery_calendar : (s.enterBattery).calendar = s.calendar := by delta State.enterBattery; rfl
@[simp] theorem State.enterBattery_timeValid : (s.enterBattery).timeValid = s.timeValid := by delta State.enterBattery; rfl
@[simp] theorem State.enterBattery_timebase : (s.enterBattery).timebase = s.timebase := by delta State.enterBattery; rfl
@[simp] theorem State.enterBattery_sensors : (s.enterBattery).sensors = s.sensors := by delta State.enterBattery; rfl
@[simp] theorem State.enterBattery_flags : (s.enterBattery).flags = s.flags := by delta State.enterBattery; rfl
@[simp] theorem State.enterBattery_zones : (s.enterBattery).zones = s.zones := by delta State.enterBattery; rfl
@[simp] theorem State.enterBattery_engine : (s.enterBattery).engine = { s.engine with mode := .backup, remembered := s.engine.mode.remembered s.engine.remembered } := by delta State.enterBattery; rfl
@[simp] theorem State.enterBattery_site : (s.enterBattery).site = s.site := by delta State.enterBattery; rfl
@[simp] theorem State.enterBattery_supply : (s.enterBattery).supply = { s.supply with condition := .battery, qualification := 0 } := by delta State.enterBattery; rfl
@[simp] theorem State.enterBattery_device : (s.enterBattery).device = s.device := by delta State.enterBattery; rfl
@[simp] theorem State.enterBattery_iface : (s.enterBattery).iface = s.iface := by delta State.enterBattery; rfl
@[simp] theorem State.enterBattery_pins : (s.enterBattery).pins = s.pins := by delta State.enterBattery; rfl
@[simp] theorem State.enterBattery_owed : (s.enterBattery).owed = s.owed := by delta State.enterBattery; rfl
@[simp] theorem State.enterBattery_ticks : (s.enterBattery).ticks = s.ticks := by delta State.enterBattery; rfl

/-! ### leaveBattery -/

@[simp] theorem State.leaveBattery_pending : (s.leaveBattery).pending = s.pending := by delta State.leaveBattery; rfl
@[simp] theorem State.leaveBattery_table : (s.leaveBattery).table = s.table := by delta State.leaveBattery; rfl
@[simp] theorem State.leaveBattery_turn : (s.leaveBattery).turn = s.turn := by delta State.leaveBattery; rfl
@[simp] theorem State.leaveBattery_boundary : (s.leaveBattery).boundary = s.boundary := by delta State.leaveBattery; rfl
@[simp] theorem State.leaveBattery_calendar : (s.leaveBattery).calendar = s.calendar := by delta State.leaveBattery; rfl
@[simp] theorem State.leaveBattery_timeValid : (s.leaveBattery).timeValid = s.timeValid := by delta State.leaveBattery; rfl
@[simp] theorem State.leaveBattery_timebase : (s.leaveBattery).timebase = s.timebase := by delta State.leaveBattery; rfl
@[simp] theorem State.leaveBattery_sensors : (s.leaveBattery).sensors = s.sensors := by delta State.leaveBattery; rfl
@[simp] theorem State.leaveBattery_flags : (s.leaveBattery).flags = s.flags := by delta State.leaveBattery; rfl
@[simp] theorem State.leaveBattery_zones : (s.leaveBattery).zones = s.zones := by delta State.leaveBattery; rfl
@[simp] theorem State.leaveBattery_engine : (s.leaveBattery).engine = s.engine := by delta State.leaveBattery; rfl
@[simp] theorem State.leaveBattery_site : (s.leaveBattery).site = s.site := by delta State.leaveBattery; rfl
@[simp] theorem State.leaveBattery_supply : (s.leaveBattery).supply = { s.supply with condition := .main, qualification := 0 } := by delta State.leaveBattery; rfl
@[simp] theorem State.leaveBattery_device : (s.leaveBattery).device = s.device := by delta State.leaveBattery; rfl
@[simp] theorem State.leaveBattery_iface : (s.leaveBattery).iface = s.iface := by delta State.leaveBattery; rfl
@[simp] theorem State.leaveBattery_pins : (s.leaveBattery).pins = s.pins := by delta State.leaveBattery; rfl
@[simp] theorem State.leaveBattery_owed : (s.leaveBattery).owed = s.owed := by delta State.leaveBattery; rfl
@[simp] theorem State.leaveBattery_ticks : (s.leaveBattery).ticks = s.ticks := by delta State.leaveBattery; rfl

/-! ### zonesInBackup -/

@[simp] theorem State.zonesInBackup_pending : (s.zonesInBackup).pending = s.pending := by delta State.zonesInBackup; rfl
@[simp] theorem State.zonesInBackup_table : (s.zonesInBackup).table = s.table := by delta State.zonesInBackup; rfl
@[simp] theorem State.zonesInBackup_turn : (s.zonesInBackup).turn = s.turn := by delta State.zonesInBackup; rfl
@[simp] theorem State.zonesInBackup_boundary : (s.zonesInBackup).boundary = s.boundary := by delta State.zonesInBackup; rfl
@[simp] theorem State.zonesInBackup_calendar : (s.zonesInBackup).calendar = s.calendar := by delta State.zonesInBackup; rfl
@[simp] theorem State.zonesInBackup_timeValid : (s.zonesInBackup).timeValid = s.timeValid := by delta State.zonesInBackup; rfl
@[simp] theorem State.zonesInBackup_timebase : (s.zonesInBackup).timebase = s.timebase := by delta State.zonesInBackup; rfl
@[simp] theorem State.zonesInBackup_sensors : (s.zonesInBackup).sensors = s.sensors := by delta State.zonesInBackup; rfl
@[simp] theorem State.zonesInBackup_flags : (s.zonesInBackup).flags = s.flags := by delta State.zonesInBackup; rfl
@[simp] theorem State.zonesInBackup_zones : (s.zonesInBackup).zones = Vector.ofFn fun z => s.zones[z].inBackup := by delta State.zonesInBackup; rfl
@[simp] theorem State.zonesInBackup_engine : (s.zonesInBackup).engine = s.engine := by delta State.zonesInBackup; rfl
@[simp] theorem State.zonesInBackup_site : (s.zonesInBackup).site = s.site := by delta State.zonesInBackup; rfl
@[simp] theorem State.zonesInBackup_supply : (s.zonesInBackup).supply = s.supply := by delta State.zonesInBackup; rfl
@[simp] theorem State.zonesInBackup_device : (s.zonesInBackup).device = s.device := by delta State.zonesInBackup; rfl
@[simp] theorem State.zonesInBackup_iface : (s.zonesInBackup).iface = s.iface := by delta State.zonesInBackup; rfl
@[simp] theorem State.zonesInBackup_pins : (s.zonesInBackup).pins = s.pins := by delta State.zonesInBackup; rfl
@[simp] theorem State.zonesInBackup_owed : (s.zonesInBackup).owed = s.owed := by delta State.zonesInBackup; rfl
@[simp] theorem State.zonesInBackup_ticks : (s.zonesInBackup).ticks = s.ticks := by delta State.zonesInBackup; rfl

/-! ### clearNotices -/

@[simp] theorem State.clearNotices_pending : (s.clearNotices).pending = s.pending := by delta State.clearNotices; rfl
@[simp] theorem State.clearNotices_table : (s.clearNotices).table = Vector.ofFn fun n => s.table[n].map fun e => { e with pending := 0 } := by delta State.clearNotices; rfl
@[simp] theorem State.clearNotices_turn : (s.clearNotices).turn = s.turn := by delta State.clearNotices; rfl
@[simp] theorem State.clearNotices_boundary : (s.clearNotices).boundary = s.boundary := by delta State.clearNotices; rfl
@[simp] theorem State.clearNotices_calendar : (s.clearNotices).calendar = s.calendar := by delta State.clearNotices; rfl
@[simp] theorem State.clearNotices_timeValid : (s.clearNotices).timeValid = s.timeValid := by delta State.clearNotices; rfl
@[simp] theorem State.clearNotices_timebase : (s.clearNotices).timebase = s.timebase := by delta State.clearNotices; rfl
@[simp] theorem State.clearNotices_sensors : (s.clearNotices).sensors = s.sensors := by delta State.clearNotices; rfl
@[simp] theorem State.clearNotices_flags : (s.clearNotices).flags = s.flags := by delta State.clearNotices; rfl
@[simp] theorem State.clearNotices_zones : (s.clearNotices).zones = s.zones := by delta State.clearNotices; rfl
@[simp] theorem State.clearNotices_engine : (s.clearNotices).engine = s.engine := by delta State.clearNotices; rfl
@[simp] theorem State.clearNotices_site : (s.clearNotices).site = s.site := by delta State.clearNotices; rfl
@[simp] theorem State.clearNotices_supply : (s.clearNotices).supply = s.supply := by delta State.clearNotices; rfl
@[simp] theorem State.clearNotices_device : (s.clearNotices).device = 0 := by delta State.clearNotices; rfl
@[simp] theorem State.clearNotices_iface : (s.clearNotices).iface = s.iface := by delta State.clearNotices; rfl
@[simp] theorem State.clearNotices_pins : (s.clearNotices).pins = s.pins := by delta State.clearNotices; rfl
@[simp] theorem State.clearNotices_owed : (s.clearNotices).owed = s.owed := by delta State.clearNotices; rfl
@[simp] theorem State.clearNotices_ticks : (s.clearNotices).ticks = s.ticks := by delta State.clearNotices; rfl

/-! ### setResetLine -/

@[simp] theorem State.setResetLine_pending (b : Bool) : (s.setResetLine b).pending = s.pending := by delta State.setResetLine; rfl
@[simp] theorem State.setResetLine_table (b : Bool) : (s.setResetLine b).table = s.table := by delta State.setResetLine; rfl
@[simp] theorem State.setResetLine_turn (b : Bool) : (s.setResetLine b).turn = s.turn := by delta State.setResetLine; rfl
@[simp] theorem State.setResetLine_boundary (b : Bool) : (s.setResetLine b).boundary = s.boundary := by delta State.setResetLine; rfl
@[simp] theorem State.setResetLine_calendar (b : Bool) : (s.setResetLine b).calendar = s.calendar := by delta State.setResetLine; rfl
@[simp] theorem State.setResetLine_timeValid (b : Bool) : (s.setResetLine b).timeValid = s.timeValid := by delta State.setResetLine; rfl
@[simp] theorem State.setResetLine_timebase (b : Bool) : (s.setResetLine b).timebase = s.timebase := by delta State.setResetLine; rfl
@[simp] theorem State.setResetLine_sensors (b : Bool) : (s.setResetLine b).sensors = s.sensors := by delta State.setResetLine; rfl
@[simp] theorem State.setResetLine_flags (b : Bool) : (s.setResetLine b).flags = s.flags := by delta State.setResetLine; rfl
@[simp] theorem State.setResetLine_zones (b : Bool) : (s.setResetLine b).zones = s.zones := by delta State.setResetLine; rfl
@[simp] theorem State.setResetLine_engine (b : Bool) : (s.setResetLine b).engine = s.engine := by delta State.setResetLine; rfl
@[simp] theorem State.setResetLine_site (b : Bool) : (s.setResetLine b).site = s.site := by delta State.setResetLine; rfl
@[simp] theorem State.setResetLine_supply (b : Bool) : (s.setResetLine b).supply = s.supply := by delta State.setResetLine; rfl
@[simp] theorem State.setResetLine_device (b : Bool) : (s.setResetLine b).device = s.device := by delta State.setResetLine; rfl
@[simp] theorem State.setResetLine_iface (b : Bool) : (s.setResetLine b).iface = s.iface := by delta State.setResetLine; rfl
@[simp] theorem State.setResetLine_pins (b : Bool) : (s.setResetLine b).pins = { s.pins with reset := b } := by delta State.setResetLine; rfl
@[simp] theorem State.setResetLine_owed (b : Bool) : (s.setResetLine b).owed = s.owed := by delta State.setResetLine; rfl
@[simp] theorem State.setResetLine_ticks (b : Bool) : (s.setResetLine b).ticks = s.ticks := by delta State.setResetLine; rfl

/-! ### place -/

@[simp] theorem State.place_pending (n : EntryIx) (e : Entry) : (s.place n e).pending = s.pending := by delta State.place; rfl
@[simp] theorem State.place_table (n : EntryIx) (e : Entry) : (s.place n e).table = s.table.set n (some e) := by delta State.place; rfl
@[simp] theorem State.place_turn (n : EntryIx) (e : Entry) : (s.place n e).turn = s.turn ++ [n] := by delta State.place; rfl
@[simp] theorem State.place_boundary (n : EntryIx) (e : Entry) : (s.place n e).boundary = s.boundary := by delta State.place; rfl
@[simp] theorem State.place_calendar (n : EntryIx) (e : Entry) : (s.place n e).calendar = s.calendar := by delta State.place; rfl
@[simp] theorem State.place_timeValid (n : EntryIx) (e : Entry) : (s.place n e).timeValid = s.timeValid := by delta State.place; rfl
@[simp] theorem State.place_timebase (n : EntryIx) (e : Entry) : (s.place n e).timebase = s.timebase := by delta State.place; rfl
@[simp] theorem State.place_sensors (n : EntryIx) (e : Entry) : (s.place n e).sensors = s.sensors := by delta State.place; rfl
@[simp] theorem State.place_flags (n : EntryIx) (e : Entry) : (s.place n e).flags = s.flags := by delta State.place; rfl
@[simp] theorem State.place_zones (n : EntryIx) (e : Entry) : (s.place n e).zones = s.zones := by delta State.place; rfl
@[simp] theorem State.place_engine (n : EntryIx) (e : Entry) : (s.place n e).engine = s.engine := by delta State.place; rfl
@[simp] theorem State.place_site (n : EntryIx) (e : Entry) : (s.place n e).site = s.site := by delta State.place; rfl
@[simp] theorem State.place_supply (n : EntryIx) (e : Entry) : (s.place n e).supply = s.supply := by delta State.place; rfl
@[simp] theorem State.place_device (n : EntryIx) (e : Entry) : (s.place n e).device = s.device := by delta State.place; rfl
@[simp] theorem State.place_iface (n : EntryIx) (e : Entry) : (s.place n e).iface = s.iface := by delta State.place; rfl
@[simp] theorem State.place_pins (n : EntryIx) (e : Entry) : (s.place n e).pins = s.pins := by delta State.place; rfl
@[simp] theorem State.place_owed (n : EntryIx) (e : Entry) : (s.place n e).owed = s.owed := by delta State.place; rfl
@[simp] theorem State.place_ticks (n : EntryIx) (e : Entry) : (s.place n e).ticks = s.ticks := by delta State.place; rfl

/-! ### grant -/

@[simp] theorem State.grant_pending (n : EntryIx) (e : Entry) (w : WaitState) : (s.grant n e w).pending = s.pending := by delta State.grant; rfl
@[simp] theorem State.grant_table (n : EntryIx) (e : Entry) (w : WaitState) : (s.grant n e w).table = s.table.set n (some (e.granted w s.calendar)) := by delta State.grant; rfl
@[simp] theorem State.grant_turn (n : EntryIx) (e : Entry) (w : WaitState) : (s.grant n e w).turn = s.turn.erase n ++ [n] := by delta State.grant; rfl
@[simp] theorem State.grant_boundary (n : EntryIx) (e : Entry) (w : WaitState) : (s.grant n e w).boundary = s.boundary := by delta State.grant; rfl
@[simp] theorem State.grant_calendar (n : EntryIx) (e : Entry) (w : WaitState) : (s.grant n e w).calendar = s.calendar := by delta State.grant; rfl
@[simp] theorem State.grant_timeValid (n : EntryIx) (e : Entry) (w : WaitState) : (s.grant n e w).timeValid = s.timeValid := by delta State.grant; rfl
@[simp] theorem State.grant_timebase (n : EntryIx) (e : Entry) (w : WaitState) : (s.grant n e w).timebase = s.timebase := by delta State.grant; rfl
@[simp] theorem State.grant_sensors (n : EntryIx) (e : Entry) (w : WaitState) : (s.grant n e w).sensors = s.sensors := by delta State.grant; rfl
@[simp] theorem State.grant_flags (n : EntryIx) (e : Entry) (w : WaitState) : (s.grant n e w).flags = s.flags := by delta State.grant; rfl
@[simp] theorem State.grant_zones (n : EntryIx) (e : Entry) (w : WaitState) : (s.grant n e w).zones = Vector.ofFn fun z => if e.defn.claim.getLsbD z.val then .ownedOn n else s.zones[z] := by delta State.grant; rfl
@[simp] theorem State.grant_engine (n : EntryIx) (e : Entry) (w : WaitState) : (s.grant n e w).engine = s.engine := by delta State.grant; rfl
@[simp] theorem State.grant_site (n : EntryIx) (e : Entry) (w : WaitState) : (s.grant n e w).site = s.site := by delta State.grant; rfl
@[simp] theorem State.grant_supply (n : EntryIx) (e : Entry) (w : WaitState) : (s.grant n e w).supply = s.supply := by delta State.grant; rfl
@[simp] theorem State.grant_device (n : EntryIx) (e : Entry) (w : WaitState) : (s.grant n e w).device = s.device := by delta State.grant; rfl
@[simp] theorem State.grant_iface (n : EntryIx) (e : Entry) (w : WaitState) : (s.grant n e w).iface = s.iface := by delta State.grant; rfl
@[simp] theorem State.grant_pins (n : EntryIx) (e : Entry) (w : WaitState) : (s.grant n e w).pins = s.pins := by delta State.grant; rfl
@[simp] theorem State.grant_owed (n : EntryIx) (e : Entry) (w : WaitState) : (s.grant n e w).owed = s.owed := by delta State.grant; rfl
@[simp] theorem State.grant_ticks (n : EntryIx) (e : Entry) (w : WaitState) : (s.grant n e w).ticks = s.ticks := by delta State.grant; rfl

/-! ### setTime -/

@[simp] theorem State.setTime_pending (c : Calendar) : (s.setTime c).pending = s.pending := by delta State.setTime; rfl
@[simp] theorem State.setTime_table (c : Calendar) : (s.setTime c).table = s.table := by delta State.setTime; rfl
@[simp] theorem State.setTime_turn (c : Calendar) : (s.setTime c).turn = s.turn := by delta State.setTime; rfl
@[simp] theorem State.setTime_boundary (c : Calendar) : (s.setTime c).boundary = s.boundary := by delta State.setTime; rfl
@[simp] theorem State.setTime_calendar (c : Calendar) : (s.setTime c).calendar = c := by delta State.setTime; rfl
@[simp] theorem State.setTime_timeValid (c : Calendar) : (s.setTime c).timeValid = true := by delta State.setTime; rfl
@[simp] theorem State.setTime_timebase (c : Calendar) : (s.setTime c).timebase = { s.timebase with prescaler := 0, sincePrescaler := 0 } := by delta State.setTime; rfl
@[simp] theorem State.setTime_sensors (c : Calendar) : (s.setTime c).sensors = s.sensors := by delta State.setTime; rfl
@[simp] theorem State.setTime_flags (c : Calendar) : (s.setTime c).flags = s.flags := by delta State.setTime; rfl
@[simp] theorem State.setTime_zones (c : Calendar) : (s.setTime c).zones = s.zones := by delta State.setTime; rfl
@[simp] theorem State.setTime_engine (c : Calendar) : (s.setTime c).engine = s.engine := by delta State.setTime; rfl
@[simp] theorem State.setTime_site (c : Calendar) : (s.setTime c).site = s.site := by delta State.setTime; rfl
@[simp] theorem State.setTime_supply (c : Calendar) : (s.setTime c).supply = s.supply := by delta State.setTime; rfl
@[simp] theorem State.setTime_device (c : Calendar) : (s.setTime c).device = s.device := by delta State.setTime; rfl
@[simp] theorem State.setTime_iface (c : Calendar) : (s.setTime c).iface = s.iface := by delta State.setTime; rfl
@[simp] theorem State.setTime_pins (c : Calendar) : (s.setTime c).pins = s.pins := by delta State.setTime; rfl
@[simp] theorem State.setTime_owed (c : Calendar) : (s.setTime c).owed = s.owed := by delta State.setTime; rfl
@[simp] theorem State.setTime_ticks (c : Calendar) : (s.setTime c).ticks = s.ticks := by delta State.setTime; rfl

end Sys2Proof.Machine
end

