-- ==== Sys2Proof/Laws/Ops.lean ====
section
/-! SUPPORT. One lemma for each shared operation that says what it does and what it leaves alone: an arrival, the walks and follow events
it leaves, a change event, a walk, and the completion of a command. -/

namespace Sys2Proof.Machine

/-! ### The completion of a command -/

/-- The row of the command in progress acts. -/
theorem onCompletion_taken (code : Byte) (f : State → State) (s : State) (h : s.inProgress code = true) :
    onCompletion code f s = f s := by simp [onCompletion, h]

/-- The row of another command leaves everything alone. -/
theorem onCompletion_other (code : Byte) (f : State → State) (s : State) (h : s.inProgress code = false) :
    onCompletion code f s = s := by simp [onCompletion, h]

/-- R161: what a completion leaves of the interface. -/
@[simp] theorem State.complete_iface (s : State) (r : ResultCode) (d : Byte) (o : Option (List Byte)) :
    (s.complete r d o).iface = { s.iface with
      buffer := (o.map Memory.ofRecord).getD s.iface.buffer
      code := none
      busy := false
      result := r
      detail := d } := by
  cases o <;> rfl

/-- R165: a completion with an output shows it. -/
theorem State.complete_reads (s : State) (r : ResultCode) (d : Byte) (bytes : List Byte) (a : Nat) (ha : a < 48) :
    (s.complete r d (some bytes)).iface.buffer.read a = bytes.getD a 0 := by
  rw [State.complete_iface]
  exact Memory.read_ofRecord bytes a ha

/-! ### One arrival at the table -/

/-- An arrival changes the table and the zones alone. -/
theorem State.apply_frame (s : State) (f : EntryIx → Entry → Effect) :
    (s.apply f).state = { s with table := (s.apply f).state.table, zones := (s.apply f).state.zones } := by
  delta State.apply; rfl

/-- What an arrival leaves in a slot. -/
@[simp] theorem State.apply_table (s : State) (f : EntryIx → Entry → Effect) (n : EntryIx) :
    (s.apply f).state.table[n] = (s.table[n]).map fun e => (f n e).entry := by
  simp only [State.apply, State.effectAt, Fin.getElem_fin, Vector.getElem_ofFn, Option.map_map]
  rfl

/-- What an arrival at one entry leaves in its slot. -/
theorem State.applyAt_table_same (s : State) (n : EntryIx) (f : Entry → Effect) :
    (s.applyAt n f).state.table[n] = (s.table[n]).map fun e => (f e).entry := by
  rw [State.applyAt, State.apply_table]; simp

/-- An arrival at one entry leaves every other slot alone. -/
theorem State.applyAt_table_other (s : State) (n m : EntryIx) (f : Entry → Effect) (h : m ≠ n) :
    (s.applyAt n f).state.table[m] = s.table[m] := by
  rw [State.applyAt, State.apply_table]; simp [h]

/-- An arrival at one entry changes the table and the zones alone. -/
theorem State.applyAt_frame (s : State) (n : EntryIx) (f : Entry → Effect) :
    (s.applyAt n f).state
      = { s with table := (s.applyAt n f).state.table, zones := (s.applyAt n f).state.zones } :=
  State.apply_frame s _

/-- Every slot stays occupied, or EMPTY, through an arrival. -/
theorem State.apply_isSome (s : State) (f : EntryIx → Entry → Effect) (n : EntryIx) :
    ((s.apply f).state.table[n]).isSome = (s.table[n]).isSome := by
  rw [State.apply_table]; simp

/-- The effects of an arrival at one entry of which `p` holds, where `p` holds of no entry left alone: its own, or none. -/
theorem State.effects_at (s : State) (n : EntryIx) (f : Entry → Effect) (p : EntryIx × Effect → Bool)
    (hp : ∀ m e, m ≠ n → p (m, Effect.only e) = false) :
    ((List.finRange 48).filterMap fun m =>
        (s.effectAt (fun m e => if m = n then f e else Effect.only e) m).map fun x => (m, x)).filter p
      = ((s.table[n]).toList.map fun e => (n, f e)).filter p := by
  have key : ∀ l : List EntryIx, l.Nodup →
      (l.filterMap fun m =>
        (s.effectAt (fun m e => if m = n then f e else Effect.only e) m).map fun x => (m, x)).filter p
      = if n ∈ l then ((s.table[n]).toList.map fun e => (n, f e)).filter p else [] := by
    intro l
    induction l with
    | nil => simp
    | cons m l ih =>
      intro hnd
      rw [List.nodup_cons] at hnd
      have ih' := ih hnd.2
      by_cases hmn : m = n
      · subst hmn
        rw [if_neg hnd.1] at ih'
        rw [if_pos List.mem_cons_self, List.filterMap_cons]
        cases h : s.table[m] with
        | none =>
          rw [show s.effectAt (fun x e => if x = m then f e else Effect.only e) m = none by simp [State.effectAt, h]]
          exact ih'
        | some e =>
          rw [show s.effectAt (fun x e => if x = m then f e else Effect.only e) m = some (f e) by simp [State.effectAt, h]]
          simp only [Option.map_some, List.filter_cons, ih', Option.toList_some, List.map_cons, List.map_nil, List.filter_nil]
      · have hmem : (n ∈ m :: l) = (n ∈ l) := by
          simp only [List.mem_cons, eq_comm (a := n) (b := m), hmn, false_or]
        simp only [hmem]
        rw [← ih', List.filterMap_cons]
        cases h : s.table[m] with
        | none =>
          rw [show s.effectAt (fun x e => if x = n then f e else Effect.only e) m = none by simp [State.effectAt, h]]
          rfl
        | some e =>
          rw [show s.effectAt (fun x e => if x = n then f e else Effect.only e) m = some (Effect.only e) by
            simp [State.effectAt, h, hmn]]
          simp only [Option.map_some, List.filter_cons, hp m e hmn, Bool.false_eq_true, if_false]
  rw [key _ (List.nodup_finRange 48), if_pos (List.mem_finRange n)]

/-- What an arrival leaves in a zone. -/
theorem State.apply_zones (s : State) (f : EntryIx → Entry → Effect) (z : ZoneIx) :
    (s.apply f).state.zones[z]
      = (zoneEffectOf ((((List.finRange 48).filterMap fun n => (s.effectAt f n).map fun x => (n, x)).filter
          fun x => x.2.zones != .keep).map fun x => x.2) z).apply (s.restTime z) s.zones[z] := by
  simp only [State.apply, Fin.getElem_fin, Vector.getElem_ofFn]

/-- The zones of an arrival at one entry: the claim set moves by the effect, and every other zone stays. -/
theorem State.applyAt_zones (s : State) (n : EntryIx) (f : Entry → Effect) (e : Entry) (h : s.table[n] = some e) (z : ZoneIx) :
    (s.applyAt n f).state.zones[z]
      = if (f e).entry.defn.claim.getLsbD z.val then (f e).zones.apply (s.restTime z) s.zones[z] else s.zones[z] := by
  rw [State.applyAt, State.apply_zones, State.effects_at s n f _ (by intro m e _; rfl), h]
  by_cases hk : (f e).zones = .keep
  · simp [hk, zoneEffectOf, ZoneEffect.apply]
  · by_cases hc : (f e).entry.defn.claim.getLsbD z.val = true
    · simp [hk, zoneEffectOf, hc]
    · have hc' : (f e).entry.defn.claim.getLsbD z.val = false := by simpa using hc
      simp only [Option.toList_some, List.map_cons, List.map_nil, List.filter_cons, List.filter_nil, bne_iff_ne, ne_eq, hk,
        not_false_eq_true, if_true, zoneEffectOf, List.find?_cons, hc', List.find?_nil, Bool.false_eq_true, if_false]
      rfl

/-- An arrival at an EMPTY slot moves no zone. -/
theorem State.applyAt_zones_empty (s : State) (n : EntryIx) (f : Entry → Effect) (h : s.table[n] = none) (z : ZoneIx) :
    (s.applyAt n f).state.zones[z] = s.zones[z] := by
  rw [State.applyAt, State.apply_zones, State.effects_at s n f _ (by intro m e _; rfl), h]
  simp [zoneEffectOf, ZoneEffect.apply]

/-- An arrival whose effect keeps the zones moves none. -/
theorem State.applyAt_zones_keep (s : State) (n : EntryIx) (f : Entry → Effect)
    (h : ∀ e, s.table[n] = some e → (f e).zones = .keep) : (s.applyAt n f).state.zones = s.zones := by
  apply Vector.ext
  intro i hi
  have hz : (s.applyAt n f).state.zones[(⟨i, hi⟩ : ZoneIx)] = s.zones[(⟨i, hi⟩ : ZoneIx)] := by
    cases ht : s.table[n] with
    | none => exact State.applyAt_zones_empty s n f ht _
    | some e =>
      rw [State.applyAt_zones s n f e ht, h e ht]
      simp [ZoneEffect.apply]
  exact hz

/-- What an arrival at one entry hands on: its own walk and follow events, if it has any. -/
theorem State.applyAt_groups (s : State) (n : EntryIx) (f : Entry → Effect) (e : Entry) (h : s.table[n] = some e) :
    (s.applyAt n f).groups = [s.effectGroup n (f e)].filter fun g => g.walk || g.events != [] := by
  simp only [State.applyAt, State.apply]
  rw [List.filter_map, State.effects_at s n f _ (by intro m e _; rfl), h]
  simp only [Option.toList_some, List.map_cons, List.map_nil, List.filter_cons, List.filter_nil, Function.comp]
  split <;> rfl

/-- An arrival at an EMPTY slot hands nothing on. -/
theorem State.applyAt_groups_empty (s : State) (n : EntryIx) (f : Entry → Effect) (h : s.table[n] = none) :
    (s.applyAt n f).groups = [] := by
  simp only [State.applyAt, State.apply]
  rw [List.filter_map, State.effects_at s n f _ (by intro m e _; rfl), h]
  rfl

/-- An arrival at one entry, with its walk and follow events handed on as one group. -/
theorem State.applyAt_asOne (s : State) (n : EntryIx) (f : Entry → Effect) (e : Entry) (h : s.table[n] = some e) :
    (s.applyAt n f).asOne = (s.applyAt n f).state.oweGroup (s.effectGroup n (f e)) := by
  rw [Arrival.asOne, State.applyAt_groups s n f e h]
  by_cases hg : ((s.effectGroup n (f e)).walk || (s.effectGroup n (f e)).events != []) = true
  · simp [hg]
  · simp only [Bool.not_eq_true] at hg
    simp only [List.filter_cons, hg, Bool.false_eq_true, if_false, List.filter_nil, List.any_nil, List.flatMap_nil]
    simp only [Bool.or_eq_false_iff, bne_eq_false_iff_eq] at hg
    simp [State.oweGroup, hg.1, hg.2]

/-! ### Walks and follow events -/

/-- What is handed on changes only what is on its way. -/
theorem State.oweGroup_frame (s : State) (g : FollowGroup) : s.oweGroup g = { s with owed := (s.oweGroup g).owed } := by
  unfold State.oweGroup; split <;> rfl

/-- A group changes the follow events and the walks alone. -/
theorem State.oweGroup_owed (s : State) (g : FollowGroup) :
    (s.oweGroup g).owed = { s.owed with follows := (s.oweGroup g).owed.follows, walks := (s.oweGroup g).owed.walks } := by
  unfold State.oweGroup; split <;> rfl

/-- A group with no follow event causes its walk at once. -/
theorem State.oweGroup_none (s : State) (w : Bool) :
    s.oweGroup { walk := w, events := [] } = s.oweWalks (if w then 1 else 0) := by simp [State.oweGroup]

/-- A group with follow events waits for the last of them. -/
theorem State.oweGroup_some (s : State) (g : FollowGroup) (h : g.events ≠ []) :
    s.oweGroup g = { s with owed := { s.owed with follows := s.owed.follows ++ [g] } } := by simp [State.oweGroup, h]

/-- The walk of an arrival as one changes only what is on its way. -/
theorem Arrival.asOne_frame (a : Arrival) : a.asOne = { a.state with owed := a.asOne.owed } := State.oweGroup_frame _ _

/-- The walk of an arrival as one changes the follow events and the walks alone. -/
theorem Arrival.asOne_owed (a : Arrival) :
    a.asOne.owed = { a.state.owed with follows := a.asOne.owed.follows, walks := a.asOne.owed.walks } := State.oweGroup_owed _ _

/-- An arrival that hands nothing on is its state. -/
theorem Arrival.asOne_nil (s : State) : ({ state := s, groups := [] } : Arrival).asOne = s := by
  simp [Arrival.asOne, State.oweGroup, State.oweWalks]

/-- The walks of an arrival as separate walks change the follow events and the walks alone. -/
theorem Arrival.each_owed (a : Arrival) : ∃ follows walks,
    a.each = { a.state with owed := { a.state.owed with follows := follows, walks := walks } } := by
  obtain ⟨s, groups⟩ := a
  simp only [Arrival.each]
  induction groups generalizing s with
  | nil => exact ⟨s.owed.follows, s.owed.walks, rfl⟩
  | cons g rest ih =>
    obtain ⟨follows, walks, h⟩ : ∃ follows walks,
        s.oweGroup g = { s with owed := { s.owed with follows := follows, walks := walks } } :=
      ⟨_, _, by rw [State.oweGroup_frame s g, State.oweGroup_owed s g]⟩
    rw [List.foldl_cons, h]
    exact ih _

/-- What a counter reached early hands on changes only what is on its way. -/
theorem Arrival.underway_frame (a : Arrival) (x : EntrySet) (y : ZoneSet) :
    a.underway x y = { a.state with owed := { a.state.owed with underway := (a.underway x y).owed.underway } } := rfl

/-! ### Change events -/

/-- A change event changes the stored values of the table and what is on its way. -/
theorem State.changeEvent_frame (s : State) (before : Levels) :
    s.changeEvent before = { s with table := (s.changeEvent before).table, owed := (s.changeEvent before).owed } := by
  delta State.changeEvent; simp only; split <;> rfl

/-- A change event that moves no signal is none. -/
theorem State.changeEvent_same (s : State) : s.changeEvent s.levels = s := by simp [State.changeEvent]

/-- A change event adds triggers and permit transitions, and leaves the rest that is on its way alone. -/
theorem State.changeEvent_owed (s : State) (before : Levels) :
    (s.changeEvent before).owed = { s.owed with
      triggers := (s.changeEvent before).owed.triggers
      transitions := (s.changeEvent before).owed.transitions } := by
  delta State.changeEvent; simp only; split <;> rfl

/-- A change event replaces the stored values of each entry and nothing else of it. -/
theorem State.changeEvent_table (s : State) (before : Levels) (n : EntryIx) :
    (s.changeEvent before).table[n]
      = if before ^^^ s.levels = 0 then s.table[n] else (s.table[n]).map (Entry.storeAt s.levels (before ^^^ s.levels)) := by
  delta State.changeEvent; simp only; split
  · rfl
  · simp

@[simp] theorem Entry.storeAt_defn (levels changed : Levels) (e : Entry) : (e.storeAt levels changed).defn = e.defn := rfl
@[simp] theorem Entry.storeAt_phase (levels changed : Levels) (e : Entry) : (e.storeAt levels changed).phase = e.phase := rfl
@[simp] theorem Entry.storeAt_snapshot (levels changed : Levels) (e : Entry) :
    (e.storeAt levels changed).snapshot = e.snapshot := rfl

/-! ### Walks -/

/-- A walk changes the table, the zones, the turn order list and what is on its way. -/
theorem walkOver_frame : ∀ (l : List EntryIx) (s : State), walkOver l s
    = { s with
        table := (walkOver l s).table, zones := (walkOver l s).zones, turn := (walkOver l s).turn, owed := (walkOver l s).owed }
  | [], _ => rfl
  | n :: rest, s => by
    unfold walkOver
    split
    · exact walkOver_frame rest s
    · split
      · split
        · have h := walkOver_frame rest (s.grant n ‹Entry› ‹WaitState›)
          rw [h]; rfl
        · split
          · delta State.preempt State.oweWalks State.apply; rfl
          · exact walkOver_frame rest s
      all_goals exact walkOver_frame rest s

/-! ### Checks and the bus -/

/-- Checks pass exactly where none of them offends. -/
theorem firstBad_eq_none (checks : List (Nat × Bool)) : firstBad checks = none ↔ ∀ c, c ∈ checks → c.2 = false := by
  simp [firstBad]

/-- What is reported is the offset of a check that offends. -/
theorem firstBad_mem (checks : List (Nat × Bool)) (k : Nat) (h : firstBad checks = some k) : (k, true) ∈ checks := by
  unfold firstBad at h
  rw [Option.map_eq_some_iff] at h
  obtain ⟨⟨a, b⟩, hf, rfl⟩ := h
  obtain rfl : b = true := by simpa using List.find?_some hf
  exact List.mem_of_find?_eq_some hf

theorem State.onBus_ignored (s f : State) (h : s.busHeard = false) : s.onBus f = s.answer .released := by simp [State.onBus, h]
theorem State.onBus_heard (s f : State) (h : s.busHeard = true) : s.onBus f = f := by simp [State.onBus, h]

end Sys2Proof.Machine
end

