-- ==== Sys2Proof/Laws/Frames.lean ====
section
/-! SUPPORT. The fields that the shared operations leave alone, one lemma for each. -/

namespace Sys2Proof.Machine

variable (s : State) (a : Arrival)

/-! ### State.apply_state -/

@[simp] theorem State.apply_state_pending (f : EntryIx → Entry → Effect) : (s.apply f).state.pending = s.pending := by rw [State.apply_frame]
@[simp] theorem State.apply_state_turn (f : EntryIx → Entry → Effect) : (s.apply f).state.turn = s.turn := by rw [State.apply_frame]
@[simp] theorem State.apply_state_boundary (f : EntryIx → Entry → Effect) : (s.apply f).state.boundary = s.boundary := by rw [State.apply_frame]
@[simp] theorem State.apply_state_calendar (f : EntryIx → Entry → Effect) : (s.apply f).state.calendar = s.calendar := by rw [State.apply_frame]
@[simp] theorem State.apply_state_timeValid (f : EntryIx → Entry → Effect) : (s.apply f).state.timeValid = s.timeValid := by rw [State.apply_frame]
@[simp] theorem State.apply_state_timebase (f : EntryIx → Entry → Effect) : (s.apply f).state.timebase = s.timebase := by rw [State.apply_frame]
@[simp] theorem State.apply_state_sensors (f : EntryIx → Entry → Effect) : (s.apply f).state.sensors = s.sensors := by rw [State.apply_frame]
@[simp] theorem State.apply_state_flags (f : EntryIx → Entry → Effect) : (s.apply f).state.flags = s.flags := by rw [State.apply_frame]
@[simp] theorem State.apply_state_engine (f : EntryIx → Entry → Effect) : (s.apply f).state.engine = s.engine := by rw [State.apply_frame]
@[simp] theorem State.apply_state_site (f : EntryIx → Entry → Effect) : (s.apply f).state.site = s.site := by rw [State.apply_frame]
@[simp] theorem State.apply_state_supply (f : EntryIx → Entry → Effect) : (s.apply f).state.supply = s.supply := by rw [State.apply_frame]
@[simp] theorem State.apply_state_device (f : EntryIx → Entry → Effect) : (s.apply f).state.device = s.device := by rw [State.apply_frame]
@[simp] theorem State.apply_state_iface (f : EntryIx → Entry → Effect) : (s.apply f).state.iface = s.iface := by rw [State.apply_frame]
@[simp] theorem State.apply_state_pins (f : EntryIx → Entry → Effect) : (s.apply f).state.pins = s.pins := by rw [State.apply_frame]
@[simp] theorem State.apply_state_owed (f : EntryIx → Entry → Effect) : (s.apply f).state.owed = s.owed := by rw [State.apply_frame]
@[simp] theorem State.apply_state_ticks (f : EntryIx → Entry → Effect) : (s.apply f).state.ticks = s.ticks := by rw [State.apply_frame]

/-! ### State.applyAt_state -/

@[simp] theorem State.applyAt_state_pending (n : EntryIx) (f : Entry → Effect) : (s.applyAt n f).state.pending = s.pending := by rw [State.applyAt_frame]
@[simp] theorem State.applyAt_state_turn (n : EntryIx) (f : Entry → Effect) : (s.applyAt n f).state.turn = s.turn := by rw [State.applyAt_frame]
@[simp] theorem State.applyAt_state_boundary (n : EntryIx) (f : Entry → Effect) : (s.applyAt n f).state.boundary = s.boundary := by rw [State.applyAt_frame]
@[simp] theorem State.applyAt_state_calendar (n : EntryIx) (f : Entry → Effect) : (s.applyAt n f).state.calendar = s.calendar := by rw [State.applyAt_frame]
@[simp] theorem State.applyAt_state_timeValid (n : EntryIx) (f : Entry → Effect) : (s.applyAt n f).state.timeValid = s.timeValid := by rw [State.applyAt_frame]
@[simp] theorem State.applyAt_state_timebase (n : EntryIx) (f : Entry → Effect) : (s.applyAt n f).state.timebase = s.timebase := by rw [State.applyAt_frame]
@[simp] theorem State.applyAt_state_sensors (n : EntryIx) (f : Entry → Effect) : (s.applyAt n f).state.sensors = s.sensors := by rw [State.applyAt_frame]
@[simp] theorem State.applyAt_state_flags (n : EntryIx) (f : Entry → Effect) : (s.applyAt n f).state.flags = s.flags := by rw [State.applyAt_frame]
@[simp] theorem State.applyAt_state_engine (n : EntryIx) (f : Entry → Effect) : (s.applyAt n f).state.engine = s.engine := by rw [State.applyAt_frame]
@[simp] theorem State.applyAt_state_site (n : EntryIx) (f : Entry → Effect) : (s.applyAt n f).state.site = s.site := by rw [State.applyAt_frame]
@[simp] theorem State.applyAt_state_supply (n : EntryIx) (f : Entry → Effect) : (s.applyAt n f).state.supply = s.supply := by rw [State.applyAt_frame]
@[simp] theorem State.applyAt_state_device (n : EntryIx) (f : Entry → Effect) : (s.applyAt n f).state.device = s.device := by rw [State.applyAt_frame]
@[simp] theorem State.applyAt_state_iface (n : EntryIx) (f : Entry → Effect) : (s.applyAt n f).state.iface = s.iface := by rw [State.applyAt_frame]
@[simp] theorem State.applyAt_state_pins (n : EntryIx) (f : Entry → Effect) : (s.applyAt n f).state.pins = s.pins := by rw [State.applyAt_frame]
@[simp] theorem State.applyAt_state_owed (n : EntryIx) (f : Entry → Effect) : (s.applyAt n f).state.owed = s.owed := by rw [State.applyAt_frame]
@[simp] theorem State.applyAt_state_ticks (n : EntryIx) (f : Entry → Effect) : (s.applyAt n f).state.ticks = s.ticks := by rw [State.applyAt_frame]

/-! ### State.oweGroup -/

@[simp] theorem State.oweGroup_pending (g : FollowGroup) : (s.oweGroup g).pending = s.pending := by rw [State.oweGroup_frame]
@[simp] theorem State.oweGroup_table (g : FollowGroup) : (s.oweGroup g).table = s.table := by rw [State.oweGroup_frame]
@[simp] theorem State.oweGroup_turn (g : FollowGroup) : (s.oweGroup g).turn = s.turn := by rw [State.oweGroup_frame]
@[simp] theorem State.oweGroup_boundary (g : FollowGroup) : (s.oweGroup g).boundary = s.boundary := by rw [State.oweGroup_frame]
@[simp] theorem State.oweGroup_calendar (g : FollowGroup) : (s.oweGroup g).calendar = s.calendar := by rw [State.oweGroup_frame]
@[simp] theorem State.oweGroup_timeValid (g : FollowGroup) : (s.oweGroup g).timeValid = s.timeValid := by rw [State.oweGroup_frame]
@[simp] theorem State.oweGroup_timebase (g : FollowGroup) : (s.oweGroup g).timebase = s.timebase := by rw [State.oweGroup_frame]
@[simp] theorem State.oweGroup_sensors (g : FollowGroup) : (s.oweGroup g).sensors = s.sensors := by rw [State.oweGroup_frame]
@[simp] theorem State.oweGroup_flags (g : FollowGroup) : (s.oweGroup g).flags = s.flags := by rw [State.oweGroup_frame]
@[simp] theorem State.oweGroup_zones (g : FollowGroup) : (s.oweGroup g).zones = s.zones := by rw [State.oweGroup_frame]
@[simp] theorem State.oweGroup_engine (g : FollowGroup) : (s.oweGroup g).engine = s.engine := by rw [State.oweGroup_frame]
@[simp] theorem State.oweGroup_site (g : FollowGroup) : (s.oweGroup g).site = s.site := by rw [State.oweGroup_frame]
@[simp] theorem State.oweGroup_supply (g : FollowGroup) : (s.oweGroup g).supply = s.supply := by rw [State.oweGroup_frame]
@[simp] theorem State.oweGroup_device (g : FollowGroup) : (s.oweGroup g).device = s.device := by rw [State.oweGroup_frame]
@[simp] theorem State.oweGroup_iface (g : FollowGroup) : (s.oweGroup g).iface = s.iface := by rw [State.oweGroup_frame]
@[simp] theorem State.oweGroup_pins (g : FollowGroup) : (s.oweGroup g).pins = s.pins := by rw [State.oweGroup_frame]
@[simp] theorem State.oweGroup_ticks (g : FollowGroup) : (s.oweGroup g).ticks = s.ticks := by rw [State.oweGroup_frame]

/-! ### Arrival.asOne -/

@[simp] theorem Arrival.asOne_pending : a.asOne.pending = a.state.pending := by rw [Arrival.asOne_frame]
@[simp] theorem Arrival.asOne_table : a.asOne.table = a.state.table := by rw [Arrival.asOne_frame]
@[simp] theorem Arrival.asOne_turn : a.asOne.turn = a.state.turn := by rw [Arrival.asOne_frame]
@[simp] theorem Arrival.asOne_boundary : a.asOne.boundary = a.state.boundary := by rw [Arrival.asOne_frame]
@[simp] theorem Arrival.asOne_calendar : a.asOne.calendar = a.state.calendar := by rw [Arrival.asOne_frame]
@[simp] theorem Arrival.asOne_timeValid : a.asOne.timeValid = a.state.timeValid := by rw [Arrival.asOne_frame]
@[simp] theorem Arrival.asOne_timebase : a.asOne.timebase = a.state.timebase := by rw [Arrival.asOne_frame]
@[simp] theorem Arrival.asOne_sensors : a.asOne.sensors = a.state.sensors := by rw [Arrival.asOne_frame]
@[simp] theorem Arrival.asOne_flags : a.asOne.flags = a.state.flags := by rw [Arrival.asOne_frame]
@[simp] theorem Arrival.asOne_zones : a.asOne.zones = a.state.zones := by rw [Arrival.asOne_frame]
@[simp] theorem Arrival.asOne_engine : a.asOne.engine = a.state.engine := by rw [Arrival.asOne_frame]
@[simp] theorem Arrival.asOne_site : a.asOne.site = a.state.site := by rw [Arrival.asOne_frame]
@[simp] theorem Arrival.asOne_supply : a.asOne.supply = a.state.supply := by rw [Arrival.asOne_frame]
@[simp] theorem Arrival.asOne_device : a.asOne.device = a.state.device := by rw [Arrival.asOne_frame]
@[simp] theorem Arrival.asOne_iface : a.asOne.iface = a.state.iface := by rw [Arrival.asOne_frame]
@[simp] theorem Arrival.asOne_pins : a.asOne.pins = a.state.pins := by rw [Arrival.asOne_frame]
@[simp] theorem Arrival.asOne_ticks : a.asOne.ticks = a.state.ticks := by rw [Arrival.asOne_frame]

/-! ### State.changeEvent -/

@[simp] theorem State.changeEvent_pending (before : Levels) : (s.changeEvent before).pending = s.pending := by rw [State.changeEvent_frame]
@[simp] theorem State.changeEvent_turn (before : Levels) : (s.changeEvent before).turn = s.turn := by rw [State.changeEvent_frame]
@[simp] theorem State.changeEvent_boundary (before : Levels) : (s.changeEvent before).boundary = s.boundary := by rw [State.changeEvent_frame]
@[simp] theorem State.changeEvent_calendar (before : Levels) : (s.changeEvent before).calendar = s.calendar := by rw [State.changeEvent_frame]
@[simp] theorem State.changeEvent_timeValid (before : Levels) : (s.changeEvent before).timeValid = s.timeValid := by rw [State.changeEvent_frame]
@[simp] theorem State.changeEvent_timebase (before : Levels) : (s.changeEvent before).timebase = s.timebase := by rw [State.changeEvent_frame]
@[simp] theorem State.changeEvent_sensors (before : Levels) : (s.changeEvent before).sensors = s.sensors := by rw [State.changeEvent_frame]
@[simp] theorem State.changeEvent_flags (before : Levels) : (s.changeEvent before).flags = s.flags := by rw [State.changeEvent_frame]
@[simp] theorem State.changeEvent_zones (before : Levels) : (s.changeEvent before).zones = s.zones := by rw [State.changeEvent_frame]
@[simp] theorem State.changeEvent_engine (before : Levels) : (s.changeEvent before).engine = s.engine := by rw [State.changeEvent_frame]
@[simp] theorem State.changeEvent_site (before : Levels) : (s.changeEvent before).site = s.site := by rw [State.changeEvent_frame]
@[simp] theorem State.changeEvent_supply (before : Levels) : (s.changeEvent before).supply = s.supply := by rw [State.changeEvent_frame]
@[simp] theorem State.changeEvent_device (before : Levels) : (s.changeEvent before).device = s.device := by rw [State.changeEvent_frame]
@[simp] theorem State.changeEvent_iface (before : Levels) : (s.changeEvent before).iface = s.iface := by rw [State.changeEvent_frame]
@[simp] theorem State.changeEvent_pins (before : Levels) : (s.changeEvent before).pins = s.pins := by rw [State.changeEvent_frame]
@[simp] theorem State.changeEvent_ticks (before : Levels) : (s.changeEvent before).ticks = s.ticks := by rw [State.changeEvent_frame]

/-! ### walkOver -/

@[simp] theorem walkOver_pending (l : List EntryIx) : (walkOver l s).pending = s.pending := by rw [walkOver_frame]
@[simp] theorem walkOver_boundary (l : List EntryIx) : (walkOver l s).boundary = s.boundary := by rw [walkOver_frame]
@[simp] theorem walkOver_calendar (l : List EntryIx) : (walkOver l s).calendar = s.calendar := by rw [walkOver_frame]
@[simp] theorem walkOver_timeValid (l : List EntryIx) : (walkOver l s).timeValid = s.timeValid := by rw [walkOver_frame]
@[simp] theorem walkOver_timebase (l : List EntryIx) : (walkOver l s).timebase = s.timebase := by rw [walkOver_frame]
@[simp] theorem walkOver_sensors (l : List EntryIx) : (walkOver l s).sensors = s.sensors := by rw [walkOver_frame]
@[simp] theorem walkOver_flags (l : List EntryIx) : (walkOver l s).flags = s.flags := by rw [walkOver_frame]
@[simp] theorem walkOver_engine (l : List EntryIx) : (walkOver l s).engine = s.engine := by rw [walkOver_frame]
@[simp] theorem walkOver_site (l : List EntryIx) : (walkOver l s).site = s.site := by rw [walkOver_frame]
@[simp] theorem walkOver_supply (l : List EntryIx) : (walkOver l s).supply = s.supply := by rw [walkOver_frame]
@[simp] theorem walkOver_device (l : List EntryIx) : (walkOver l s).device = s.device := by rw [walkOver_frame]
@[simp] theorem walkOver_iface (l : List EntryIx) : (walkOver l s).iface = s.iface := by rw [walkOver_frame]
@[simp] theorem walkOver_pins (l : List EntryIx) : (walkOver l s).pins = s.pins := by rw [walkOver_frame]
@[simp] theorem walkOver_ticks (l : List EntryIx) : (walkOver l s).ticks = s.ticks := by rw [walkOver_frame]

end Sys2Proof.Machine
end

