-- ==== Sys2Proof/Laws/Follow.lean ====
section
/-! SUPPORT. What comes before a command or a row: the follow events delivered to their followers, the walks made, and the second events
counted. One lemma for each of these operations that says what it can do. -/

namespace Sys2Proof.Machine

/-! ### The follow events on their way -/

/-- Whether a walk is caused at its end or not, a follow event taken is erased once from its groups. -/
theorem takeFollow_events (l : FollowLink) (walk : Bool) : ∀ groups : List FollowGroup,
    ((takeFollow l walk groups).1.flatMap fun g => g.events) = (groups.flatMap fun g => g.events).erase l
  | [] => rfl
  | g :: rest => by
    rw [List.flatMap_cons, List.erase_append]
    unfold takeFollow
    by_cases h : l ∈ g.events
    · have hc : g.events.contains l = true := by simpa using h
      rw [if_pos hc, if_pos h]
      by_cases he : g.events.erase l = []
      · rw [if_pos he, he]; rfl
      · rw [if_neg he, List.flatMap_cons]
    · have hc : ¬ g.events.contains l = true := by simpa using h
      rw [if_neg hc, if_neg h, List.flatMap_cons, takeFollow_events l walk rest]

/-- R113: a follow event is taken out of the first group that holds it: with its last one the group is finished, and otherwise it waits. -/
theorem takeFollow_first (l : FollowLink) (walk : Bool) (g : FollowGroup) (after : List FollowGroup) (hg : l ∈ g.events) :
    ∀ before : List FollowGroup, (∀ x, x ∈ before → l ∉ x.events) →
    takeFollow l walk (before ++ g :: after)
      = if g.events.erase l = [] then (before ++ after, g.walk || walk)
        else (before ++ { walk := g.walk || walk, events := g.events.erase l } :: after, false)
  | [], _ => by
    have hc : g.events.contains l = true := by simpa using hg
    rw [List.nil_append, takeFollow, if_pos hc]; rfl
  | x :: before, hb => by
    have hc : ¬ x.events.contains l = true := by simpa using hb x List.mem_cons_self
    rw [List.cons_append, takeFollow, if_neg hc,
      takeFollow_first l walk g after hg before fun y hy => hb y (List.mem_cons_of_mem x hy)]
    split <;> rfl

/-- R113: a follow event taken is no longer on its way, and every other one still is. -/
theorem State.takeLink_links (s : State) (l : FollowLink) (walk : Bool) : (s.takeLink l walk).links = s.links.erase l := by
  unfold State.takeLink State.links
  by_cases h : l ∈ s.owed.underway.group.events
  · have hc : s.owed.underway.group.events.contains l = true := by simpa using h
    rw [if_pos hc, List.flatMap_cons, List.flatMap_cons, List.erase_append, if_pos h]
    rfl
  · have hc : ¬ s.owed.underway.group.events.contains l = true := by simpa using h
    rw [if_neg hc, List.flatMap_cons, List.flatMap_cons, List.erase_append, if_neg h, takeFollow_events]

/-- A follow event taken changes what is on its way alone. -/
theorem State.takeLink_frame (s : State) (l : FollowLink) (walk : Bool) :
    s.takeLink l walk = { s with owed := (s.takeLink l walk).owed } := by
  unfold State.takeLink; split <;> rfl

@[simp] theorem State.takeLink_table (s : State) (l : FollowLink) (walk : Bool) : (s.takeLink l walk).table = s.table := by
  rw [State.takeLink_frame]

/-- Of what is on its way, a follow event taken changes the follow events, the walks and the second event under way. -/
theorem State.takeLink_owed (s : State) (l : FollowLink) (walk : Bool) :
    (s.takeLink l walk).owed = { s.owed with
      follows := (s.takeLink l walk).owed.follows
      walks := (s.takeLink l walk).owed.walks
      underway := (s.takeLink l walk).owed.underway } := by
  unfold State.takeLink; split <;> rfl

/-- A follow event changes the table and what is on its way: it moves no zone and ends no run. -/
theorem State.deliverLink_frame (s : State) (l : FollowLink) :
    s.deliverLink l = { s with table := (s.deliverLink l).table, owed := (s.deliverLink l).owed } := by
  have hz : (s.applyAt l.follower (Entry.followEvent s.view)).state.zones = s.zones :=
    State.applyAt_zones_keep s _ _ fun e _ => Entry.followEvent_zones s.view e
  have hf := State.applyAt_frame s l.follower (Entry.followEvent s.view)
  rw [hz] at hf
  unfold State.deliverLink
  simp only
  rw [State.takeLink_frame, hf]

/-- What a follow event leaves in the slot of its follower. -/
theorem State.deliverLink_table_same (s : State) (l : FollowLink) :
    (s.deliverLink l).table[l.follower] = (s.table[l.follower]).map fun e => (e.followEvent s.view).entry := by
  unfold State.deliverLink
  simp only [State.takeLink_table]
  exact State.applyAt_table_same s _ _

/-- A follow event leaves every slot but its follower's alone. -/
theorem State.deliverLink_table_other (s : State) (l : FollowLink) (m : EntryIx) (h : m ≠ l.follower) :
    (s.deliverLink l).table[m] = s.table[m] := by
  unfold State.deliverLink
  simp only [State.takeLink_table]
  exact State.applyAt_table_other s _ _ _ h

/-- A follow event delivered is no longer on its way, and no new one is. -/
theorem State.deliverLink_links (s : State) (l : FollowLink) : (s.deliverLink l).links = s.links.erase l := by
  unfold State.deliverLink
  simp only
  rw [State.takeLink_links]
  unfold State.links
  rw [State.applyAt_state_owed]

/-- Follow events change the table and what is on its way. -/
theorem State.deliverLinks_frame : ∀ (links : List FollowLink) (s : State),
    s.deliverLinks links = { s with table := (s.deliverLinks links).table, owed := (s.deliverLinks links).owed }
  | [], _ => rfl
  | l :: rest, s => by
    have h := State.deliverLinks_frame rest (s.deliverLink l)
    rw [State.deliverLink_frame s l] at h
    rw [State.deliverLinks, List.foldl_cons, ← State.deliverLinks, State.deliverLink_frame s l]
    rw [h]

/-- Follow events delivered are no longer on their way. -/
theorem State.deliverLinks_links : ∀ (links : List FollowLink) (s : State),
    (s.deliverLinks links).links = s.links.diff links
  | [], _ => rfl
  | l :: rest, s => by
    rw [State.deliverLinks, List.foldl_cons, ← State.deliverLinks, State.deliverLinks_links rest, State.deliverLink_links,
      List.diff_cons]

/-! ### The follow events that come before a command (R114) -/

/-- With no follow event on its way every entry stands as it is. -/
theorem State.settleSelf_of_noLinks (s : State) (h : s.links = []) : s.settleSelf = s := by
  unfold State.settleSelf; rw [h]; rfl

/-- The same where none on its way is an entry's own. -/
theorem State.settleSelf_of_noSelfLink (s : State) (h : ∀ l, l ∈ s.links → l.source ≠ l.follower) : s.settleSelf = s := by
  have hf : (s.links.filter fun l => l.source == l.follower) = [] := by
    rw [List.filter_eq_nil_iff]; intro l hl; simpa using h l hl
  unfold State.settleSelf; rw [hf]; rfl

/-- The follow events of entries that follow themselves change the table and what is on its way. -/
theorem State.settleSelf_frame (s : State) :
    s.settleSelf = { s with table := s.settleSelf.table, owed := s.settleSelf.owed } := State.deliverLinks_frame _ s

/-- R42: no follow event to the entry is on its way any more, and every other one is. -/
theorem State.dropFollowsTo_links (s : State) (n : EntryIx) :
    (s.dropFollowsTo n).links = s.links.filter fun l => l.follower != n := by
  have key : ∀ groups : List FollowGroup,
      (((groupsWithout n groups).filter fun g => g.events != []).flatMap fun g => g.events)
        = (groups.flatMap fun g => g.events).filter fun l => l.follower != n := by
    intro groups
    induction groups with
    | nil => rfl
    | cons g rest ih =>
      rw [List.flatMap_cons, List.filter_append, ← ih, groupsWithout, List.map_cons, List.filter_cons]
      by_cases h : (g.without n).events = []
      · have h' : g.events.filter (fun l => l.follower != n) = [] := h
        rw [h']; simp [h, groupsWithout]
      · rw [if_pos (by simpa using h), List.flatMap_cons]; rfl
  unfold State.links State.dropFollowsTo
  simp only [List.flatMap_cons, List.filter_append, key]
  rfl

/-! ### The walks made before ENGINE SUSPEND (R140) -/

/-- With no walk caused none is made. -/
theorem State.makeWalk_none (s : State) (h : s.owed.walks = 0) : s.makeWalk = s := by simp [State.makeWalk, h]

/-- A walk changes the table, the zones, the turn order list and what is on its way. -/
theorem State.makeWalk_frame (s : State) : s.makeWalk
    = { s with table := s.makeWalk.table, zones := s.makeWalk.zones, turn := s.makeWalk.turn, owed := s.makeWalk.owed } := by
  unfold State.makeWalk
  split
  · unfold State.walk; rw [walkOver_frame]
  · rfl

/-- So do several. -/
theorem State.makeWalks_frame : ∀ (k : Nat) (s : State), s.makeWalks k
    = { s with
        table := (s.makeWalks k).table, zones := (s.makeWalks k).zones, turn := (s.makeWalks k).turn, owed := (s.makeWalks k).owed }
  | 0, _ => rfl
  | k + 1, s => by
    have h := State.makeWalks_frame k s.makeWalk
    rw [State.makeWalk_frame s] at h
    rw [State.makeWalks, State.makeWalk_frame s, h]

/-! ### The second event that comes before a command (R63, R140) -/

/-- A second event raised changes the Timebase, the device notices and what is on its way. -/
theorem State.raiseSecond_frame (s : State) : s.raiseSecond
    = { s with timebase := s.raiseSecond.timebase, device := s.raiseSecond.device, owed := s.raiseSecond.owed } := by
  delta State.raiseSecond; simp only; split <;> rfl

/-- A second event raised with a READY candidate makes it the active source. -/
theorem State.raiseSecond_ready (s : State) (c : Source) (code quiet : Nat) (h : s.timebase.selector = .ready c code quiet) :
    s.raiseSecond = { s with
      timebase := s.timebase.switchTo c quiet
      device := s.device ||| noticeClockSwitched
      owed := { s.owed with seconds := s.owed.seconds + 1 } } := by
  delta State.raiseSecond State.report State.oweSeconds; simp only [h]

/-- One raised with no READY candidate keeps the active source and the candidate. -/
theorem State.raiseSecond_other (s : State) (h : ∀ c code quiet, s.timebase.selector ≠ .ready c code quiet) :
    s.raiseSecond = { s with
      timebase := { s.timebase with prescaler := 0, sincePrescaler := 0, quiet := 0 }
      owed := { s.owed with seconds := s.owed.seconds + 1 } } := by
  delta State.raiseSecond State.oweSeconds
  simp only
  split
  · exact absurd ‹_› (h _ _ _)
  · rfl
  · rfl

/-- Below the divisor a cycle of the active source moves the prescaler alone. -/
theorem State.prescale_below (s : State) (h : s.timebase.prescaler + 1 < s.timebase.active.divisor) :
    s.prescale = { s with timebase := { s.timebase with prescaler := s.timebase.prescaler + 1, sincePrescaler := 0 } } := by
  delta State.prescale; simp only [h, if_true]

/-- At the divisor it raises the second event. -/
theorem State.prescale_at (s : State) (h : s.timebase.active.divisor ≤ s.timebase.prescaler + 1) : s.prescale = s.raiseSecond := by
  delta State.prescale; simp only [Nat.not_lt.mpr h, if_false]

/-- The rests counted change the zones alone. -/
theorem State.countRests_frame (s : State) (set : ZoneSet) :
    (s.countRests set).state = { s with zones := (s.countRests set).state.zones } := by
  delta State.countRests Arrival.walkIf Arrival.quiet; simp only; split <;> rfl

/-- The entries counted change the table and the zones alone. -/
theorem State.countEntries_frame (s : State) (matchFirst reached : EntrySet) : (s.countEntries matchFirst reached).state
    = { s with
        table := (s.countEntries matchFirst reached).state.table, zones := (s.countEntries matchFirst reached).state.zones } :=
  State.apply_frame s _

/-- A second event counted changes the calendar, the table, the zones and what is on its way. -/
theorem State.countSecond_frame (s : State) (order : SecondOrder) : s.countSecond order
    = { s with
        calendar := (s.countSecond order).calendar, table := (s.countSecond order).table
        zones := (s.countSecond order).zones, owed := (s.countSecond order).owed } := by
  unfold State.countSecond
  simp only
  split
  · rw [Arrival.asOne_frame]
    simp only [Arrival.andThen]
    rw [State.countRests_frame, State.countEntries_frame, State.countRests_frame]
  · rfl

/-- With no second event under way there is none to finish. -/
theorem State.finishUnderway_none (s : State) (h : s.owed.underway = Underway.nothing) : s.finishUnderway = s := by
  simp [State.finishUnderway, h]

/-- A second event finished changes what a second event changes. -/
theorem State.finishUnderway_frame (s : State) : s.finishUnderway
    = { s with
        calendar := s.finishUnderway.calendar, table := s.finishUnderway.table, zones := s.finishUnderway.zones
        timebase := s.finishUnderway.timebase, device := s.finishUnderway.device, owed := s.finishUnderway.owed
        ticks := s.finishUnderway.ticks } := by
  unfold State.finishUnderway
  split
  · rfl
  · rw [State.nextTick, State.countSecond_frame]
    split
    · rw [State.raiseSecond_frame]
    · rfl

/-- With no second event come, the state is as it is. -/
theorem State.secondsCome_none (s : State) (h : s.owed.seconds = 0) (hu : s.owed.underway = Underway.nothing) :
    s.secondsCome = s := by simp [State.secondsCome, State.finishUnderway_none s hu, h, State.countRaised]

/-! ### What comes before ENGINE SUSPEND (R140) -/

/-- With no second event under way, what is finished before the engine leaves LIVE changes the table, the zones, the turn order list and
what is on its way. -/
theorem State.settleEnds_frame (s : State) (hu : s.owed.underway = Underway.nothing) : s.settleEnds
    = { s with
        table := s.settleEnds.table, zones := s.settleEnds.zones, turn := s.settleEnds.turn, owed := s.settleEnds.owed } := by
  unfold State.settleEnds
  simp only [State.finishUnderway_none s hu]
  rw [State.makeWalks_frame, State.deliverLinks_frame]

/-- With nothing on its way and no second event under way nothing is to be finished. -/
theorem State.settleEnds_none (s : State) (hl : s.links = []) (hw : s.owed.walks = 0)
    (hu : s.owed.underway = Underway.nothing) : s.settleEnds = s := by
  unfold State.settleEnds
  simp only [State.finishUnderway_none s hu, hl]
  rw [State.deliverLinks, List.foldl_nil, hw, State.makeWalks]

end Sys2Proof.Machine
end

