-- ==== Sys2Proof/WellFormed.lean ====
section
/-! DEFINITION. Which commands are well formed. Indices and sets are bounded by their types; the one check left is that a byte
cut off by a bus condition has fewer than eight bits. -/

namespace Sys2Proof

/-- R158: a START or STOP discards a byte it cuts off "before the eighth bit"; a byte of eight bits is no cut-off byte. -/
def wellFormed : Instr → Bool
  | .busStartOrStop _ cut => cut < 8
  | .load | .modify | .fetch | .find | .retire | .setProtect _ => true
  | .hold | .release | .rearm | .start | .stop | .confirm | .confirmFirst => true
  | .setTime | .readTime | .selectClock | .readClock | .setFlags | .clearLatches => true
  | .setZones | .readZones | .configure | .readConfig | .engineStart | .engineSuspend => true
  | .nextNotice | .unknownCommand => true
  | .pointerByte _ | .transferBufferWrite _ | .commandWrite _ | .commandBegin => true
  | .ignoredRegisterWrite _ => true
  | .secondEvent _ | .runCompleted _ | .capped _ | .waitLimitExpiry _ | .restEnd _ | .grantWalk => true
  | .sensorPinChange _ _ | .sensorAcceptance _ | .patternTrigger _ | .permitFalse _ => true
  | .permitTrue _ | .pulseEdge _ | .followEvent _ _ => true
  | .crystalCheckPass | .mainsCheckPass | .checkTimeout | .readyCandidateFault => true
  | .clockSwitch | .activeSourceFault => true
  | .entryToBackup | .supplyDip | .returnFromBackup _ | .coldStart => true
  | .resetAssert | .resetRelease | .byteRead | .retentionMarkLost => true

end Sys2Proof
end

