-- ==== Sys2Proof/Tests/Slice0.lean ====
section
/-! SUPPORT. Tests: the well-formedness check on an ill-formed term; for each statement with hypotheses a state and operands that meet
them, one for each of its clauses; and a few rows run once on small states. -/

namespace Sys2Proof.Tests

open Sys2Proof.Machine

/-! ### Small states -/

/-- A pattern whose specs are IGNORE but for signal 0. -/
def patternOf (present : Bool) (sense : Sense) (s0 : Spec) : Pattern where
  present := present
  combine := .all
  sense := sense
  specs := (Vector.replicate 16 .ignore).set 0 s0

/-- A MANUAL definition. -/
def plain : Definition where
  tag := 7
  kind := .manual
  calendarMatch := { second := none, minute := none, hour := none, date := none, month := none, weekdays := 127 }
  source := 0
  followOn := .completedOnly
  pattern := patternOf false .edge .ignore
  permitMode := .gate
  rep := .recurring
  confirm := .notNeeded
  retrigger := .ignore
  priority := 3
  preempt := false
  claim := 1
  duration := 5
  unit := .seconds
  pulseSource := 0
  cap := 0
  waitLimit := 0
  notify := 31

/-- A LEVEL definition that the levels of reset satisfy: S0 LOW. -/
def level : Definition := { plain with kind := .pattern, pattern := patternOf true .level .low }

/-- A definition with a permit S0 HIGH, which the levels of reset do not satisfy. -/
def gated : Definition := { plain with pattern := patternOf true .edge .high }

/-- An entry in a state. -/
def entry (d : Definition) (p : Phase) : Entry where
  defn := d
  phase := p
  lastOutcome := none
  lastStart := none
  snapshot := none
  pending := 0
  storedPattern := d.patternValue 0 0
  storedPermit := d.permitValue 0 0

/-- A run with a counter. -/
def run (k : Nat) : RunState := { counter := k, subMinute := none, duration := 5, cap := 0, capCount := none }

/-- One entry in slot 0. -/
def one (e : Entry) : State := { State.reset.putEntry 0 (some e) with turn := [0] }

/-- One RUNNING entry in slot 0 that owns Z0. -/
def owning (e : Entry) : State := { one e with zones := allFree.set 0 (.ownedOn 0) }

/-- The engine LIVE under a configuration with budget 16 and rests of 4 s. -/
def live (s : State) : State :=
  { s with
    engine := { s.engine with mode := .live }
    site := { config := { SiteConfig.cold with budget := 16, rests := Vector.replicate 16 4 }, valid := true, lock := true } }

/-- The engine in BACKUP on BATTERY. -/
def backup (m : RunMode) (s : State) : State :=
  { s with
    engine := { mode := .backup, remembered := m, held := false }
    supply := { s.supply with condition := .battery } }

/-- A command in progress with its input in the buffer. -/
def cmd (code : Byte) (bytes : List Byte) (s : State) : State :=
  { s with iface := { s.iface with busy := true, code := some code, buffer := Memory.ofRecord bytes } }

/-- One follow event on its way. -/
def linked (source follower : EntryIx) (s : State) : State :=
  { s with owed := { s.owed with follows := [{ walk := false, events := [{ source := source, follower := follower }] }] } }

/-- A FOLLOW entry of slot `source`, ARMED, in slot `n`. -/
def follower (source n : EntryIx) (s : State) : State :=
  s.putEntry n (some (entry { plain with kind := .follow, source := source, followOn := .anyEnd } .armed))

/-- The part held by the RESET line. -/
def heldPart : State := { State.reset with engine := { State.reset.engine with held := true } }

/-- The entry record of a definition for slot `n`. -/
def recordOf (n : Byte) (d : Definition) : List Byte := n :: 0 :: d.bytes

/-- The state a row leaves. -/
def after (i : Instr) (s : State) : Option State :=
  match exec i s with
  | .next t => some t
  | .fault _ => none
  | .refused _ => none

/-- RESULT and DETAIL after a row. -/
def answer (i : Instr) (s : State) : Option (ResultCode × Byte) := (after i s).map fun t => (t.iface.result, t.iface.detail)

/-- The state of slot `n` after a row. -/
def phaseAfter (i : Instr) (s : State) (n : EntryIx) : Option Phase := (after i s).bind fun t => t.table[n].map fun e => e.phase

/-! ### Well-formedness -/

theorem test_wellFormed_cut_byte : wellFormed (.busStartOrStop .stop 7) = true := by decide
theorem test_illFormed_whole_byte : wellFormed (.busStartOrStop .stop 8) = false := by decide

/-! ### Values of the spec -/

/-- The worked sequence of Chapter 3: 2026-10-25 is a Sunday. -/
theorem test_weekday_sunday :
    weekday { second := 0, minute := 0, hour := 0, date := 25, month := 10, year := 26 } = 7 := by decide

/-- R55: the wrap of the century. -/
theorem test_wrap :
    weekday { second := 59, minute := 59, hour := 23, date := 31, month := 12, year := 99 } = 4
      ∧ Calendar.advance { second := 59, minute := 59, hour := 23, date := 31, month := 12, year := 99 } = Calendar.cold := by
  decide

/-- R52: 29 February 2028 exists, and 29 February 2027 does not. -/
theorem test_leap : daysInMonth 2 28 = 29 ∧ daysInMonth 2 27 = 28 := by decide

/-- Chapter 10: STATUS after cold start shows the COLD_START notice alone. -/
theorem test_status_reset : State.reset.status = 0x10 := by decide

/-- Table 3 of Chapter 11: a FREE zone shows 0x80 in the snapshot. -/
theorem test_snapshot_reset : State.reset.zoneSnapshot.getD 0 0 = 0x80 := by decide

/-! ### The block -/

theorem test_met_StepTakesFrontRow : ({ State.reset with pending := [.fetch] } : State).pending = .fetch :: [] := by decide
theorem test_met_CommandInProgressCompletes_assigned :
    (cmd 0x12 [] State.reset).iface.busy = true ∧ (cmd 0x12 [] State.reset).iface.code = some 0x12
      ∧ assignedCodes.contains 0x13 = true ∧ (0x13 : Byte) ≠ 0x12 := by decide
theorem test_met_CommandInProgressCompletes_unassigned :
    (cmd 0x00 [] State.reset).iface.code = some 0x00 ∧ assignedCodes.contains 0x00 = false := by decide
theorem test_met_ColdStartRow : ({ State.reset with supply := { State.reset.supply with mark := false } } : State).supply.mark = false := by
  decide

/-! ### Commands that move entries: what they find (R114) -/

/-- With nothing on its way an entry stands as it is: every witness below whose commands ask for `x = s.settleSelf` has `x = s`. -/
theorem test_met_settled (s : State) (h : s.links = []) : s = s.settleSelf := (s.settleSelf_of_noLinks h).symm
theorem test_met_settled_small :
    (cmd 0x24 [0] (live (owning (entry plain (.running (run 5)))))).links = [] ∧ (cmd 0x26 [] (one (entry plain .confirming))).links = []
      ∧ (cmd 0x11 (recordOf 0 level) (live (one (entry plain .armed)))).links = [] := by decide
/-- The event of an entry that follows itself finds it ARMED, and a STOP then finds it DUE. -/
theorem test_met_settled_self :
    let s := cmd 0x24 [0] (linked 0 0 (live (follower 0 0 State.reset)))
    s.inProgress 0x24 = true ∧ (s.table[(0 : EntryIx)].map fun e => e.phase) = some .armed
      ∧ (s.settleSelf.table[(0 : EntryIx)].map fun e => e.phase) = some (.due freshWait) ∧ s.settleSelf.links = [] := by decide

/-! ### Chapter 1 -/

theorem test_met_LoadPlacesEntry :
    let s := cmd 0x10 (recordOf 0 plain) State.reset
    s.inProgress 0x10 = true ∧ s.namedEntry = some 0 ∧ s.isProtected 0 = false ∧ s.table[(0 : EntryIx)] = none
      ∧ definitionFault s.input = none ∧ s.badLink 0 (Definition.ofRecord s.input) = false ∧ heldBit s.input = false := by decide
theorem test_met_LoadPlacesEntry_level :
    let s := cmd 0x10 (recordOf 47 level) (live State.reset)
    s.namedEntry = some 47 ∧ definitionFault s.input = none ∧ heldBit s.input = false ∧ s.isLive = true
      ∧ (Definition.ofRecord s.input).kind = .pattern ∧ (Definition.ofRecord s.input).pattern.sense = .level
      ∧ (Definition.ofRecord s.input).pattern.satisfied s.levels 0 = true := by decide
theorem test_met_LoadPlacesEntry_held :
    let s := cmd 0x10 ((recordOf 0 plain).set 3 0x87) State.reset
    definitionFault s.input = none ∧ heldBit s.input = true := by decide
theorem test_met_RecordCommandRefusals_index : (cmd 0x10 [48] State.reset).namedEntry = none := by decide
theorem test_met_RecordCommandRefusals_protected :
    ({ cmd 0x10 [11] State.reset with boundary := 12 } : State).isProtected 11 = true
      ∧ ({ cmd 0x10 [12] State.reset with boundary := 12 } : State).isProtected 12 = false := by decide
theorem test_met_RecordCommandRefusals_field :
    definitionFault (cmd 0x10 ((recordOf 0 plain).set 5 60) State.reset).input = some 5
      ∧ definitionFault (cmd 0x10 ((recordOf 0 plain).set 5 59) State.reset).input = some 5
      ∧ definitionFault (cmd 0x10 ((recordOf 0 { plain with kind := .calendar }).set 5 59) State.reset).input = none := by decide
theorem test_met_RecordCommandRefusals_offends :
    recordOffends (cmd 0x10 ((recordOf 0 plain).set 5 59) State.reset).input 5
      ∧ recordOffends (cmd 0x10 ((recordOf 0 { plain with kind := .calendar }).set 5 60) State.reset).input 5 := by
  unfold recordOffends
  exact ⟨Or.inr (Or.inl (by decide)), Or.inr (Or.inl (by decide))⟩
theorem test_met_RecordCommandRefusals_link :
    let s := cmd 0x10 (recordOf 0 { plain with kind := .follow, source := 1 }) State.reset
    definitionFault s.input = none ∧ s.badLink 0 (Definition.ofRecord s.input) = true := by decide
theorem test_met_RecordCommandRefusals_active :
    let s := cmd 0x11 (recordOf 0 { plain with claim := 2 }) (live (owning (entry plain (.running (run 5)))))
    definitionFault s.input = none ∧ s.badLink 0 (Definition.ofRecord s.input) = false
      ∧ (entry plain (.running (run 5))).activeFault (Definition.ofRecord s.input) = some 0x0C := by decide
theorem test_met_ModifyReplacesDefinition :
    let s := cmd 0x11 (recordOf 0 level) (live (one (entry plain .armed)))
    s.inProgress 0x11 = true ∧ s.namedEntry = some 0 ∧ s.isProtected 0 = false
      ∧ s.table[(0 : EntryIx)] = some (entry plain .armed) ∧ definitionFault s.input = none
      ∧ s.badLink 0 (Definition.ofRecord s.input) = false ∧ s.isLive = true
      ∧ (Definition.ofRecord s.input).pattern.satisfied s.levels 0 = true := by decide
theorem test_met_ModifyOfActiveEntry_kept :
    let e := entry plain (.running (run 5))
    let s := cmd 0x11 (recordOf 0 { plain with duration := 9 }) (live (owning e))
    s.inProgress 0x11 = true ∧ s.namedEntry = some 0 ∧ s.isProtected 0 = false ∧ s.table[(0 : EntryIx)] = some e
      ∧ e.phase.isActive = true ∧ definitionFault s.input = none ∧ s.badLink 0 (Definition.ofRecord s.input) = false
      ∧ e.activeFault (Definition.ofRecord s.input) = none
      ∧ e.modifyTransition (e.redefined (Definition.ofRecord s.input) s.levels) = none := by decide
theorem test_met_ModifyOfActiveEntry_pause :
    let e := entry plain (.running (run 5))
    let s := cmd 0x11 (recordOf 0 gated) (live (owning e))
    e.activeFault (Definition.ofRecord s.input) = none ∧ (Definition.ofRecord s.input).permitMode = .gate
      ∧ e.modifyTransition (e.redefined (Definition.ofRecord s.input) s.levels) = some false := by decide
theorem test_met_ModifyOfActiveEntry_abort :
    let e := entry plain (.running (run 5))
    let s := cmd 0x11 (recordOf 0 { gated with permitMode := .abort }) (live (owning e))
    e.activeFault (Definition.ofRecord s.input) = none ∧ (Definition.ofRecord s.input).permitMode = .abort
      ∧ e.modifyTransition (e.redefined (Definition.ofRecord s.input) s.levels) = some false := by decide
theorem test_met_ModifyOfActiveEntry_resume :
    let e := entry gated (.paused (run 5))
    let s := cmd 0x11 (recordOf 0 plain) (live (one e))
    e.activeFault (Definition.ofRecord s.input) = none
      ∧ e.modifyTransition (e.redefined (Definition.ofRecord s.input) s.levels) = some true := by decide
theorem test_met_ModifyOfActiveEntry_noEffect :
    let paused := entry plain (.paused (run 5))
    let running := entry gated (.running (run 5))
    let s := cmd 0x11 (recordOf 0 gated) (live (one paused))
    let u := cmd 0x11 (recordOf 0 plain) (live (owning running))
    paused.modifyTransition (paused.redefined (Definition.ofRecord s.input) s.levels) = some false
      ∧ running.modifyTransition (running.redefined (Definition.ofRecord u.input) u.levels) = some true := by decide
theorem test_met_FetchShowsRecord :
    let s := cmd 0x12 [0] (one (entry plain .armed))
    s.inProgress 0x12 = true ∧ s.input 0 = (0 : EntryIx).val ∧ 48 ≤ (cmd 0x12 [48] State.reset).input 0 ∧ s.table[(0 : EntryIx)] = some (entry plain .armed)
      ∧ s.table[(1 : EntryIx)] = none := by decide
theorem test_met_FindReturnsMatches :
    (cmd 0x13 [0, 255] State.reset).inProgress 0x13 = true ∧ (cmd 0x13 [0, 255] State.reset).input 0 = 0
      ∧ (cmd 0x13 [2, 1] State.reset).input 1 = 1 ∧ (cmd 0x13 [2, 7] State.reset).input 1 = 7
      ∧ (cmd 0x13 [1, 15] State.reset).input 1 = (15 : ZoneIx).val ∧ (cmd 0x13 [1, 16] State.reset).input 1 = 16
      ∧ (cmd 0x13 [2, 0] State.reset).input 1 = 0 ∧ (cmd 0x13 [2, 8] State.reset).input 1 = 8
      ∧ (cmd 0x13 [3] State.reset).input 0 = 3 := by decide
theorem test_met_RetireEmptiesSlot :
    let s := cmd 0x14 [0] (live (owning (entry plain (.running (run 5)))))
    s.inProgress 0x14 = true ∧ s.input 0 = (0 : EntryIx).val ∧ s.isProtected 0 = false ∧ s.firstFollower 0 = none
      ∧ (cmd 0x14 [48] State.reset).inProgress 0x14 = true ∧ 48 ≤ (cmd 0x14 [48] State.reset).input 0 := by decide
theorem test_met_RetireEmptiesSlot_followEvents :
    let s := cmd 0x14 [1] (linked 0 1 (live (follower 0 1 (one (entry plain .armed)))))
    s.input 0 = (1 : EntryIx).val ∧ s.firstFollower 1 = none ∧ s.links = [{ source := 0, follower := 1 }] := by decide
theorem test_met_RetireEmptiesSlot_inUse :
    ((one (entry plain .armed)).putEntry 5 (some (entry { plain with kind := .follow, source := 0 } .armed))).firstFollower 0
      = some 5 := by decide
theorem test_met_SetProtectMovesBoundary :
    (cmd 0x18 [0] State.reset).inProgress 0x18 = true ∧ (cmd 0x18 [48] State.reset).input 0 = 48
      ∧ (cmd 0x18 [11] State.reset).input 0 = 11
      ∧ (cmd 0x18 [12] ({ State.reset with boundary := 24 } : State)).input 0
          < (cmd 0x18 [12] ({ State.reset with boundary := 24 } : State)).boundary := by decide
theorem test_met_ProtectedDefinitionsKept :
    let s := ({ cmd 0x14 [11] (one (entry plain .armed)) with boundary := 12 } : State)
    Instr.retire ≠ .coldStart ∧ (11 : EntryIx).val < s.boundary ∧ (after .retire s).isSome = true := by decide
theorem test_met_DefinitionRoundTrip :
    let r := (cmd 0x10 (recordOf 0 level) State.reset).input
    definitionFault r = none ∧ (List.range 48).all (fun k => r k < 256) = true := by decide

/-! ### Chapter 2 -/

theorem test_met_TriggerAtDueEntryIsDropped :
    ({ live := true, levels := 0 } : View).live = true ∧ (entry level (.due freshWait)).phase = .due freshWait
      ∧ level.pattern.sense = .level ∧ gated.pattern.sense = .edge := by decide
theorem test_met_LifecycleRefusals :
    (cmd 0x23 [0] (one (entry plain .held))).isLive = false ∧ (cmd 0x23 [0] (live (one (entry plain .held)))).isLive = true
      ∧ (Phase.held == .armed) = false ∧ (cmd 0x20 [48] State.reset).namedEntry = none := by decide
theorem test_met_HoldRow :
    let s := cmd 0x20 [0] (live (owning (entry plain (.running (run 5)))))
    s.inProgress 0x20 = true ∧ s.namedEntry = some 0 ∧ s.isProtected 0 = false
      ∧ s.table[(0 : EntryIx)] = some (entry plain (.running (run 5))) := by decide
theorem test_met_HoldRow_follower :
    (live ((owning (entry plain (.running (run 5)))).putEntry 1
      (some (entry { plain with kind := .follow, followOn := .anyEnd } .armed)))).followLinks 0 .stopped ≠ [] := by decide
theorem test_met_ReleaseAndRearmRows :
    (cmd 0x21 [0] (live (one (entry level .held)))).inProgress 0x21 = true
      ∧ (cmd 0x22 [0] (live (one (entry level .spent)))).inProgress 0x22 = true
      ∧ (cmd 0x22 [0] (live (one (entry level .spent)))).isLive = true ∧ level.pattern.satisfied State.reset.levels 0 = true := by
  decide
theorem test_met_StartRow :
    let s := cmd 0x23 [0] (live (one (entry plain .armed)))
    s.inProgress 0x23 = true ∧ s.namedEntry = some 0 ∧ s.isLive = true ∧ plain.permitHolds s.levels = true
      ∧ gated.permitHolds s.levels = false := by decide
theorem test_met_StopRow :
    let s := cmd 0x24 [0] (live (owning (entry plain (.running (run 5)))))
    s.inProgress 0x24 = true ∧ s.namedEntry = some 0 ∧ (entry plain (.running (run 5))).phase.isActive = true := by decide
theorem test_met_ReleaseAndRearmRows_followEvents :
    let s := cmd 0x21 [1] (linked 0 1 (live ((one (entry plain .armed)).putEntry 1
      (some (entry { plain with kind := .follow, source := 0 } .held)))))
    s.inProgress 0x21 = true ∧ s.namedEntry = some 1 ∧ s.links = [{ source := 0, follower := 1 }] ∧ s.settleSelf.links = s.links
      ∧ (s.dropFollowsTo 1).links = [] := by decide
theorem test_met_ConfirmRow :
    let s := cmd 0x25 [7] (one (entry plain .confirming))
    s.inProgress 0x25 = true ∧ s.table[(0 : EntryIx)] = some (entry plain .confirming) ∧ plain.tag = byteOf (s.input 0) := by decide
theorem test_met_ConfirmFirstRow :
    (cmd 0x26 [] (one (entry plain .confirming))).inProgress 0x26 = true
      ∧ (cmd 0x26 [] (one (entry plain .confirming))).turnLaw := by
  refine ⟨by decide, ?_⟩
  unfold State.turnLaw
  decide

/-! ### Chapters 3 and 4 -/

theorem test_met_CalendarAdvance :
    State.reset.powered = true ∧ Calendar.cold.valid = true
      ∧ ({ second := 59, minute := 59, hour := 23, date := 28, month := 2, year := 27 } : Calendar).valid = true := by decide
theorem test_met_SetTimeRow :
    let bad := cmd 0x30 [0, 0, 0, 29, 2, 27] State.reset
    let good := cmd 0x30 [59, 59, 23, 29, 2, 28] State.reset
    bad.inProgress 0x30 = true ∧ firstBad (timeChecks bad.input) = some 3 ∧ firstBad (timeChecks good.input) = none := by decide
theorem test_met_SetTimeRow_offends :
    timeOffends (cmd 0x30 [0, 0, 0, 29, 2, 27] State.reset).input 3 ∧ timeOffends (cmd 0x30 [60] State.reset).input 0
      ∧ timeOffends (cmd 0x30 [0, 0, 0, 31, 13, 0] State.reset).input 4 ∧ ¬ timeOffends (cmd 0x30 [0, 0, 0, 31, 13, 0] State.reset).input 3 := by
  unfold timeOffends
  refine ⟨?_, ?_, ?_, ?_⟩ <;> decide
theorem test_met_SetTimeRow_secondsCome :
    State.reset.owed.seconds = 0 ∧ State.reset.owed.underway = Underway.nothing ∧ (State.reset.oweSeconds 1).owed.seconds = 1
      ∧ (State.reset.endRest 3).owed.seconds = 0 ∧ (State.reset.endRest 3).owed.underway ≠ Underway.nothing
      ∧ (State.reset.endRest 3).powered = true := by decide
theorem test_met_ReadRows :
    (cmd 0x31 [] State.reset).inProgress 0x31 = true ∧ (cmd 0x39 [] State.reset).inProgress 0x39 = true
      ∧ (cmd 0x49 [] State.reset).inProgress 0x49 = true ∧ (cmd 0x51 [] State.reset).inProgress 0x51 = true := by decide
theorem test_met_SelectClockRow :
    (cmd 0x38 [1] State.reset).inProgress 0x38 = true ∧ (cmd 0x38 [0] State.reset).input 0 = Source.internal.code
      ∧ (cmd 0x38 [3] State.reset).input 0 = Source.mains60.code ∧ (cmd 0x38 [4] State.reset).input 0 = 4 := by decide

/-- A Timebase with a candidate. -/
def candidate (x : Selector) (active : Source) : State :=
  { State.reset with timebase := { Timebase.cold with selector := x, active := active } }

/-- Naming INTERNAL after a fallback abandons the candidate that the fallback kept (notes/assumptions/41.md). -/
theorem test_select_internal_after_fallback :
    (after .selectClock (cmd 0x38 [0] (candidate (.ready .crystal 3 0) .internal))).map
      (fun t => (t.timebase.selector, t.timebase.active, t.device &&& noticeClockSwitched)) = some (.steady, .internal, 0) := by decide
theorem test_met_CandidateRows :
    (candidate (.starting { source := .crystal, good := 0, elapsed := 0, code := 3, quiet := none }) .internal).powered = true
      ∧ Source.mains50.isMains = true ∧ Source.crystal ≠ .internal := by decide
theorem test_met_CandidateRows_waiting :
    (candidate (.starting { source := .mains50, good := 100, elapsed := 0, code := 3, quiet := some 0 }) .internal).waiting = [.mainsCheckPass]
      ∧ (candidate (.starting { source := .crystal, good := 0, elapsed := 96000, code := 3, quiet := none }) .internal).waiting
          = [.checkTimeout]
      ∧ (candidate (.ready .crystal 3 32) .internal).waiting = [.readyCandidateFault]
      ∧ (candidate (.ready .mains60 3 1919) .internal).waiting = [] := by decide
theorem test_met_CandidateRows_tick :
    let k : Check := { source := .crystal, good := 0, elapsed := 0, code := 3, quiet := none }
    let s := candidate (.starting k) .internal
    let checked := { s with timebase := { s.timebase with crystalRunning := true } }
    checked.powered = true ∧ checked.timebase.selector = .starting k ∧ checked.timebase.crystalRunning = true
      ∧ (candidate (.starting { k with source := .mains50 }) .internal).timebase.selector = .starting { k with source := .mains50 }
      ∧ (candidate (.ready .crystal 3 31) .internal).timebase.selector = .ready .crystal 3 31 := by decide
/-- The first zero crossing of a mains check begins a period, and one 640 internal cycles later is a good one. -/
theorem test_mains_crossings :
    let k : Check := { source := .mains50, good := 0, elapsed := 0, code := 3, quiet := none }
    (Selector.starting k).mainsCycle = .starting { k with quiet := some 0 }
      ∧ (Selector.starting { k with quiet := some 640 }).mainsCycle = .starting { k with quiet := some 0, good := 1 } := by decide
theorem test_met_ClockSwitchRow : (candidate (.ready .crystal 3 0) .internal).timebase.selector = .ready .crystal 3 0 := by decide
/-- A Timebase one cycle before its second event. -/
def atDivisor (x : Selector) : State :=
  { State.reset with timebase := { Timebase.cold with selector := x, prescaler := 31999 } }

theorem test_met_ClockSwitchRow_prescale :
    let k : Check := { source := .crystal, good := 0, elapsed := 0, code := 3, quiet := none }
    (atDivisor .steady).timebase.active.divisor ≤ (atDivisor .steady).timebase.prescaler + 1
      ∧ (atDivisor (.starting k)).timebase.selector = .starting k
      ∧ (atDivisor (.ready .crystal 3 0)).timebase.selector = .ready .crystal 3 0 := by decide
theorem test_met_ClockSwitchRow_cycles :
    State.reset.powered = true ∧ State.reset.crystalLaw ∧ State.reset.prescalerLaw ∧ State.reset.timebase.selector = .steady
      ∧ (candidate .steady .mains50).crystalLaw ∧ (candidate .steady .mains50).prescalerLaw := by
  unfold State.crystalLaw State.prescalerLaw
  decide
/-- A READY candidate becomes active at the second event that the prescaler raises, and a STARTING one stays the candidate. -/
theorem test_switch_at_second_event :
    let k : Check := { source := .crystal, good := 0, elapsed := 0, code := 3, quiet := none }
    let ready := (atDivisor (.ready .crystal 3 0)).prescale
    let starting := (atDivisor (.starting k)).prescale
    ready.timebase.active = .crystal ∧ ready.timebase.selector = .steady ∧ ready.owed.seconds = 1
      ∧ ready.device &&& noticeClockSwitched ≠ 0
      ∧ starting.timebase.active = .internal ∧ starting.timebase.selector = .starting k ∧ starting.owed.seconds = 1 := by decide
theorem test_met_ClockSwitchRow_ownTime :
    State.reset.pending = [] ∧ State.reset.waiting = [] ∧ State.reset.powered = true ∧ State.reset.timebase.active = .internal
      ∧ State.reset.timebase.selector = .steady ∧ State.reset.timebase.prescaler + 1 < Source.internal.divisor
      ∧ ({ Timebase.cold with prescaler := 31999 } : Timebase).prescaler + 1 = 32000
      ∧ (State.reset.oweWalks 1).waiting = [.grantWalk] := by decide
theorem test_met_ActiveSourceFaultRow :
    let s := { candidate .steady .mains50 with timebase := { Timebase.cold with active := .mains50, prescaler := 25, quiet := 1920 } }
    s.powered = true ∧ s.timebase.active ≠ .internal ∧ s.timebase.prescaler * 32000 = 16000 * s.timebase.active.divisor := by decide

/-! ### Triggers, counts, runs and walks -/

theorem test_met_TriggerRules :
    plain.permitHolds 0 = true ∧ gated.permitHolds 0 = false ∧ (Phase.running (run 5)).ownsZones = true
      ∧ plain.retrigger = .ignore ∧ ({ plain with retrigger := .restart } : Definition).retrigger = .restart := by decide
theorem test_met_CountingRules :
    let r := { run 1 with subMinute := some 59 }
    let c := { run 1 with cap := 1, capCount := some { elapsed := 0, seconds := 59 } }
    (entry plain (.running (run 1))).secondEnds = some .completed
      ∧ (entry { plain with unit := .minutes } (.running r)).secondEnds = some .completed
      ∧ (entry { plain with unit := .pulses } (.running c)).secondEnds = some .capped
      ∧ (entry { plain with waitLimit := 1 } (.due { freshWait with seconds := 59 })).secondEnds = some .skipped
      ∧ (entry { plain with waitLimit := 1 } (.due { remaining := some 2, elapsed := 1, seconds := 0 })).secondEnds
          = some .aborted := by decide
theorem test_met_SecondEventCounts :
    let s := live (owning (entry plain (.running (run 1))))
    s.takesArrivals = true ∧ s.uncounted 0 = true ∧ plain.kind ≠ .calendar := by decide
theorem test_met_SecondEventCounts_ends :
    let r := { run 1 with cap := 1, capCount := some { elapsed := 0, seconds := 59 } }
    let e := entry { plain with unit := .pulses, cap := 1 } (.paused r)
    let on := live (owning (entry plain (.running (run 1))))
    let off := (live (one e)).putZone 0 (.ownedOff 0 (some 1))
    on.ownerLaw ∧ on.zones[(0 : ZoneIx)] = .ownedOn 0 ∧ off.ownerLaw ∧ off.uncounted 0 = true ∧ e.secondEnds = some .capped
      ∧ e.phase.ownsZones = true ∧ slotRunning off.table[(0 : EntryIx)] = false := by
  unfold State.ownerLaw
  decide
theorem test_met_SecondEventCounts_frame :
    let s := live (owning (entry plain (.running (run 5))))
    let raised := { s with owed := { s.owed with seconds := 1 } }
    s.powered = true ∧ s.ownerLaw ∧ s.table[(1 : EntryIx)] = none ∧ s.zones[(1 : ZoneIx)] = .free ∧ s.owed.seconds = 0
      ∧ 0 < raised.owed.seconds ∧ s.timebase.selector = .steady ∧ heldPart.powered = true ∧ heldPart.takesArrivals = false
      ∧ (candidate (.ready .crystal 3 7) .internal).timebase.selector = .ready .crystal 3 7
      ∧ (candidate (.ready .crystal 3 7) .internal).owed.seconds = 0
      ∧ (after (.secondEvent { matchFirst := 0, restFirst := 0 }) s).bind (fun t => t.table[(0 : EntryIx)].map fun e => e.phase.ownsZones)
          = some true := by
  unfold State.ownerLaw
  decide
theorem test_met_SecondEventCounts_reached :
    let t := after (.runCompleted 0) (live (owning (entry plain (.running (run 1)))))
    t.map (fun s => (s.takesArrivals, s.uncounted 0, s.owed.underway.group.walk)) = some (true, false, true) := by decide
theorem test_met_CalendarMatchTriggers :
    let d := { plain with kind := .calendar }
    let s := { live (one (entry d .armed)) with timeValid := true }
    s.isLive = true ∧ s.timeValid = true ∧ s.table[(0 : EntryIx)] = some (entry d .armed)
      ∧ d.calendarMatch.matchesTime s.calendar.advance = true ∧ d.permitHolds s.levels = true
      ∧ ({ gated with kind := .calendar } : Definition).permitHolds s.levels = false := by decide
/-- A CALENDAR definition that every second matches. -/
def everySecond : Definition := { plain with kind := .calendar }

/-- That entry alone in LIVE under a valid time, owning Z0 where its phase owns. -/
def matched (e : Entry) : State := { live (if e.phase.ownsZones then owning e else one e) with timeValid := true }

theorem test_met_CalendarMatchTriggers_runs :
    let ignores := entry everySecond (.running (run 5))
    let ends := entry everySecond (.running (run 1))
    let restarts := entry { everySecond with retrigger := .restart } (.paused (run 1))
    (matched ignores).uncounted 0 = true ∧ ignores.secondEnds = none ∧ ignores.defn.retrigger = .ignore
      ∧ (matched ends).uncounted 0 = true ∧ ends.secondEnds = some .completed ∧ everySecond.nextPhase .completed = .armed
      ∧ (matched ends).followLinks 0 .completed = [] ∧ restarts.phase = .paused (run 1) ∧ (matched restarts).uncounted 0 = true := by decide
theorem test_met_CalendarMatchTriggers_next :
    let d := { everySecond with rep := .once, confirm := .required }
    d.nextPhase .completed = .confirming ∧ ({ everySecond with rep := .once } : Definition).nextPhase .completed = .spent
      ∧ ({ gated with kind := .calendar } : Definition).nextPhase .completed = .armed := by decide
theorem test_met_CalendarMatchTriggers_waits :
    let e := entry { everySecond with waitLimit := 1 } (.due { freshWait with seconds := 59 })
    (matched e).uncounted 0 = true ∧ e.secondEnds = some .skipped ∧ everySecond.nextPhase .skipped = .armed
      ∧ (entry everySecond (.due freshWait)).secondEnds = none
      ∧ ({ matched e with owed := { Owed.nothing with underway := { Underway.nothing with entries := 1 } } } : State).uncounted 0 = false := by
  decide
theorem test_met_CalendarMatchTriggers_law : (matched (entry everySecond (.running (run 1)))).ownerLaw := by
  unfold State.ownerLaw
  decide
theorem test_met_RestRows :
    let s := State.reset.putZone 15 (.resting 1)
    s.takesArrivals = true ∧ s.owed.underway.zones.getLsbD (15 : ZoneIx).val = false ∧ s.zones[(15 : ZoneIx)].rest = some 1
      ∧ (Zone.manualOff (some 1)).rest = some 1 ∧ (Zone.ownedOff 0 (some 1)).rest = some 1 := by decide
theorem test_met_RestRows_ownedOff :
    let s := (live (one (entry plain (.running (run 5))))).putZone 0 (.ownedOff 0 (some 1))
    s.takesArrivals = true ∧ s.zones[(0 : ZoneIx)] = .ownedOff 0 (some 1) ∧ s.ownerLaw ∧ plain.kind ≠ .calendar
      ∧ (entry plain (.running (run 5))).secondEnds = none ∧ slotRunning s.table[(0 : EntryIx)] = true := by
  unfold State.ownerLaw
  decide
theorem test_met_HeldEngineTakesNothing : heldPart.engine.held = true ∧ heldPart.heldLaw := by
  unfold State.heldLaw
  decide
theorem test_met_HeldEngineTakesNothing_step : heldPart.heldLaw ∧ step { heldPart with pending := [.grantWalk] } = .next heldPart :=
  ⟨test_met_HeldEngineTakesNothing.2, by rfl⟩
theorem test_met_CountEndRows_completed :
    let s := live (owning (entry plain (.running (run 1))))
    s.takesArrivals = true ∧ s.uncounted 0 = true ∧ (entry plain (.running (run 1))).secondEnds = some .completed := by decide
theorem test_met_CountEndRows_wait :
    let e := entry { plain with waitLimit := 1 } (.due { freshWait with seconds := 59 })
    (live (one e)).uncounted 0 = true ∧ e.secondEnds = some .skipped ∧ e.phase.isActive = true ∧ e.phase.ownsZones = false := by
  decide
theorem test_met_CountEndRows_pulse :
    let e := entry { plain with unit := .pulses } (.running (run 1))
    let s := { live (owning e) with owed := { Owed.nothing with pulses := [{ sensor := 0, reached := 0 }] } }
    s.takesArrivals = true ∧ s.table[(0 : EntryIx)] = some e ∧ e.secondEnds ≠ some .completed
      ∧ s.owed.pulses = [{ sensor := plain.pulseSource, reached := 0 }] ∧ (0 : EntrySet).getLsbD (0 : EntryIx).val = false := by decide

/-- A DUE entry in LIVE with a walk to come. -/
def due (d : Definition) (w : WaitState) : State :=
  { live (one (entry d (.due w))) with owed := { Owed.nothing with walks := 1 } }

theorem test_met_GrantWalkGrants :
    let s := due plain freshWait
    s.takesArrivals = true ∧ 0 < s.owed.walks ∧ s.selection = [0] ∧ s.table[(0 : EntryIx)] = some (entry plain (.due freshWait))
      ∧ s.grantable (entry plain (.due freshWait)) = true := by decide
theorem test_met_GrantWalkGrants_laws : (due plain freshWait).turnLaw ∧ (due plain freshWait).ownerLaw := by
  unfold State.turnLaw State.ownerLaw
  decide

/-- A DUE entry of priority 7 in slot 1 whose zone is MANUAL_ON, ahead of one in slot 0 that asks for Z0. -/
def skipping : State :=
  { (due plain freshWait).putEntry 1 (some (entry { plain with priority := 7, claim := 2 } (.due freshWait))) with
    turn := [0, 1], zones := allFree.set 1 .manualOn }

theorem test_met_GrantWalkGrants_skipAhead :
    let e := entry { plain with priority := 7, claim := 2 } (.due freshWait)
    skipping.takesArrivals = true ∧ 0 < skipping.owed.walks ∧ skipping.selection = [1] ++ 0 :: []
      ∧ skipping.table[(1 : EntryIx)] = some e ∧ skipping.grantable e = false ∧ skipping.mayPreempt e = false
      ∧ skipping.grantable (entry plain (.due freshWait)) = true := by decide
theorem test_met_GrantWalkGrants_skipAhead_laws : skipping.turnLaw ∧ skipping.ownerLaw := by
  unfold State.turnLaw State.ownerLaw
  decide

/-- A preemptor of priority 7 in slot 1 beside a RUNNING entry of priority 3 that owns its zone. -/
def contested : State :=
  { live ((owning (entry plain (.running (run 5)))).putEntry 1 (some (entry { plain with priority := 7, preempt := true }
      (.due freshWait)))) with turn := [0, 1], owed := { Owed.nothing with walks := 1 } }

theorem test_met_GrantWalkPreempts :
    let e := entry { plain with priority := 7, preempt := true } (.due freshWait)
    contested.takesArrivals = true ∧ 0 < contested.owed.walks ∧ contested.selection = [1]
      ∧ contested.table[(1 : EntryIx)] = some e ∧ contested.grantable e = false ∧ contested.mayPreempt e = true
      ∧ contested.victims e = [0] := by decide
theorem test_met_GrantWalkPreempts_law : contested.ownerLaw := by
  unfold State.ownerLaw
  decide
theorem test_met_GrantWalkPreempts_passedOver :
    let blocked := entry { plain with priority := 7, claim := 2 } (.due freshWait)
    let s := { contested.putEntry 2 (some blocked) with turn := [2, 0, 1], zones := contested.zones.set 1 .manualOn }
    s.selection = [2] ++ 1 :: [] ∧ s.grantable blocked = false ∧ s.mayPreempt blocked = false
      ∧ s.mayPreempt (entry { plain with priority := 7, preempt := true } (.due freshWait)) = true ∧ s.ownerLaw := by
  unfold State.ownerLaw
  decide

/-! ### Chapter 5 -/

theorem test_met_TriggerArrivalRows :
    let s := { live (one (entry level .armed)) with owed := { Owed.nothing with triggers := [{ entry := 0, levels := 0 }] } }
    s.isLive = true ∧ s.owed.triggers.find? (fun y => y.entry == 0) = some { entry := 0, levels := 0 }
      ∧ level.permitHolds 0 = true := by decide
theorem test_met_TriggerArrivalRows_follow :
    let d := { plain with kind := .follow }
    let s := linked 0 0 (live (one (entry d .armed)))
    s.isLive = true ∧ s.links = [{ source := 0, follower := 0 }] ∧ s.linkOnItsWay { source := 0, follower := 0 } = true
      ∧ d.permitHolds s.levels = true := by decide
theorem test_met_TriggerArrivalRows_running :
    let s := { live (owning (entry level (.running (run 5)))) with
      owed := { Owed.nothing with triggers := [{ entry := 0, levels := 0 }] } }
    s.isLive = true ∧ s.owed.triggers.find? (fun y => y.entry == 0) = some { entry := 0, levels := 0 }
      ∧ level.pattern.sense = .level ∧ (Phase.running (run 5)).ownsZones = true := by decide
theorem test_met_TriggerArrivalRows_groups :
    let l : FollowLink := { source := 0, follower := 1 }
    let m : FollowLink := { source := 0, follower := 2 }
    let g : FollowGroup := { walk := true, events := [l, m] }
    let s := { live (follower 0 1 (one (entry plain .armed))) with owed := { Owed.nothing with follows := [g] } }
    let u := { s with owed := { Owed.nothing with underway := { Underway.nothing with group := g } } }
    s.linkOnItsWay l = true ∧ g.events ≠ [l] ∧ s.owed.follows = [] ++ g :: [] ∧ l ∉ s.owed.underway.group.events
      ∧ u.linkOnItsWay l = true ∧ l ∈ u.owed.underway.group.events := by decide
theorem test_met_PermitRows :
    let s := { live (owning (entry gated (.running (run 5)))) with
      owed := { Owed.nothing with transitions := [{ entry := 0, value := false }] } }
    s.table[(0 : EntryIx)] = some (entry gated (.running (run 5)))
      ∧ s.owed.transitions.find? (fun y => y.entry == 0) = some { entry := 0, value := false } ∧ gated.hasPermit = true
      ∧ plain.hasPermit = false ∧ gated.permitMode = .gate ∧ ({ gated with permitMode := .abort } : Definition).hasPermit = true := by decide
theorem test_met_PulseEdgeRow :
    let s := { live (owning (entry { plain with unit := .pulses } (.running (run 1)))) with
      owed := { Owed.nothing with pulses := [{ sensor := 0, reached := 0 }] } }
    s.owed.pulses.find? (fun y => y.sensor == 0) = some { sensor := 0, reached := 0 } := by decide
theorem test_met_SignalCommandRows :
    (cmd 0x40 [1, 1] State.reset).inProgress 0x40 = true ∧ (cmd 0x41 [255] State.reset).inProgress 0x41 = true := by decide
theorem test_met_ChangeEventDelivers :
    let s := cmd 0x40 [1, 1] (live (one (entry level .armed)))
    s.inProgress 0x40 = true ∧ s.takesArrivals = true ∧ s.isLive = true
      ∧ (after .setFlags s).map (fun t => s.levels ^^^ t.levels) = some 256 := by decide

/-- A sensor whose filter period runs. -/
def filtering : Sensor := { pin := true, accepted := false, latch := false, filter := some { candidate := true, held := 0 } }

theorem test_met_ChangeEventDelivers_patterns :
    gated.pattern.combine = .all ∧ ({ gated.pattern with combine := .any } : Pattern).combine = .any
      ∧ gated.pattern.satisfied 1 0 = true ∧ gated.pattern.satisfied 0 1 = false
      ∧ (patternOf true .edge .fall).satisfied 0 1 = true ∧ (patternOf true .edge .fall).satisfied 1 1 = false := by decide
theorem test_met_ChangeEventDelivers_rows :
    (cmd 0x41 [255] State.reset).inProgress 0x41 = true ∧ State.reset.watchesPins = true
      ∧ (State.reset.putSensor 0 filtering).sensors[(0 : SensorIx)].filter.isSome = true
      ∧ firstBad (configChecks (cmd 0x50 [16] State.reset).input) = none
      ∧ heldPart.powered = true ∧ heldPart.supply.condition = .main ∧ (wakeEvents []).length = 9 := by decide

theorem test_met_SensorRows :
    State.reset.watchesPins = true ∧ State.reset.filterTime 0 = 0
      ∧ (true ^^ State.reset.settings.sensorPolarity.getLsbD (0 : SensorIx).val) ≠ State.reset.sensors[(0 : SensorIx)].accepted
      ∧ ({ State.reset with site := { config := { SiteConfig.cold with filterCodes := 1 }, valid := true, lock := true } } :
          State).filterTime 0 ≠ 0
      ∧ (State.reset.putSensor 0 filtering).sensors[(0 : SensorIx)].filter.isSome = true := by decide
theorem test_met_SensorRows_waiting :
    (State.reset.putSensor 0 filtering).waiting = [.sensorAcceptance 0] ∧ State.reset.filterTime 0 = 0 ∧ (backup .live State.reset).watchesPins = false := by decide

/-! ### Chapters 7 and 8 -/

theorem test_met_SetZonesRow :
    let s := cmd 0x48 [1, 0, 0, 0, 1, 0] (live State.reset)
    s.inProgress 0x48 = true ∧ s.zoneMask.getLsbD (0 : ZoneIx).val = true ∧ s.zoneModeCode 0 = 1
      ∧ engagedCount s.zonesAsked ≤ s.budget ∧ (cmd 0x48 [1, 0, 0, 0, 1, 0] State.reset).budget < engagedCount s.zonesAsked
      ∧ (cmd 0x48 [0, 0, 0, 0xC0, 0, 0x80] State.reset).zoneModeCode 15 = 3
      ∧ (Zone.resting 1).rest.isSome = true ∧ (Zone.ownedOn 0).owner.isSome = true := by decide
theorem test_met_ConfigureRow :
    let good := cmd 0x50 [16, 4] State.reset
    good.inProgress 0x50 = true ∧ good.engine.mode ≠ .live ∧ good.site.lock = false ∧ good.input 0 = 16 ∧ good.input 1 = 4
      ∧ (cmd 0x50 [17] State.reset).input 0 = 17 ∧ (cmd 0x50 [1, 5] State.reset).input 1 = 5
      ∧ (cmd 0x50 [1, 0, 61] State.reset).input (2 + (0 : ZoneIx).val) = 61
      ∧ (live State.reset).engine.mode = .live ∧ (live State.reset).site.lock = true := by decide
theorem test_met_EngineModeRows :
    let s := cmd 0x52 [] { live (one (entry level .armed)) with engine := State.reset.engine }
    s.inProgress 0x52 = true ∧ s.engine.mode ≠ .live ∧ s.site.valid = true ∧ s.takesArrivals = true
      ∧ (cmd 0x53 [] (live State.reset)).inProgress 0x53 = true ∧ (cmd 0x52 [] State.reset).site.valid = false := by decide
theorem test_met_EngineModeRows_startUnderway :
    let s := cmd 0x52 [] (({ live State.reset with engine := State.reset.engine } : State).endRest 3)
    s.inProgress 0x52 = true ∧ s.engine.mode ≠ .live ∧ s.site.valid = true ∧ s.takesArrivals = true
      ∧ s.owed.underway ≠ Underway.nothing := by decide
theorem test_met_EngineModeRows_suspend :
    let s := cmd 0x53 [] (linked 0 1 (live (follower 0 1 (one (entry plain .armed)))))
    s.inProgress 0x53 = true ∧ s.engine.mode = .live ∧ s.links ≠ [] ∧ s.settleEnds.links = []
      ∧ s.owed.underway = Underway.nothing ∧ (live State.reset).links = [] ∧ (live State.reset).owed.walks = 0
      ∧ ((live State.reset).oweWalks 1).owed.walks = 1 := by decide
theorem test_met_EngineModeRows_suspendUnderway :
    let t := after (.runCompleted 0) (cmd 0x53 [] (live (owning (entry plain (.running (run 1))))))
    t.map (fun s => (s.inProgress 0x53, s.isLive, s.powered, decide (s.owed.underway = Underway.nothing)))
      = some (true, true, true, false) := by decide
theorem test_met_SupplyRows :
    State.reset.powered = true ∧ State.reset.supply.condition = .main
      ∧ (backup .live State.reset).supply.condition = .battery := by decide
theorem test_met_SupplyRows_sources :
    (candidate .steady .mains60).timebase.active.isMains = true
      ∧ (candidate (.ready .internal 3 0) .crystal).timebase.selector.candidate = some .internal
      ∧ (candidate (.ready .internal 3 0) .mains50).timebase.active.isMains = true
      ∧ (candidate (.ready .mains50 3 0) .internal).timebase.selector.candidate = some .mains50 := by decide
theorem test_met_ReturnRow :
    (backup .live State.reset).powered = true ∧ (backup .live State.reset).supply.condition = .battery
      ∧ (backup .live State.reset).pins.reset = false ∧ (backup .live State.reset).engine.held = false
      ∧ (backup .live State.reset).engine.remembered = .live := by decide
theorem test_met_ReturnRow_held :
    let s := { backup .live State.reset with engine := { (backup .live State.reset).engine with held := true } }
    s.supply.condition = .battery ∧ s.pins.reset = false ∧ s.engine.held = true
      ∧ ({ s with pins := { s.pins with reset := true } } : State).pins.reset = true
      ∧ State.reset.watchesPins = true ∧ State.reset.takesArrivals = true ∧ heldPart.takesArrivals = false := by decide
theorem test_met_ResetLineRows :
    State.reset.powered = true ∧ State.reset.engine.held = false ∧ State.reset.supply.condition = .main
      ∧ State.reset.hold.engine.held = true ∧ State.reset.hold.powered = true := by decide
theorem test_met_ResetLineRows_outputs :
    (owning (entry plain (.running (run 5)))).zones[(0 : ZoneIx)] = .ownedOn 0
      ∧ (owning (entry plain (.running (run 5)))).zoneOutput 0 = .high ∧ State.reset.zoneOutput 0 = .low
      ∧ (backup .live State.reset).zoneOutput 0 = .highImpedance := by decide

/-! ### Chapters 9 and 10 -/

theorem test_met_NextNoticeRow :
    (cmd 0x60 [] State.reset).inProgress 0x60 = true ∧ (cmd 0x60 [] State.reset).device ≠ 0
      ∧ ({ entry plain .armed with pending := 1 } : Entry).pending ≠ 0 := by decide
theorem test_met_BusWriteRows :
    let s := State.reset.enterPhase .writing
    s.bufferLaw ∧ s.busHeard = true ∧ s.iface.phase = .writing ∧ s.iface.pointer.val < 0x30
      ∧ (backup .live State.reset).busHeard = false := by
  unfold State.bufferLaw
  decide
theorem test_met_BusReadAndConditionRows :
    (State.reset.enterPhase .reading).busHeard = true ∧ (State.reset.enterPhase .reading).iface.phase = .reading := by decide

theorem test_met_Bus_ignored :
    (backup .live State.reset).busHeard = false ∧ (State.reset.enterPhase .closed).iface.phase = .closed
      ∧ (State.reset.enterPhase .ignored).iface.phase = .ignored := by decide
theorem test_met_FindReturnsMatches_shown :
    (cmd 0x13 (findResult 5 (some 2)) State.reset).shows (findResult 5 (some 2)) := by
  unfold State.shows
  decide

/-- The counts that the statements spell out: a claim of two zones, one engaged zone, and the groups that are pending. -/
theorem test_met_counts :
    setSize (5 : BitVec 16) = 2 ∧ (∀ z : ZoneIx, z ∈ [(0 : ZoneIx), 2] ↔ (5 : BitVec 16).getLsbD z.val = true)
      ∧ (State.reset.putZone 3 .manualOn).engaged = 1
      ∧ (∀ z : ZoneIx, z ∈ [(3 : ZoneIx)] ↔ (State.reset.putZone 3 .manualOn).zones[z].engaged = true)
      ∧ State.reset.device ≠ 0 ∧ (∀ n : EntryIx, State.reset.table[n] = none) ∧ State.reset.pendingGroups = 1
      ∧ (one { entry plain .armed with pending := 1 }).pendingGroups = 2 := by
  decide

/-! ### The laws -/

/-- A step from reset: a walk that finds nothing. -/
def stepped : State := { State.reset with pending := [.grantWalk] }

theorem test_met_laws_step : step stepped = .next State.reset := by rfl
theorem test_met_laws_entries (n : EntryIx) (e : Entry) : stepped.table[n] ≠ some e := by
  simp [stepped, State.reset]
theorem test_met_TableLawsKept : stepped.turnLaw ∧ stepped.linkLaw :=
  ⟨by unfold State.turnLaw; decide, fun n e h => absurd h (test_met_laws_entries n e)⟩
theorem test_met_EntryLawsKept : stepped.modeLaw ∧ stepped.counterLaw ∧ stepped.supplyLaw :=
  ⟨fun _ n e h => absurd h (test_met_laws_entries n e), fun n e h => absurd h (test_met_laws_entries n e), by unfold State.supplyLaw; decide⟩
theorem test_met_ZoneLawsKept : stepped.budgetLaw ∧ stepped.ownerLaw ∧ stepped.energyLaw ∧ stepped.darkLaw := by
  unfold State.budgetLaw State.ownerLaw State.energyLaw State.darkLaw
  decide
theorem test_met_DeviceLawsKept :
    stepped.calendarLaw ∧ stepped.boundaryLaw ∧ stepped.bufferLaw ∧ stepped.crystalLaw ∧ stepped.candidateLaw
      ∧ stepped.prescalerLaw := by
  unfold State.calendarLaw State.boundaryLaw State.bufferLaw State.crystalLaw State.candidateLaw State.prescalerLaw
  decide
/-- A step at which the active source changes: CLOCK_SWITCH at the front of the queue. -/
theorem test_met_DeviceLawsKept_switch :
    let s := { candidate (.ready .crystal 3 0) .internal with pending := [.clockSwitch] }
    (after .clockSwitch s).map (fun t => (t.timebase.active, decide (t.device &&& noticeClockSwitched ≠ 0)))
      = some (.crystal, true) := by decide

/-! ### Rows run once -/

theorem test_load_ok : answer .load (cmd 0x10 (recordOf 0 plain) State.reset) = some (.ok, 0) := by decide
theorem test_load_level_is_due :
    phaseAfter .load (cmd 0x10 (recordOf 0 level) (live State.reset)) 0 = some (.due freshWait) := by decide
theorem test_retire_empty : answer .retire (cmd 0x14 [3] State.reset) = some (.emptySlot, 0) := by decide
theorem test_start_suspended : answer .start (cmd 0x23 [0] (one (entry plain .armed))) = some (.engineNotLive, 0) := by decide
theorem test_start_live : phaseAfter .start (cmd 0x23 [0] (live (one (entry plain .armed)))) 0 = some (.due freshWait) := by decide
theorem test_grant_runs : phaseAfter .grantWalk (due plain freshWait) 0 = some (.running (run 5)) := by decide
theorem test_grant_owns : (after .grantWalk (due plain freshWait)).map (fun t => t.zones[(0 : ZoneIx)]) = some (.ownedOn 0) := by decide
theorem test_preempt_victim :
    phaseAfter .grantWalk contested 0 = some (.due { remaining := some 5, elapsed := 0, seconds := 0 }) := by decide
theorem test_second_completes :
    phaseAfter (.secondEvent { matchFirst := 0, restFirst := 0 }) (live (owning (entry plain (.running (run 1))))) 0 = some .armed := by
  decide
theorem test_second_rests :
    (after (.secondEvent { matchFirst := 0, restFirst := 0 }) (live (owning (entry plain (.running (run 1)))))).map
      (fun t => t.zones[(0 : ZoneIx)]) = some (.resting 4) := by decide
theorem test_permit_false_pauses :
    (after (.permitFalse 0) { live (owning (entry gated (.running (run 5)))) with
      owed := { Owed.nothing with transitions := [{ entry := 0, value := false }] } }).map
      (fun t => t.zones[(0 : ZoneIx)]) = some (.ownedOff 0 (some 4)) := by decide
theorem test_unknown_command : answer .unknownCommand (cmd 0xFF [] State.reset) = some (.unknownCommand, 0xFF) := by decide
theorem test_configure_budget : answer .configure (cmd 0x50 [0] State.reset) = some (.invalidField, 0) := by decide
theorem test_engine_start_unconfigured : answer .engineStart (cmd 0x52 [] State.reset) = some (.noConfig, 0) := by decide
theorem test_next_notice_cold : (after .nextNotice (cmd 0x60 [] State.reset)).map (fun t => (t.device, t.intLow)) = some (0, false) := by
  decide
theorem test_backup_interrupts :
    phaseAfter .entryToBackup (live (owning (entry { plain with rep := .once } (.running (run 5))))) 0 = some .armed := by decide
theorem test_feb_30_refused : answer .setTime (cmd 0x30 [0, 0, 0, 30, 2, 28] State.reset) = some (.invalidField, 3) := by decide
theorem test_set_zones_over_budget : answer .setZones (cmd 0x48 [1, 0, 0, 0, 1, 0] State.reset) = some (.overBudget, 1) := by decide
theorem test_release_drops_follow_event :
    (after .release (cmd 0x21 [1] (linked 0 1 (live ((one (entry plain .armed)).putEntry 1
      (some (entry { plain with kind := .follow, source := 0 } .held))))))).map (fun t => t.links) = some [] := by decide
theorem test_suspend_stops_follower :
    (after .engineSuspend (cmd 0x53 [] (linked 0 1 (live (follower 0 1 (one (entry plain .armed))))))).bind
      (fun t => t.table[(1 : EntryIx)].map fun e => e.lastOutcome) = some (some .stopped) := by decide
theorem test_self_event_before_stop :
    (after .stop (cmd 0x24 [0] (linked 0 0 (live (follower 0 0 State.reset))))).map (fun t => t.iface.result) = some .ok := by decide
theorem test_trigger_after_start_overlaps :
    let s := { live (one (entry level (.due freshWait))) with owed := { Owed.nothing with triggers := [{ entry := 0, levels := 0 }] } }
    (after (.patternTrigger 0) s).bind (fun t => t.table[(0 : EntryIx)].map fun e => e.pending) = some Category.overlap.bit := by decide
theorem test_match_restarts_before_count :
    phaseAfter (.secondEvent { matchFirst := 1, restFirst := 0 })
      (matched (entry { everySecond with retrigger := .restart } (.running (run 1)))) 0 = some (.running (run 4)) := by decide
theorem test_match_after_count_finds_armed :
    phaseAfter (.secondEvent { matchFirst := 0, restFirst := 0 })
      (matched (entry { everySecond with retrigger := .restart } (.running (run 1)))) 0 = some (.due freshWait) := by decide
theorem test_definition_bytes :
    ((Definition.ofRecord (cmd 0x10 (recordOf 0 level) State.reset).input).bytes == level.bytes) = true := by decide
theorem test_early_rest_is_marked :
    (after (.runCompleted 0) (live (owning (entry plain (.running (run 1)))))).map (fun t => t.owed.underway.zones) = some 1 := by decide
theorem test_configure_shows_no_flags :
    (after .configure (cmd 0x50 [16] State.reset)).map (fun t => t.iface.buffer.read 0x18) = some 0 := by decide

end Sys2Proof.Tests
end

section
/-! The schedule table: what FETCH and FIND show and answer (R18, R19, R164 to R167). First the rules about bytes, sets, shown records and
completions that they share. -/

namespace Sys2Proof.Machine

/-! ### Bytes and sets -/

@[simp] theorem byteOf_toNat (n : Nat) : (byteOf n).toNat = n % 256 := BitVec.toNat_ofNat n 8

/-- The bits of a number's byte are its low eight bits. -/
theorem testBit_byteOf (n i : Nat) : (byteOf n).toNat.testBit i = (decide (i < 8) && n.testBit i) := by
  rw [BitVec.testBit_toNat, byteOf, BitVec.getLsbD_ofNat]

/-- Byte `k` of a quantity holds its bits from `8 * k` on. -/
theorem testBit_byteAt (n k i : Nat) : (byteAt n k).toNat.testBit i = (decide (i < 8) && n.testBit (8 * k + i)) := by
  rw [BitVec.testBit_toNat, byteAt, BitVec.getLsbD_ofNat, Nat.testBit_shiftRight]

/-- A two-byte field holds a quantity up to 65535. -/
theorem byteAt_zero_add_byteAt_one (n : Nat) : (byteAt n 0).toNat + 256 * (byteAt n 1).toNat = n % 65536 := by
  simp only [byteAt, BitVec.toNat_ofNat, Nat.shiftRight_eq_div_pow]
  omega

/-- Bit `i` of a set tells whether the property holds of member `i`. -/
theorem getLsbD_bitsOf (n : Nat) (p : Nat → Bool) (i : Nat) : (bitsOf n p).getLsbD i = (decide (i < n) && p i) := by
  induction n with
  | zero => simp [bitsOf]
  | succ n ih =>
    rw [bitsOf, BitVec.getLsbD_cons, ih]
    rcases Nat.lt_trichotomy i n with h | rfl | h
    · simp [h.ne, h, Nat.lt_succ_of_lt h]
    · simp
    · simp [h.ne', Nat.not_lt.mpr h.le, show ¬ i < n + 1 by omega]

/-- The entries of a set are those of the occupied slots of which the property holds. -/
theorem State.getLsbD_entriesWhere (s : State) (p : Entry → Bool) (m : EntryIx) :
    (s.entriesWhere p).getLsbD m.val = true ↔ ∃ e, s.table[m] = some e ∧ p e = true := by
  rw [State.entriesWhere, getLsbD_bitsOf]
  cases h : s.table[m] <;> simp_all

/-! ### Completions and what the buffer then shows -/

theorem State.complete_completes (s : State) (r : ResultCode) (d : Byte) (o : Option (List Byte)) :
    s.completes (s.complete r d o) r d := by
  rw [State.completes, State.complete_iface]

theorem State.complete_shows (s : State) (r : ResultCode) (d : Byte) (bytes : List Byte) :
    (s.complete r d (some bytes)).shows bytes := State.complete_reads s r d bytes

/-- A completion changes the interface alone. -/
theorem State.complete_frame (s : State) (r : ResultCode) (d : Byte) (o : Option (List Byte)) :
    s.complete r d o = { s with iface := (s.complete r d o).iface } := by delta State.complete; rfl

/-- A refusal changes the interface alone. -/
theorem State.refuse_frame (s : State) (r : ResultCode) (d : Byte) :
    s.refuse r d = { s with iface := (s.refuse r d).iface } := s.complete_frame r d none

theorem State.refuse_refuses (s : State) (r : ResultCode) (d : Byte) : s.refuses (s.refuse r d) r d :=
  ⟨s.complete_completes r d none, by rw [State.refuse, State.complete_iface]; rfl, s.refuse_frame r d⟩

theorem State.byte_of_shows {t : State} {bytes : List Byte} (h : t.shows bytes) {a : Nat} (ha : a < 48) :
    t.byte a = (bytes.getD a 0).toNat := by rw [State.byte, h a ha]

/-- Beyond a record every byte of the buffer is 0 (R165). -/
theorem State.byte_beyond {t : State} {bytes : List Byte} (h : t.shows bytes) {a : Nat} (hl : bytes.length ≤ a) (ha : a < 48) :
    t.byte a = 0 := by
  rw [State.byte_of_shows h ha, List.getD_eq_default _ _ hl]; rfl

/-- An instruction has one next state. -/
theorem exec_next_unique {i : Instr} {s t u : State} (ht : exec i s = .next t) (hu : exec i s = .next u) : t = u :=
  Host.Outcome.next.inj (ht.symm.trans hu)

/-! ### The FIND result (R167, Table 3 of Chapter 11) -/

theorem length_findResult (set : EntrySet) (owner : Option EntryIx) : (findResult set owner).length = 7 := rfl

theorem findResult_getD_set (set : EntrySet) (owner : Option EntryIx) {k : Nat} (hk : k < 6) :
    (findResult set owner).getD k 0 = byteAt set.toNat k := by
  rw [findResult, List.getD_append _ _ _ _ (by simpa using hk)]
  simp [hk]

theorem findResult_getD_owner (set : EntrySet) (owner : Option EntryIx) :
    (findResult set owner).getD 6 0 = byteOf ((owner.map fun n => n.val).getD 0xFF) := rfl

/-- A FIND result in the buffer shows its set bit by bit and its owner. -/
theorem State.showsSet_of_shows {t : State} {set : EntrySet} {owner : Option EntryIx} (h : t.shows (findResult set owner)) :
    t.showsSet set owner := by
  refine ⟨fun n => ?_, ?_, fun k hlo hhi => State.byte_beyond h (by rw [length_findResult]; exact hlo) (by omega)⟩
  · rw [State.byte_of_shows h (by omega), findResult_getD_set set owner (by omega), testBit_byteAt, Nat.div_add_mod,
      BitVec.testBit_toNat]
    simp [Nat.mod_lt]
  · rw [State.byte_of_shows h (by decide), findResult_getD_owner, byteOf_toNat]
    cases owner with
    | none => rfl
    | some n => exact Nat.mod_eq_of_lt (n.isLt.trans (by decide))

/-! ### FIND by its selector (R19) -/

theorem exec_find (s : State) : exec .find s = execFind s := rfl

section
variable {s : State} (hs : s.inProgress 0x13 = true)
include hs

theorem exec_find_tag (h : s.input 0 = 0) :
    exec .find s = .next (s.complete .ok 0 (some (findResult (s.entriesWhere fun e => e.defn.tag == byteOf (s.input 1)) none))) := by
  rw [exec_find, execFind, onCompletion_taken _ _ s hs, h]; rfl

theorem exec_find_zone (z : ZoneIx) (h : s.input 0 = 1) (hz : s.input 1 = z.val) :
    exec .find s = .next (s.complete .ok 0
      (some (findResult (s.entriesWhere fun e => e.defn.claim.getLsbD z.val) s.zones[z].owner))) := by
  rw [exec_find, execFind, onCompletion_taken _ _ s hs, h, hz]
  simp only [State.findZone, z.isLt, dif_pos]
  rfl

theorem exec_find_zone_refused (h : s.input 0 = 1) (hz : 16 ≤ s.input 1) :
    exec .find s = .next (s.refuse .invalidField 1) := by
  rw [exec_find, execFind, onCompletion_taken _ _ s hs, h]
  simp only [State.findZone, dif_neg (Nat.not_lt.mpr hz)]
  rfl

theorem exec_find_state (h : s.input 0 = 2) (hc : 1 ≤ s.input 1 ∧ s.input 1 ≤ 7) :
    exec .find s = .next (s.complete .ok 0 (some (findResult (s.entriesWhere fun e => e.phase.code == s.input 1) none))) := by
  rw [exec_find, execFind, onCompletion_taken _ _ s hs, h]
  simp [hc, done]

theorem exec_find_state_refused (h : s.input 0 = 2) (hc : s.input 1 = 0 ∨ 8 ≤ s.input 1) :
    exec .find s = .next (s.refuse .invalidField 1) := by
  rw [exec_find, execFind, onCompletion_taken _ _ s hs, h]
  simp [show ¬ (1 ≤ s.input 1 ∧ s.input 1 ≤ 7) by omega, done]

theorem exec_find_refused (h : 3 ≤ s.input 0) : exec .find s = .next (s.refuse .invalidField 0) := by
  rw [exec_find, execFind, onCompletion_taken _ _ s hs]
  split
  case h_1 | h_2 | h_3 => omega
  case h_4 => rfl

/-- FIND changes the interface alone, whatever its selector. -/
theorem exec_find_frame : ∃ t, exec .find s = .next t ∧ t = { s with iface := t.iface } := by
  rcases (by omega : s.input 0 = 0 ∨ s.input 0 = 1 ∨ s.input 0 = 2 ∨ 3 ≤ s.input 0) with h | h | h | h
  · exact ⟨_, exec_find_tag hs h, s.complete_frame ..⟩
  · rcases Nat.lt_or_ge (s.input 1) 16 with hz | hz
    · exact ⟨_, exec_find_zone hs ⟨_, hz⟩ h rfl, s.complete_frame ..⟩
    · exact ⟨_, exec_find_zone_refused hs h hz, s.refuse_frame ..⟩
  · rcases (by omega : (1 ≤ s.input 1 ∧ s.input 1 ≤ 7) ∨ (s.input 1 = 0 ∨ 8 ≤ s.input 1)) with hc | hc
    · exact ⟨_, exec_find_state hs h hc, s.complete_frame ..⟩
    · exact ⟨_, exec_find_state_refused hs h hc, s.refuse_frame ..⟩
  · exact ⟨_, exec_find_refused hs h, s.refuse_frame ..⟩

end

/-- The ownership law puts the owner of a zone among the entries that claim the zone (R116). -/
theorem State.owner_claims {s : State} (law : s.ownerLaw) {n : EntryIx} {z : ZoneIx} (h : s.zones[z].owner = some n) :
    ∃ e, s.table[n] = some e ∧ e.defn.claim.getLsbD z.val = true := by
  have howns := (law n z).mp h
  cases ht : s.table[n] with
  | none => simp [ht, slotOwns] at howns
  | some e =>
    simp only [ht, slotOwns, Bool.and_eq_true] at howns
    exact ⟨e, rfl, howns.2⟩

/-- Settles O11: each selector has one row equation, and the set it answers is read off bit by bit. -/
theorem findReturnsMatches : Obligations.FindReturnsMatches := by
  refine ⟨fun p => by cases p <;> rfl, fun t set owner => State.showsSet_of_shows, fun s hs => ?_⟩
  obtain ⟨t, ht, hframe⟩ := exec_find_frame hs
  refine ⟨t, ht, hframe, fun p hp => ?_, fun z h hz => ?_, fun h hz => ?_, fun h hc => ?_, fun h => ?_⟩
  · have hanswer : t = s.complete .ok 0 (some (findResult (s.entriesWhere p) none)) := by
      rcases hp with ⟨h, rfl⟩ | ⟨h, hc, rfl⟩
      · exact exec_next_unique ht (exec_find_tag hs h)
      · exact exec_next_unique ht (exec_find_state hs h hc)
    subst hanswer
    exact ⟨s.complete_completes .., _, s.complete_shows _ _ _, s.getLsbD_entriesWhere p⟩
  · obtain rfl := exec_next_unique ht (exec_find_zone hs z h hz)
    exact ⟨s.complete_completes .., _, s.complete_shows _ _ _, s.getLsbD_entriesWhere _,
      fun law n howner => (s.getLsbD_entriesWhere _ n).mpr (State.owner_claims law howner)⟩
  · obtain rfl := exec_next_unique ht (exec_find_zone_refused hs h hz)
    exact s.refuse_refuses ..
  · obtain rfl := exec_next_unique ht (exec_find_state_refused hs h hc)
    exact s.refuse_refuses ..
  · obtain rfl := exec_next_unique ht (exec_find_refused hs h)
    exact s.refuse_refuses ..

end Sys2Proof.Machine
end

section
/-! The entry record (R166, Table 2 of Chapter 11) byte by byte, and FETCH (R18). -/

namespace Sys2Proof.Machine

/-! ### The presence flags -/

theorem bitAt_eq (b : Bool) (k : Nat) : bitAt b k = 2 ^ k * b.toNat := by cases b <;> simp [bitAt]

/-- Bit `k` of a number given by its bits, the lowest first, is the one at `k`. -/
theorem testBit_foldr_bit (l : List Bool) (k : Nat) : (l.foldr Nat.bit 0).testBit k = l.getD k false := by
  induction l generalizing k with
  | nil => simp
  | cons b l ih =>
    cases k with
    | zero => exact Nat.testBit_bit_zero b _
    | succ k => rw [List.foldr_cons, Nat.testBit_bit_succ, ih, List.getD_cons_succ]

/-- Table 2 of Chapter 11, offset 0x2C: the eight presence flags from bit 0 on. -/
def Entry.flags (e : Entry) : List Bool :=
  [ e.phase.run.isSome, (e.phase.run.bind fun r => r.subMinute).isSome, (e.phase.wait.bind fun w => w.remaining).isSome
  , e.phase.wait.isSome, (e.phase.run.bind fun r => r.capCount).isSome, e.lastOutcome.isSome, e.lastStart.isSome
  , e.snapshot.isSome ]

theorem Entry.presence_eq_flags (e : Entry) : e.presence = e.flags.foldr Nat.bit 0 := by
  simp only [Entry.presence, Entry.flags, bitAt_eq, List.foldr_cons, List.foldr_nil, Nat.bit_val]
  omega

/-! ### The bytes of the record -/

/-- R165: one byte of a last start stamp. -/
def stampByte (stamp : Option Calendar) (field : Calendar → Nat) : Byte := (stamp.map fun c => byteOf (field c)).getD 0xFF

theorem stampBytes_eq (stamp : Option Calendar) :
    stampBytes stamp = [stampByte stamp Calendar.second, stampByte stamp Calendar.minute, stampByte stamp Calendar.hour,
      stampByte stamp Calendar.date, stampByte stamp Calendar.month, stampByte stamp Calendar.year] := by
  cases stamp <;> rfl

/-- Table 2 of Chapter 11: the bytes from offset 0x1C on, which hold the status part. -/
def State.statusBytes (s : State) (n : EntryIx) (e : Entry) : List Byte :=
  [ byteAt e.phase.counterField 0, byteAt e.phase.counterField 1
  , byteOf ((e.phase.wait.map fun w => w.elapsed).getD 0)
  , byteOf (((e.phase.run.bind fun r => r.capCount).map fun c => c.elapsed).getD 0)
  , byteOf ((e.phase.run.bind fun r => r.subMinute).getD 0)
  , byteOf ((e.lastOutcome.map fun o => o.code).getD 0)
  , stampByte e.lastStart Calendar.second, stampByte e.lastStart Calendar.minute, stampByte e.lastStart Calendar.hour
  , stampByte e.lastStart Calendar.date, stampByte e.lastStart Calendar.month, stampByte e.lastStart Calendar.year
  , byteAt (e.snapshot.getD 0).toNat 0, byteAt (e.snapshot.getD 0).toNat 1
  , byteOf e.pending.toNat, byteOf (s.turnPosition n), byteOf e.presence ]

theorem Definition.length_bytes (d : Definition) : d.bytes.length = 26 := by simp [Definition.bytes]

section
variable {s : State} {n : EntryIx} {e : Entry} (h : s.table[n] = some e)
include h

/-- The image of an occupied slot: index and state, definition part, status part. -/
theorem State.entryImage_occupied :
    s.entryImage n = byteOf n.val :: byteOf e.phase.code :: (e.defn.bytes ++ s.statusBytes n e) := by
  simp [State.entryImage, h, stampBytes_eq, State.statusBytes]

theorem State.entryImage_getD_definition {k : Nat} (hlo : 0x02 ≤ k) (hhi : k ≤ 0x1B) :
    (s.entryImage n).getD k 0 = e.defn.bytes.getD (k - 2) 0 := by
  obtain ⟨j, rfl⟩ := Nat.exists_eq_add_of_le' hlo
  rw [State.entryImage_occupied h, List.getD_cons_succ, List.getD_cons_succ,
    List.getD_append _ _ _ _ (by rw [Definition.length_bytes]; omega)]
  rfl

theorem State.entryImage_getD_status (j : Nat) : (s.entryImage n).getD (0x1C + j) 0 = (s.statusBytes n e).getD j 0 := by
  rw [State.entryImage_occupied h, show 0x1C + j = 26 + j + 1 + 1 by omega, List.getD_cons_succ, List.getD_cons_succ,
    List.getD_append_right _ _ _ _ (by rw [Definition.length_bytes]; omega), Definition.length_bytes, Nat.add_sub_cancel_left]

theorem State.length_entryImage : (s.entryImage n).length = 0x2D := by
  rw [State.entryImage_occupied h, List.length_cons, List.length_cons, List.length_append, Definition.length_bytes]
  rfl

end

/-! ### What the record shows of an entry -/

section
variable {s t : State} {n : EntryIx} {e : Entry} (hshows : t.shows (s.entryImage n)) (h : s.table[n] = some e)
include hshows h

/-- Byte `0x1C + j` of the record is byte `j` of the status part. -/
theorem State.byte_status (j : Nat) (hj : j < 20) : t.byte (0x1C + j) = ((s.statusBytes n e).getD j 0).toNat := by
  rw [State.byte_of_shows hshows (by omega), State.entryImage_getD_status h]

theorem State.byte_counter : t.byte 0x1C + 256 * t.byte 0x1D = e.phase.counterField % 65536 := by
  rw [← byteAt_zero_add_byteAt_one, State.byte_status hshows h 0 (by decide), State.byte_status hshows h 1 (by decide)]
  rfl

theorem State.byte_waitElapsed : t.byte 0x1E = ((e.phase.wait.map fun w => w.elapsed).getD 0) % 256 := by
  rw [State.byte_status hshows h 2 (by decide)]
  exact byteOf_toNat _

theorem State.byte_capElapsed : t.byte 0x1F = (((e.phase.run.bind fun r => r.capCount).map fun c => c.elapsed).getD 0) % 256 := by
  rw [State.byte_status hshows h 3 (by decide)]
  exact byteOf_toNat _

theorem State.byte_subMinute : t.byte 0x20 = ((e.phase.run.bind fun r => r.subMinute).getD 0) % 256 := by
  rw [State.byte_status hshows h 4 (by decide)]
  exact byteOf_toNat _

theorem State.byte_lastOutcome : t.byte 0x21 = (e.lastOutcome.map fun o => o.code).getD 0 := by
  rw [State.byte_status hshows h 5 (by decide)]
  cases h' : e.lastOutcome with
  | none => simp [State.statusBytes, h']
  | some o => cases o <;> simp [State.statusBytes, h', EntryOutcome.code]

theorem State.byte_snapshot : t.byte 0x28 + 256 * t.byte 0x29 = (e.snapshot.getD 0).toNat := by
  rw [State.byte_status hshows h 12 (by decide), State.byte_status hshows h 13 (by decide)]
  exact (byteAt_zero_add_byteAt_one _).trans (Nat.mod_eq_of_lt (e.snapshot.getD 0).isLt)

theorem State.byte_pending : t.byte 0x2A = e.pending.toNat := by
  rw [State.byte_status hshows h 14 (by decide)]
  exact (byteOf_toNat _).trans (Nat.mod_eq_of_lt (e.pending.isLt.trans (by decide)))

theorem State.byte_turnPosition : t.byte 0x2B = s.turn.idxOf n % 256 := by
  rw [State.byte_status hshows h 15 (by decide)]
  exact byteOf_toNat _

/-- The six bytes of a last start that is present. -/
theorem State.byte_lastStart {c : Calendar} (hc : e.lastStart = some c) :
    t.byte 0x22 = c.second % 256 ∧ t.byte 0x23 = c.minute % 256 ∧ t.byte 0x24 = c.hour % 256
      ∧ t.byte 0x25 = c.date % 256 ∧ t.byte 0x26 = c.month % 256 ∧ t.byte 0x27 = c.year % 256 := by
  have stamp (field : Calendar → Nat) : (stampByte e.lastStart field).toNat = field c % 256 := by
    rw [hc]; exact byteOf_toNat _
  exact ⟨(State.byte_status hshows h 6 (by decide)).trans (stamp _), (State.byte_status hshows h 7 (by decide)).trans (stamp _),
    (State.byte_status hshows h 8 (by decide)).trans (stamp _), (State.byte_status hshows h 9 (by decide)).trans (stamp _),
    (State.byte_status hshows h 10 (by decide)).trans (stamp _), (State.byte_status hshows h 11 (by decide)).trans (stamp _)⟩

/-- The six bytes of an absent last start (R165). -/
theorem State.byte_lastStart_absent (hc : e.lastStart = none) {k : Nat} (hlo : 0x22 ≤ k) (hhi : k ≤ 0x27) :
    t.byte k = 0xFF := by
  obtain ⟨j, rfl⟩ := Nat.exists_eq_add_of_le hlo
  rw [show 0x22 + j = 0x1C + (6 + j) by omega, State.byte_status hshows h _ (by omega)]
  have hj : j < 6 := by omega
  interval_cases j <;> simp [State.statusBytes, hc, stampByte]

/-- The presence flags, bit by bit. -/
theorem State.byte_presence {k : Nat} (hk : k < 8) : (t.byte 0x2C).testBit k = e.flags.getD k false := by
  rw [← testBit_foldr_bit, ← Entry.presence_eq_flags, State.byte_status hshows h 16 (by decide)]
  exact (testBit_byteOf _ _).trans (by simp [hk])

end

/-! ### The parts of a state that the record shows -/

theorem Phase.isSome_run (p : Phase) : p.run.isSome = p.ownsZones := by cases p <;> rfl

theorem Phase.run_eq_some {p : Phase} {r : RunState} (h : p = .running r ∨ p = .paused r) : p.run = some r := by
  rcases h with rfl | rfl <;> rfl

theorem Phase.run_eq_none {p : Phase} (h : p.ownsZones = false) : p.run = none := by
  rw [← Option.not_isSome_iff_eq_none, Phase.isSome_run, h]; decide

theorem Phase.isSome_wait_iff (p : Phase) : p.wait.isSome = true ↔ ∃ w, p = .due w := by cases p <;> simp [Phase.wait]

theorem Phase.isSome_remaining_iff (p : Phase) :
    (p.wait.bind fun w => w.remaining).isSome = true ↔ ∃ w k, p = .due w ∧ w.remaining = some k := by
  cases p <;> simp [Phase.wait, Option.isSome_iff_exists]

/-- The run part of a RUNNING or PAUSED entry, with its presence flags. -/
theorem State.showsRun {s t : State} {n : EntryIx} {e : Entry} (hshows : t.shows (s.entryImage n)) (h : s.table[n] = some e)
    {r : RunState} (hr : e.phase.run = some r) :
    (∀ c, r.capCount = some c → t.byte 0x1F = c.elapsed % 256) ∧ (r.capCount = none → t.byte 0x1F = 0)
      ∧ (∀ k, r.subMinute = some k → t.byte 0x20 = k % 256) ∧ (r.subMinute = none → t.byte 0x20 = 0)
      ∧ (t.byte 0x2C).testBit 1 = r.subMinute.isSome ∧ (t.byte 0x2C).testBit 4 = r.capCount.isSome := by
  have flag {k : Nat} (hk : k < 8) := State.byte_presence hshows h hk
  have hcap := State.byte_capElapsed hshows h
  have hsub := State.byte_subMinute hshows h
  rw [hr] at hcap hsub
  refine ⟨fun c hc => ?_, fun hc => ?_, fun k hk => ?_, fun hk => ?_, ?_, ?_⟩
  · simpa [hc] using hcap
  · simpa [hc] using hcap
  · simpa [hk] using hsub
  · simpa [hk] using hsub
  · rw [flag (by decide)]
    simp [Entry.flags, hr]
  · rw [flag (by decide)]
    simp [Entry.flags, hr]

/-- The run part of an entry that is neither RUNNING nor PAUSED shows as absent. -/
theorem State.showsRun_absent {s t : State} {n : EntryIx} {e : Entry} (hshows : t.shows (s.entryImage n))
    (h : s.table[n] = some e) (hr : e.phase.run = none) :
    t.byte 0x1F = 0 ∧ t.byte 0x20 = 0 ∧ (t.byte 0x2C).testBit 1 = false ∧ (t.byte 0x2C).testBit 4 = false := by
  have flag {k : Nat} (hk : k < 8) := State.byte_presence hshows h hk
  refine ⟨?_, ?_, ?_, ?_⟩
  · simpa [hr] using State.byte_capElapsed hshows h
  · simpa [hr] using State.byte_subMinute hshows h
  · rw [flag (by decide)]
    simp [Entry.flags, hr]
  · rw [flag (by decide)]
    simp [Entry.flags, hr]

/-- A buffer that holds the image of an occupied slot shows its entry as Table 2 of Chapter 11 lays it out. -/
theorem State.showsEntry_of_shows {s t : State} {n : EntryIx} {e : Entry} (hshows : t.shows (s.entryImage n))
    (h : s.table[n] = some e) : s.showsEntry t n e := by
  have image : ∀ a, a < 48 → t.byte a = ((s.entryImage n).getD a 0).toNat := fun a => State.byte_of_shows hshows
  have flag {k : Nat} (hk : k < 8) := State.byte_presence hshows h hk
  refine ⟨?index, ?state, ?definition, ?counter, ?wait, fun r hr => State.showsRun hshows h (Phase.run_eq_some hr),
    fun hown => State.showsRun_absent hshows h (Phase.run_eq_none hown), ?outcome, fun c => State.byte_lastStart hshows h,
    fun hc k => State.byte_lastStart_absent hshows h hc, State.byte_snapshot hshows h, State.byte_pending hshows h,
    State.byte_turnPosition hshows h, ?owns, ?victim, ?due, ?hasOutcome, ?hasStart, ?hasSnapshot,
    fun k hlo hhi => State.byte_beyond hshows (by rw [State.length_entryImage h]; exact hlo) (by omega)⟩
  case index =>
    rw [image 0 (by decide), State.entryImage_occupied h]
    exact (byteOf_toNat _).trans (Nat.mod_eq_of_lt (n.isLt.trans (by decide)))
  case state =>
    rw [image 1 (by decide), State.entryImage_occupied h]
    cases e.phase <;> rfl
  case definition =>
    intro k hlo hhi
    rw [image k (by omega), State.entryImage_getD_definition h hlo hhi]
  case counter =>
    rw [State.byte_counter hshows h]
    cases e.phase <;> rfl
  case wait =>
    rw [State.byte_waitElapsed hshows h]
    cases e.phase <;> rfl
  case outcome =>
    rw [State.byte_lastOutcome hshows h]
    cases e.lastOutcome with
    | none => rfl
    | some o => cases o <;> rfl
  case owns => exact (flag (by decide)).trans e.phase.isSome_run
  case victim =>
    rw [flag (by decide)]
    exact e.phase.isSome_remaining_iff
  case due =>
    rw [flag (by decide)]
    exact e.phase.isSome_wait_iff
  case hasOutcome | hasStart | hasSnapshot => exact flag (by decide)

/-! ### FETCH by its operand (R2, R18) -/

theorem exec_fetch (s : State) : exec .fetch s = execFetch s := rfl

theorem State.onNamed_of_eq {s : State} {n : EntryIx} (hn : s.input 0 = n.val) (f : EntryIx → State) : s.onNamed f = f n := by
  simp [State.onNamed, State.namedEntry, hn]

theorem State.onNamed_badIndex {s : State} (hn : 48 ≤ s.input 0) (f : EntryIx → State) : s.onNamed f = s.refuse .badIndex 0 := by
  simp [State.onNamed, State.namedEntry, Nat.not_lt.mpr hn]

section
variable {s : State} (hs : s.inProgress 0x12 = true)
include hs

theorem exec_fetch_badIndex (hn : 48 ≤ s.input 0) : exec .fetch s = .next (s.refuse .badIndex 0) := by
  rw [exec_fetch, execFetch, onCompletion_taken _ _ s hs, State.onNamed_badIndex hn]
  rfl

theorem exec_fetch_occupied {n : EntryIx} {e : Entry} (hn : s.input 0 = n.val) (h : s.table[n] = some e) :
    exec .fetch s = .next (s.complete .ok 0 (some (s.entryImage n))) := by
  rw [exec_fetch, execFetch, onCompletion_taken _ _ s hs, State.onNamed_of_eq hn, h]
  rfl

theorem exec_fetch_empty {n : EntryIx} (hn : s.input 0 = n.val) (h : s.table[n] = none) :
    exec .fetch s = .next (s.complete .emptySlot 0 (some [byteOf n.val])) := by
  rw [exec_fetch, execFetch, onCompletion_taken _ _ s hs, State.onNamed_of_eq hn, h, State.entryImage, h]
  rfl

/-- FETCH changes the interface alone, whatever its operand. -/
theorem exec_fetch_frame : ∃ t, exec .fetch s = .next t ∧ t = { s with iface := t.iface } := by
  rcases Nat.lt_or_ge (s.input 0) 48 with hn | hn
  · cases h : s.table[(⟨s.input 0, hn⟩ : EntryIx)] with
    | none => exact ⟨_, exec_fetch_empty hs rfl h, s.complete_frame ..⟩
    | some e => exact ⟨_, exec_fetch_occupied hs rfl h, s.complete_frame ..⟩
  · exact ⟨_, exec_fetch_badIndex hs hn, s.refuse_frame ..⟩

end

/-- Settles O10: each operand has one row equation, and the image it answers is read off byte by byte. -/
theorem fetchShowsRecord : Obligations.FetchShowsRecord := by
  intro s hs
  obtain ⟨t, ht, hframe⟩ := exec_fetch_frame hs
  refine ⟨t, ht, fun hn => ?_, fun n hn => ⟨fun e h => ?_, fun h => ?_⟩, hframe⟩
  · obtain rfl := exec_next_unique ht (exec_fetch_badIndex hs hn)
    exact s.refuse_refuses ..
  · obtain rfl := exec_next_unique ht (exec_fetch_occupied hs hn h)
    have himage := s.complete_shows .ok 0 (s.entryImage n)
    exact ⟨s.complete_completes .., himage, State.showsEntry_of_shows himage h⟩
  · obtain rfl := exec_next_unique ht (exec_fetch_empty hs hn h)
    exact ⟨s.complete_completes .., s.complete_shows _ _ _⟩

end Sys2Proof.Machine
end

section
/-! The entry lifecycle: the next state after a resolution (R33, Table 3 of Chapter 2, with the re-check of R48). -/

namespace Sys2Proof.Machine

/-! ### The columns of Table 3 -/

theorem Definition.afterUse_of_once {d : Definition} (h : d.rep = .once) : d.afterUse = .spent := by
  rw [Definition.afterUse, h]

theorem Definition.afterUse_of_recurring {d : Definition} (h : d.rep = .recurring) : d.afterUse = .armed := by
  rw [Definition.afterUse, h]

section
variable {o : EntryOutcome}

/-- A run that completes, aborts or is capped waits for its confirmation where the definition requires one. -/
theorem Definition.nextPhase_of_required {d : Definition} (ho : o = .completed ∨ o = .aborted ∨ o = .capped)
    (h : d.confirm = .required) : d.nextPhase o = .confirming := by
  rcases ho with rfl | rfl | rfl <;> rw [Definition.nextPhase, h]

theorem Definition.nextPhase_of_notNeeded {d : Definition} (ho : o = .completed ∨ o = .aborted ∨ o = .capped)
    (h : d.confirm = .notNeeded) : d.nextPhase o = d.afterUse := by
  rcases ho with rfl | rfl | rfl <;> rw [Definition.nextPhase, h]

/-- STOPPED, SKIPPED and BLOCKED ask for no confirmation, whatever the confirm setting. -/
theorem Definition.nextPhase_of_unconfirmed (d : Definition) (ho : o = .stopped ∨ o = .skipped ∨ o = .blocked) :
    d.nextPhase o = d.afterUse := by
  rcases ho with rfl | rfl | rfl <;> rfl

theorem Definition.nextPhase_interrupted (d : Definition) : d.nextPhase .interrupted = .armed := rfl

end

/-! ### The state that a resolution leaves -/

/-- Outside LIVE no re-check moves the entry on, so a resolution leaves it in the next state itself (R48). -/
theorem Entry.settle_phase_of_not_live (o : EntryOutcome) (next : Phase) (e : Entry) {v : View} (h : v.live = false) :
    (e.settle v o next).entry.phase = next := by
  rw [Entry.settle, Entry.recheck_of_not_live _ _ h, Effect.only_entry]

theorem Entry.resolve_phase_of_not_live (o : EntryOutcome) (e : Entry) {v : View} (h : v.live = false) :
    (e.resolve v o).entry.phase = e.defn.nextPhase o := Entry.settle_phase_of_not_live o _ e h

theorem Entry.resolve_phase (v : View) (o : EntryOutcome) (e : Entry) :
    (e.resolve v o).entry.phase = e.defn.nextPhase o
      ∨ (e.defn.nextPhase o = .armed ∧ (e.resolve v o).entry.phase = .due freshWait) :=
  (Entry.settle_phase v o _ e).imp_right fun ⟨harmed, _, hdue⟩ => ⟨harmed, hdue⟩

/-- Settles O17: the rows of Table 3 by outcome, then the state that a resolution leaves. -/
theorem nextStateAfterResolution : Obligations.NextStateAfterResolution := by
  intro d
  refine ⟨fun o ho => ⟨?required, ?once, ?recurring⟩, fun o ho => ?unconfirmed, d.nextPhase_interrupted, ?resolution⟩
  case required => exact Definition.nextPhase_of_required ho
  case once =>
    intro hc hr
    rw [Definition.nextPhase_of_notNeeded ho hc, Definition.afterUse_of_once hr]
  case recurring =>
    intro hc hr
    rw [Definition.nextPhase_of_notNeeded ho hc, Definition.afterUse_of_recurring hr]
  case unconfirmed =>
    rw [d.nextPhase_of_unconfirmed ho]
    exact ⟨Definition.afterUse_of_once, Definition.afterUse_of_recurring⟩
  case resolution =>
    rintro v e o rfl
    exact ⟨Entry.resolve_phase_of_not_live o e, Entry.resolve_phase v o e⟩

end Sys2Proof.Machine
end

section
/-! The calendar: its advance at a second event (R55), the weekday derived from the date (R53), and the match of a CALENDAR entry (R58). -/

namespace Sys2Proof.Machine

/-! ### The match of one time (R58, Table 3) -/

/-- A field value of a CALENDAR entry is any, or the calendar's. -/
theorem fieldMatches_iff (want : Option Nat) (value : Nat) :
    fieldMatches want value = true ↔ ∀ v, want = some v → v = value := by
  cases want with
  | none => simp [fieldMatches]
  | some v => simp [fieldMatches]

/-- Settles O32: the match is a test of each field, and each test is any or equal. -/
theorem matchRule : Obligations.MatchRule := by
  intro m c
  simp only [CalendarMatch.matchesTime, Bool.and_eq_true, fieldMatches_iff, and_assoc]

/-! ### The carry chain (R55) -/

theorem Calendar.valid_iff (c : Calendar) : c.valid = true ↔
    c.second < 60 ∧ c.minute < 60 ∧ c.hour < 24 ∧ 1 ≤ c.date ∧ c.date ≤ daysInMonth c.month c.year
      ∧ 1 ≤ c.month ∧ c.month ≤ 12 ∧ c.year < 100 := by
  simp only [Calendar.valid, Bool.and_eq_true, decide_eq_true_eq, and_assoc]

section
variable {c : Calendar}

theorem Calendar.advance_second (h : c.second < 59) : c.advance = { c with second := c.second + 1 } := by
  rw [Calendar.advance, if_pos (by omega)]

theorem Calendar.advance_minute (hs : c.second = 59) (h : c.minute < 59) :
    c.advance = { c with second := 0, minute := c.minute + 1 } := by
  rw [Calendar.advance, if_neg (by omega), if_pos (by omega)]

theorem Calendar.advance_hour (hs : c.second = 59) (hm : c.minute = 59) (h : c.hour < 23) :
    c.advance = { c with second := 0, minute := 0, hour := c.hour + 1 } := by
  rw [Calendar.advance, if_neg (by omega), if_neg (by omega), if_pos (by omega)]

/-- The last second of a day, from which the advance carries into the date. -/
def Calendar.dayEnds (c : Calendar) : Prop := c.second = 59 ∧ c.minute = 59 ∧ c.hour = 23

theorem Calendar.advance_date (h : c.dayEnds) (hd : c.date < daysInMonth c.month c.year) :
    c.advance = { c with second := 0, minute := 0, hour := 0, date := c.date + 1 } := by
  obtain ⟨hs, hm, hh⟩ := h
  rw [Calendar.advance, if_neg (by omega), if_neg (by omega), if_neg (by omega), if_pos (by omega)]

theorem Calendar.advance_month (h : c.dayEnds) (hd : c.date = daysInMonth c.month c.year) (hmonth : c.month < 12) :
    c.advance = { c with second := 0, minute := 0, hour := 0, date := 1, month := c.month + 1 } := by
  obtain ⟨hs, hm, hh⟩ := h
  rw [Calendar.advance, if_neg (by omega), if_neg (by omega), if_neg (by omega), if_neg (by omega), if_pos (by omega)]

theorem Calendar.advance_year (h : c.dayEnds) (hd : c.date = daysInMonth c.month c.year) (hmonth : c.month = 12)
    (hy : c.year < 100) : c.advance =
      { second := 0, minute := 0, hour := 0, date := 1, month := 1, year := if c.year = 99 then 0 else c.year + 1 } := by
  obtain ⟨hs, hm, hh⟩ := h
  rw [Calendar.advance, if_neg (by omega), if_neg (by omega), if_neg (by omega), if_neg (by omega), if_neg (by omega)]
  by_cases hwrap : c.year = 99
  · rw [if_neg (by omega), if_pos hwrap]
  · rw [if_pos (by omega), if_neg hwrap]

end

/-! ### The days counted and the weekday (R52, R53) -/

/-- A month that has passed counts its whole length. -/
theorem daysBeforeMonth_succ (year : Nat) {m : Nat} (h : 1 ≤ m) :
    daysBeforeMonth year (m + 1) = daysBeforeMonth year m + daysInMonth m year := by
  cases m with
  | zero => omega
  | succ m => rfl

theorem daysBeforeMonth_twelve (year : Nat) : daysBeforeMonth year 12 = if year % 4 = 0 then 335 else 334 := by
  by_cases h : year % 4 = 0 <;> simp [daysBeforeMonth, daysInMonth, leapYear, h]

/-- R53: the weekday numbers are 1 to 7. -/
theorem weekday_range (c : Calendar) : 1 ≤ weekday c ∧ weekday c ≤ 7 := by
  unfold weekday
  omega

section
variable {c x : Calendar}

/-- R53: the weekday is derived from the date, the month and the year alone. -/
theorem weekday_of_sameDay (hd : x.date = c.date) (hm : x.month = c.month) (hy : x.year = c.year) : weekday x = weekday c := by
  unfold weekday dayCount
  rw [hd, hm, hy]

/-- R53: the day after has the next weekday in turn. -/
theorem weekday_of_nextDay (h : dayCount x = dayCount c + 1) : weekday x = if weekday c = 7 then 1 else weekday c + 1 := by
  unfold weekday
  rw [h]
  split <;> omega

/-- Away from the last second of the day, the advance stays within the day. -/
theorem weekday_advance_of_not_dayEnds (hv : c.valid = true) (h : ¬ c.dayEnds) : weekday c.advance = weekday c := by
  obtain ⟨hs, hm, hh, -⟩ := c.valid_iff.mp hv
  rcases Nat.lt_or_ge c.second 59 with hs' | hs'
  · rw [Calendar.advance_second hs']
    exact weekday_of_sameDay rfl rfl rfl
  have hsecond : c.second = 59 := by omega
  rcases Nat.lt_or_ge c.minute 59 with hm' | hm'
  · rw [Calendar.advance_minute hsecond hm']
    exact weekday_of_sameDay rfl rfl rfl
  have hminute : c.minute = 59 := by omega
  have hhour : c.hour ≠ 23 := fun h' => h ⟨hsecond, hminute, h'⟩
  rw [Calendar.advance_hour hsecond hminute (by omega)]
  exact weekday_of_sameDay rfl rfl rfl

/-- The first of January counts one day more than the last of December of the year before. -/
theorem dayCount_newYear (hd : c.date = 31) (hm : c.month = 12) (hx : x.date = 1 ∧ x.month = 1 ∧ x.year = c.year + 1) :
    dayCount x = dayCount c + 1 := by
  obtain ⟨hxd, hxm, hxy⟩ := hx
  have hjan : daysBeforeMonth x.year 1 = 0 := rfl
  rw [dayCount, dayCount, hxd, hxm, hjan, hxy, hd, hm, daysBeforeMonth_twelve]
  split <;> omega

/-- A carry into the date counts one day more, up to the wrap of the century. -/
theorem dayCount_advance (hv : c.valid = true) (h : c.dayEnds) (hwrap : ¬ (c.date = 31 ∧ c.month = 12 ∧ c.year = 99)) :
    dayCount c.advance = dayCount c + 1 := by
  obtain ⟨-, -, -, hdate, hlast, hmonth, hmonth', hyear⟩ := c.valid_iff.mp hv
  rcases hlast.lt_or_eq with hd | hd
  · rw [Calendar.advance_date h hd]
    simp only [dayCount]
    omega
  rcases hmonth'.lt_or_eq with hm | hm
  · rw [Calendar.advance_month h hd hm]
    simp only [dayCount, daysBeforeMonth_succ c.year hmonth]
    omega
  · have h31 : c.date = 31 := by rw [hd, hm]; rfl
    have hy : c.year ≠ 99 := fun hy => hwrap ⟨h31, hm, hy⟩
    rw [Calendar.advance_year h hd hm hyear, if_neg hy]
    exact dayCount_newYear h31 hm ⟨rfl, rfl, rfl⟩

end

/-! ### SECOND_EVENT and the calendar (R55) -/

@[simp] theorem State.raiseSecond_calendar (s : State) : s.raiseSecond.calendar = s.calendar := by rw [State.raiseSecond_frame]
@[simp] theorem State.raiseSecond_timeValid (s : State) : s.raiseSecond.timeValid = s.timeValid := by rw [State.raiseSecond_frame]

/-- The calendar takes every second event counted, also while the engine is held. -/
@[simp] theorem State.countSecond_calendar (s : State) (order : SecondOrder) :
    (s.countSecond order).calendar = s.calendar.advance := by
  unfold State.countSecond
  simp only
  split
  · rw [Arrival.asOne_frame]
    simp only [Arrival.andThen]
    rw [State.countRests_frame, State.countEntries_frame, State.countRests_frame]
  · rfl

@[simp] theorem State.countSecond_timeValid (s : State) (order : SecondOrder) : (s.countSecond order).timeValid = s.timeValid := by
  rw [State.countSecond_frame]

/-- With a supply SECOND_EVENT counts one second event, which is raised first where none is. -/
theorem exec_secondEvent_of_powered {s : State} (h : s.powered = true) (order : SecondOrder) :
    exec (.secondEvent order) s = .next ((if s.owed.seconds = 0 then s.raiseSecond else s).countSecond order) := by
  have hexec : exec (.secondEvent order) s = execSecondEvent order s := rfl
  rw [hexec, execSecondEvent, if_pos h]
  rfl

/-- Settles O25: SECOND_EVENT hands the calendar to the carry chain, whose advance counts one day more exactly where it carries into
the date. -/
theorem calendarAdvance : Obligations.CalendarAdvance := by
  refine ⟨fun s order hs => ⟨_, exec_secondEvent_of_powered hs order, ?calendar, ?timeValid⟩, fun c hv => ?_⟩
  case calendar => rw [State.countSecond_calendar]; split <;> simp
  case timeValid => rw [State.countSecond_timeValid]; split <;> simp
  obtain ⟨-, -, -, -, -, -, -, hyear⟩ := c.valid_iff.mp hv
  obtain ⟨hlo, hhi⟩ := weekday_range c
  refine ⟨Calendar.advance_second, Calendar.advance_minute, fun hs hm => ⟨Calendar.advance_hour hs hm, fun hh => ?carry⟩,
    hlo, hhi, by decide, ?wrap, fun h => ?sameDay, fun hs hm hh hwrap => ?nextDay⟩
  case carry =>
    have hend : c.dayEnds := ⟨hs, hm, hh⟩
    exact ⟨Calendar.advance_date hend, fun hd =>
      ⟨Calendar.advance_month hend hd, fun hmonth => Calendar.advance_year hend hd hmonth hyear⟩⟩
  case wrap =>
    rintro rfl
    decide
  case sameDay => exact weekday_advance_of_not_dayEnds hv fun ⟨hs, hm, hh⟩ => by omega
  case nextDay => exact weekday_of_nextDay (dayCount_advance hv ⟨hs, hm, hh⟩ hwrap)

end Sys2Proof.Machine
end

section
/-! What a row can do, said once: the state that each row leaves, one rule for each check that commands share, and one rule for each
command that makes several checks. -/

namespace Sys2Proof.Machine

/-! ### The state that a row leaves -/

/-- The state that a row leaves. -/
def State.afterRow (s : State) (i : Instr) : State :=
  match exec i s with
  | .next t => t
  | .fault _ | .refused _ => s

theorem exec_eq_afterRow (i : Instr) (s : State) : exec i s = .next (s.afterRow i) := by
  cases i <;> rfl

theorem eq_afterRow {i : Instr} {s t : State} (h : exec i s = .next t) : t = s.afterRow i :=
  exec_next_unique h (exec_eq_afterRow i s)

/-- What holds of the next state that a row answers holds of the state that it leaves. -/
theorem afterRow_of {P : State → Prop} {i : Instr} {s t : State} (h : exec i s = .next t) (ht : P t) : P (s.afterRow i) :=
  eq_afterRow h ▸ ht

/-- A step is a row on the rest of the queue, and on an empty queue a row that waits or one internal cycle. -/
theorem step_cases {s t : State} (h : step s = .next t) :
    (∃ i rest, t = ({ s with pending := rest } : State).afterRow i) ∨ (∃ i, i ∈ s.waiting ∧ t = s.nextTick.afterRow i)
      ∨ t = s.tick.nextTick := by
  unfold step at h
  split at h
  case h_1 i rest _ => exact Or.inl ⟨i, rest, eq_afterRow h⟩
  case h_2 =>
    unfold idle at h
    split at h
    case h_1 => exact Or.inr (Or.inr (Host.Outcome.next.inj h).symm)
    case h_2 i rest hw =>
      refine Or.inr (Or.inl ⟨_, ?_, eq_afterRow h⟩)
      rw [hw, List.getD_eq_getElem _ _ (by simpa using Nat.mod_lt _ (Nat.succ_pos _))]
      exact List.getElem_mem _

/-- A law that says nothing of the queue and of the counter of free values is kept by every step where it is kept by every row and by
an internal cycle. -/
theorem law_of_step {P : State → Prop} (hpending : ∀ s rest, P s → P { s with pending := rest })
    (hticks : ∀ s : State, P s → P s.nextTick) (hrow : ∀ (s : State) (i : Instr), P s → P (s.afterRow i))
    (htick : ∀ s : State, P s → P s.tick) {s t : State} (hs : P s) (h : step s = .next t) : P t := by
  rcases step_cases h with ⟨i, rest, rfl⟩ | ⟨i, -, rfl⟩ | rfl
  · exact hrow _ i (hpending s rest hs)
  · exact hrow _ i (hticks s hs)
  · exact hticks _ (htick s hs)

/-! ### The checks that commands share -/

section
variable {P : State → Prop} {s : State} {n : EntryIx}

theorem onCompletion_of {code : Byte} {f : State → State} (hidle : s.inProgress code = false → P s)
    (hf : s.inProgress code = true → P (f s)) : P (onCompletion code f s) := by
  cases h : s.inProgress code with
  | false => rw [onCompletion_other _ _ _ h]; exact hidle h
  | true => rw [onCompletion_taken _ _ _ h]; exact hf h

theorem onEntryMove_of {code : Byte} {f : State → State} (hidle : s.inProgress code = false → P s)
    (hf : s.inProgress code = true → P (f s.settleSelf)) : P (onEntryMove code f s) :=
  onCompletion_of hidle hf

theorem State.onNamed_of {f : EntryIx → State} (hbad : s.namedEntry = none → P (s.refuse .badIndex 0))
    (hf : ∀ n, s.namedEntry = some n → P (f n)) : P (s.onNamed f) := by
  unfold State.onNamed
  split
  · exact hf _ ‹_›
  · exact hbad ‹_›

theorem State.unlessProtected_of {f : State}
    (hprotected : s.isProtected n = true → P (s.refuse .entryProtected (byteOf s.boundary)))
    (hf : s.isProtected n = false → P f) : P (s.unlessProtected n f) := by
  unfold State.unlessProtected
  split
  · exact hprotected ‹_›
  · exact hf (Bool.eq_false_iff.mpr ‹_›)

theorem State.onOccupied_of {f : Entry → State} (hempty : s.table[n] = none → P (s.refuse .emptySlot 0))
    (hf : ∀ e, s.table[n] = some e → P (f e)) : P (s.onOccupied n f) := by
  unfold State.onOccupied
  split
  · exact hf _ ‹_›
  · exact hempty ‹_›

theorem State.onRecord_of {f : Definition → State}
    (hfault : ∀ k, definitionFault s.input = some k → P (s.refuse .invalidField (byteOf k)))
    (hlink : definitionFault s.input = none → s.badLink n (Definition.ofRecord s.input) = true → P (s.refuse .badLink 0x0B))
    (hf : definitionFault s.input = none → s.badLink n (Definition.ofRecord s.input) = false →
      P (f (Definition.ofRecord s.input))) : P (s.onRecord n f) := by
  unfold State.onRecord
  split
  · exact hfault _ ‹_›
  · simp only
    split
    · exact hlink ‹_› ‹_›
    · exact hf ‹_› (Bool.eq_false_iff.mpr ‹_›)

end

/-! ### The commands that make several checks -/

section
variable {P : State → Prop} {s : State}

theorem afterRow_load_of (hidle : P s) (hrefuse : ∀ r d, P (s.refuse r d))
    (htaken : ∀ n, s.inProgress 0x10 = true → s.namedEntry = some n → s.isProtected n = false → s.table[n] = none →
      definitionFault s.input = none → s.badLink n (Definition.ofRecord s.input) = false →
      P (s.loadEntry n (Definition.ofRecord s.input))) : P (s.afterRow .load) := by
  refine afterRow_of rfl (onCompletion_of (fun _ => hidle) fun hp => State.onNamed_of (fun _ => hrefuse _ _) fun n hn =>
    State.unlessProtected_of (fun _ => hrefuse _ _) fun hb => ?_)
  split
  · exact hrefuse _ _
  · next ht => exact State.onRecord_of (fun _ _ => hrefuse _ _) (fun _ _ => hrefuse _ _) (htaken n hp hn hb ht)

theorem afterRow_modify_of (hidle : P s) (hrefuse : ∀ r d, P (s.settleSelf.refuse r d))
    (htaken : ∀ n e, s.inProgress 0x11 = true → s.settleSelf.namedEntry = some n → s.settleSelf.isProtected n = false →
      s.settleSelf.table[n] = some e → definitionFault s.settleSelf.input = none →
      s.settleSelf.badLink n (Definition.ofRecord s.settleSelf.input) = false →
      e.activeFault (Definition.ofRecord s.settleSelf.input) = none →
      P (s.settleSelf.modifyEntry n e (Definition.ofRecord s.settleSelf.input))) : P (s.afterRow .modify) := by
  refine afterRow_of rfl (onEntryMove_of (fun _ => hidle) fun hp => State.onNamed_of (fun _ => hrefuse _ _) fun n hn =>
    State.unlessProtected_of (fun _ => hrefuse _ _) fun hb => State.onOccupied_of (fun _ => hrefuse _ _) fun e he =>
    State.onRecord_of (fun _ _ => hrefuse _ _) (fun _ _ => hrefuse _ _) fun hd hl => ?_)
  split
  · exact hrefuse _ _
  · exact htaken n e hp hn hb he hd hl ‹_›

theorem afterRow_retire_of (hidle : P s) (hrefuse : ∀ r d, P (s.refuse r d))
    (htaken : ∀ n e, s.inProgress 0x14 = true → s.namedEntry = some n → s.isProtected n = false → s.table[n] = some e →
      s.firstFollower n = none → P (((s.applyAt n Entry.retired).asOne.removeEntry n).complete .ok 0 none)) :
    P (s.afterRow .retire) := by
  refine afterRow_of rfl (onCompletion_of (fun _ => hidle) fun hp => State.onNamed_of (fun _ => hrefuse _ _) fun n hn =>
    State.unlessProtected_of (fun _ => hrefuse _ _) fun hb => State.onOccupied_of (fun _ => hrefuse _ _) fun e he => ?_)
  split
  · exact hrefuse _ _
  · exact htaken n e hp hn hb he ‹_›

theorem afterRow_hold_of (hidle : P s) (hrefuse : ∀ r d, P (s.settleSelf.refuse r d))
    (htaken : ∀ n e x, s.inProgress 0x20 = true → s.settleSelf.namedEntry = some n → s.settleSelf.isProtected n = false →
      s.settleSelf.table[n] = some e → e.held? s.settleSelf.view = some x → P (s.settleSelf.moveEntry n fun _ => x)) :
    P (s.afterRow .hold) := by
  refine afterRow_of rfl (onEntryMove_of (fun _ => hidle) fun hp => State.onNamed_of (fun _ => hrefuse _ _) fun n hn =>
    State.unlessProtected_of (fun _ => hrefuse _ _) fun hb => State.onOccupied_of (fun _ => hrefuse _ _) fun e he => ?_)
  split
  · exact htaken n e _ hp hn hb he ‹_›
  · exact hrefuse _ _

theorem afterRow_release_of (hidle : P s) (hrefuse : ∀ r d, P (s.settleSelf.refuse r d))
    (htaken : ∀ n e, s.inProgress 0x21 = true → s.settleSelf.namedEntry = some n → s.settleSelf.isProtected n = false →
      s.settleSelf.table[n] = some e → e.phase = .held →
      P ((s.settleSelf.dropFollowsTo n).moveEntry n (Entry.arm s.settleSelf.view))) : P (s.afterRow .release) := by
  refine afterRow_of rfl (onEntryMove_of (fun _ => hidle) fun hp => State.onNamed_of (fun _ => hrefuse _ _) fun n hn =>
    State.unlessProtected_of (fun _ => hrefuse _ _) fun hb => State.onOccupied_of (fun _ => hrefuse _ _) fun e he => ?_)
  split
  · exact htaken n e hp hn hb he ‹_›
  · exact hrefuse _ _

theorem afterRow_rearm_of (hidle : P s) (hrefuse : ∀ r d, P (s.settleSelf.refuse r d))
    (htaken : ∀ n e, s.inProgress 0x22 = true → s.settleSelf.namedEntry = some n → s.settleSelf.isProtected n = false →
      s.settleSelf.table[n] = some e → e.phase = .spent → P (s.settleSelf.moveEntry n (Entry.arm s.settleSelf.view))) :
    P (s.afterRow .rearm) := by
  refine afterRow_of rfl (onEntryMove_of (fun _ => hidle) fun hp => State.onNamed_of (fun _ => hrefuse _ _) fun n hn =>
    State.unlessProtected_of (fun _ => hrefuse _ _) fun hb => State.onOccupied_of (fun _ => hrefuse _ _) fun e he => ?_)
  split
  · exact htaken n e hp hn hb he ‹_›
  · exact hrefuse _ _

theorem afterRow_start_of (hidle : P s) (hrefuse : ∀ r d, P (s.settleSelf.refuse r d))
    (htaken : ∀ n e, s.inProgress 0x23 = true → s.settleSelf.namedEntry = some n → s.settleSelf.table[n] = some e →
      s.settleSelf.isLive = true → e.phase = .armed →
      P (s.settleSelf.moveEntry n (Entry.trigger s.settleSelf.view s.settleSelf.levels none))) : P (s.afterRow .start) := by
  refine afterRow_of rfl (onEntryMove_of (fun _ => hidle) fun hp => State.onNamed_of (fun _ => hrefuse _ _) fun n hn =>
    State.onOccupied_of (fun _ => hrefuse _ _) fun e he => ?_)
  cases hl : s.settleSelf.isLive with
  | false => exact hrefuse _ _
  | true =>
    simp only [Bool.not_true, Bool.false_eq_true, if_false]
    split
    · exact htaken n e hp hn he hl ‹_›
    · exact hrefuse _ _

theorem afterRow_stop_of (hidle : P s) (hrefuse : ∀ r d, P (s.settleSelf.refuse r d))
    (htaken : ∀ n e, s.inProgress 0x24 = true → s.settleSelf.namedEntry = some n → s.settleSelf.table[n] = some e →
      e.phase.isActive = true → P (s.settleSelf.moveEntry n (Entry.resolve s.settleSelf.view .stopped))) :
    P (s.afterRow .stop) := by
  refine afterRow_of rfl (onEntryMove_of (fun _ => hidle) fun hp => State.onNamed_of (fun _ => hrefuse _ _) fun n hn =>
    State.onOccupied_of (fun _ => hrefuse _ _) fun e he => ?_)
  split
  · exact htaken n e hp hn he ‹_›
  · exact hrefuse _ _

/-- What CONFIRM does at each entry. -/
def Entry.confirmBy (v : View) (tag : Byte) (e : Entry) : Effect := if e.confirmedBy tag then e.confirmed v else Effect.only e

theorem afterRow_confirm_of (hidle : P s) (hrefuse : ∀ r d, P (s.settleSelf.refuse r d))
    (htaken : ∀ set tag, s.inProgress 0x25 = true → set = s.settleSelf.entriesWhere (Entry.confirmedBy tag) →
      tag = byteOf (s.settleSelf.input 0) → set ≠ 0 →
      P ((s.settleSelf.apply fun _ => Entry.confirmBy s.settleSelf.view tag).asOne.complete .ok (byteOf (setSize set))
        (some (findResult set none)))) : P (s.afterRow .confirm) := by
  refine afterRow_of rfl (onEntryMove_of (fun _ => hidle) fun hp => ?_)
  simp only
  split
  · exact hrefuse _ _
  · exact htaken _ _ hp rfl rfl ‹_›

theorem afterRow_confirmFirst_of (hidle : P s) (hrefuse : s.settleSelf.confirmOrder = [] → ∀ r d, P (s.settleSelf.refuse r d))
    (htaken : ∀ n rest, s.inProgress 0x26 = true → s.settleSelf.confirmOrder = n :: rest →
      P (((s.settleSelf.applyAt n (Entry.confirmed s.settleSelf.view)).asOne).complete .ok (byteOf n.val)
        (some ((s.settleSelf.applyAt n (Entry.confirmed s.settleSelf.view)).asOne.entryImage n)))) :
    P (s.afterRow .confirmFirst) := by
  refine afterRow_of rfl (onEntryMove_of (fun _ => hidle) fun hp => ?_)
  simp only
  split
  · exact htaken _ _ hp ‹_›
  · exact hrefuse ‹_› _ _

theorem afterRow_setTime_of (hidle : P s) (hrefuse : ∀ r d, P (s.refuse r d))
    (htaken : s.inProgress 0x30 = true → firstBad (timeChecks s.input) = none →
      P ((s.secondsCome.setTime (Calendar.ofRecord s.input)).complete .ok 0
        (some (s.secondsCome.setTime (Calendar.ofRecord s.input)).timeRecord))) : P (s.afterRow .setTime) := by
  refine afterRow_of rfl (onCompletion_of (fun _ => hidle) fun hp => ?_)
  split
  · exact hrefuse _ _
  · exact htaken hp ‹_›

theorem afterRow_selectClock_of (hidle : P s) (hrefuse : ∀ r d, P (s.refuse r d))
    (htaken : ∀ c, s.inProgress 0x38 = true → Source.ofCode (s.input 0) = some c →
      P ((s.selectSource c).complete .ok 0 (some (s.selectSource c).clockRecord))) : P (s.afterRow .selectClock) := by
  refine afterRow_of rfl (onCompletion_of (fun _ => hidle) fun hp => ?_)
  split
  · exact hrefuse _ _
  · exact htaken _ hp ‹_›

theorem afterRow_setZones_of (hidle : P s) (hrefuse : ∀ r d, P (s.refuse r d))
    (htaken : s.inProgress 0x48 = true → s.badModeZone = none → s.busyZone = none → engagedCount s.zonesAsked ≤ s.budget →
      P (s.setZones.complete .ok 0 (some s.setZones.zoneSnapshot))) : P (s.afterRow .setZones) := by
  refine afterRow_of rfl (onCompletion_of (fun _ => hidle) fun hp => ?_)
  split
  · exact hrefuse _ _
  split
  · exact hrefuse _ _
  split
  · exact hrefuse _ _
  · exact htaken hp ‹_› ‹_› (Nat.not_lt.mp ‹_›)

theorem afterRow_configure_of (hidle : P s) (hrefuse : ∀ r d, P (s.refuse r d))
    (htaken : s.inProgress 0x50 = true → s.engine.mode ≠ .live → s.site.lock = false → firstBad (configChecks s.input) = none →
      P ((s.configure (SiteConfig.ofRecord s.input)).complete .ok 0
        (some (s.configure (SiteConfig.ofRecord s.input)).configImage))) : P (s.afterRow .configure) := by
  refine afterRow_of rfl (onCompletion_of (fun _ => hidle) fun hp => ?_)
  split
  · exact hrefuse _ _
  split
  · exact hrefuse _ _
  split
  · exact hrefuse _ _
  · exact htaken hp ‹_› (Bool.eq_false_iff.mpr ‹_›) ‹_›

theorem afterRow_engineStart_of (hidle : P s) (hcomplete : ∀ r d o, P (s.complete r d o))
    (htaken : ∀ set, s.inProgress 0x52 = true → s.engine.mode ≠ .live → s.site.valid = true →
      set = (s.finishUnderway.setMode .live).entriesWhere (Entry.recheckTakes (s.finishUnderway.setMode .live).view) →
      P ((s.finishUnderway.setMode .live).goLive.complete .ok (byteOf (setSize set)) (some (findResult set none)))) :
    P (s.afterRow .engineStart) := by
  refine afterRow_of rfl (onCompletion_of (fun _ => hidle) fun hp => ?_)
  split
  · exact hcomplete _ _ _
  split
  · exact htaken _ hp ‹_› ‹_› rfl
  · exact hcomplete _ _ none

theorem afterRow_engineSuspend_of (hidle : P s) (hcomplete : ∀ r d o, P (s.complete r d o))
    (htaken : ∀ set, s.inProgress 0x53 = true → s.engine.mode = .live →
      set = s.settleEnds.entriesWhere (fun e => e.phase.isActive) →
      P (((s.settleEnds.setMode .suspended).dropArrivals.resolveActive .stopped).asOne.complete .ok (byteOf (setSize set))
        (some (findResult set none)))) : P (s.afterRow .engineSuspend) := by
  refine afterRow_of rfl (onCompletion_of (fun _ => hidle) fun hp => ?_)
  split
  · exact htaken _ hp ‹_› rfl
  · exact hcomplete _ _ _

theorem afterRow_nextNotice_of (hidle : P s) (hrefuse : ∀ r d, P (s.refuse r d))
    (hdevice : s.inProgress 0x60 = true → s.device ≠ 0 → P s.giveDeviceGroup)
    (hentry : ∀ n e rest, s.inProgress 0x60 = true → s.device = 0 → s.noticeOrder = n :: rest → s.table[n] = some e →
      P (s.giveEntryGroup n e)) : P (s.afterRow .nextNotice) := by
  refine afterRow_of rfl (onCompletion_of (fun _ => hidle) fun hp => ?_)
  split
  · next hd => exact hdevice hp (by simpa using hd)
  next hd =>
  split
  · split
    · exact hentry _ _ _ hp (by simpa using hd) ‹_› ‹_›
    · exact hrefuse _ _
  · exact hrefuse _ _

/-- The sampled level of PRG is kept whether SET PROTECT is taken or refused (log 16). -/
def State.samplePrg (s : State) (prg : Bool) : State := { s with pins := { s.pins with prg := prg } }

theorem afterRow_setProtect_of {prg : Bool} (hidle : P s) (hrefuse : ∀ r d, P ((s.samplePrg prg).refuse r d))
    (htaken : s.inProgress 0x18 = true → isBoundary (s.input 0) = true → s.boundary ≤ s.input 0 ∨ prg = true →
      P (({ s.samplePrg prg with boundary := s.input 0 } : State).complete .ok (byteOf (s.input 0)) none)) :
    P (s.afterRow (.setProtect prg)) := by
  refine afterRow_of rfl (onCompletion_of (fun _ => hidle) fun hp => ?_)
  simp only
  split
  · exact hrefuse _ _
  next hb =>
  split
  · next hm =>
    simp only [Bool.not_eq_true', Bool.not_eq_false] at hb
    simp only [Bool.or_eq_true, decide_eq_true_eq] at hm
    exact htaken hp hb hm
  · exact hrefuse _ _

end

end Sys2Proof.Machine
end

section
/-! What each row leaves alone: one frame for the rows that move the table, the zones, the turn order list, what is on its way and the
interface alone, and one for each other row. -/

namespace Sys2Proof.Machine

/-! ### The rows of the interface -/

/-- From `s` to `t` nothing changes but the interface. -/
def State.ifaceFrame (s t : State) : Prop := t = { s with iface := t.iface }

theorem State.complete_ifaceFrame (s : State) (r : ResultCode) (d : Byte) (o : Option (List Byte)) :
    s.ifaceFrame (s.complete r d o) := by
  unfold State.ifaceFrame; rw [State.complete_frame]

theorem State.refuse_ifaceFrame (s : State) (r : ResultCode) (d : Byte) : s.ifaceFrame (s.refuse r d) :=
  s.complete_ifaceFrame r d none

theorem State.onBus_ifaceFrame {s f : State} (h : s.ifaceFrame f) : s.ifaceFrame (s.onBus f) := by
  unfold State.onBus
  split
  · exact h
  · rfl

/-- The rows that touch the interface alone. -/
def onInterfaceAlone : Instr → Bool
  | .fetch | .find | .readTime | .readClock | .readZones | .readConfig | .unknownCommand => true
  | .pointerByte _ | .transferBufferWrite _ | .commandWrite _ | .commandBegin | .ignoredRegisterWrite _ | .byteRead => true
  | _ => false

theorem afterRow_ifaceFrame {i : Instr} (h : onInterfaceAlone i = true) (s : State) : s.ifaceFrame (s.afterRow i) := by
  have complete (code : Byte) (r : State → ResultCode) (d : State → Byte) (o : State → Option (List Byte)) :
      s.ifaceFrame (onCompletion code (fun s => s.complete (r s) (d s) (o s)) s) :=
    onCompletion_of (fun _ => rfl) fun _ => s.complete_ifaceFrame _ _ _
  cases i with
  | fetch =>
    refine afterRow_of rfl (onCompletion_of (fun _ => rfl) fun _ => State.onNamed_of (fun _ => s.refuse_ifaceFrame _ _) fun n _ => ?_)
    split <;> exact s.complete_ifaceFrame _ _ _
  | find =>
    obtain hp | hp := Bool.eq_false_or_eq_true (s.inProgress 0x13)
    · obtain ⟨t, ht, hframe⟩ := exec_find_frame hp
      exact afterRow_of ht hframe
    · exact afterRow_of rfl (onCompletion_of (fun _ => rfl) fun h => absurd (h.symm.trans hp) (by decide))
  | readTime | readClock | readZones | readConfig => exact afterRow_of rfl (complete _ _ _ _)
  | unknownCommand =>
    refine afterRow_of rfl ?_
    split
    · split
      · exact s.refuse_ifaceFrame _ _
      · rfl
    · rfl
  | pointerByte b =>
    refine afterRow_of rfl (State.onBus_ifaceFrame ?_)
    split
    · unfold State.pointerByte; split <;> rfl
    all_goals rfl
  | transferBufferWrite b =>
    refine afterRow_of rfl (State.onBus_ifaceFrame ?_)
    split
    · split
      · unfold State.bufferByte; split <;> rfl
      · rfl
    all_goals rfl
  | commandWrite b =>
    refine afterRow_of rfl (State.onBus_ifaceFrame ?_)
    split
    · split
      · unfold State.commandByte; split <;> rfl
      · rfl
    all_goals rfl
  | ignoredRegisterWrite b =>
    refine afterRow_of rfl (State.onBus_ifaceFrame ?_)
    split
    · split <;> rfl
    all_goals rfl
  | commandBegin =>
    refine afterRow_of rfl (State.onBus_ifaceFrame ?_)
    unfold State.begin; split <;> rfl
  | byteRead =>
    refine afterRow_of rfl (State.onBus_ifaceFrame ?_)
    split <;> rfl
  | _ => cases h

/-! ### The rows that arrivals are -/

/-- From `s` to `t` nothing changes but the table, the zones, the turn order list and what is on its way. -/
def State.arrivalFrame (s t : State) : Prop := t = { s with table := t.table, turn := t.turn, zones := t.zones, owed := t.owed }

theorem State.arrivalFrame.trans {s t u : State} (h : s.arrivalFrame t) (h' : t.arrivalFrame u) : s.arrivalFrame u := by
  unfold State.arrivalFrame at *
  rw [h', h]

theorem State.applyAt_arrivalFrame (s : State) (n : EntryIx) (f : Entry → Effect) : s.arrivalFrame (s.applyAt n f).state := by
  unfold State.arrivalFrame; rw [State.applyAt_frame]

theorem State.apply_arrivalFrame (s : State) (f : EntryIx → Entry → Effect) : s.arrivalFrame (s.apply f).state := by
  unfold State.arrivalFrame; rw [State.apply_frame]

theorem Arrival.asOne_arrivalFrame (a : Arrival) : a.state.arrivalFrame a.asOne := by
  unfold State.arrivalFrame; rw [Arrival.asOne_frame]

theorem Arrival.each_arrivalFrame (a : Arrival) : a.state.arrivalFrame a.each := by
  obtain ⟨follows, walks, h⟩ := a.each_owed
  unfold State.arrivalFrame; rw [h]

theorem Arrival.underway_arrivalFrame (a : Arrival) (x : EntrySet) (y : ZoneSet) : a.state.arrivalFrame (a.underway x y) := rfl

theorem Arrival.walkIf_state (a : Arrival) (b : Bool) : (a.walkIf b).state = a.state := by
  unfold Arrival.walkIf; split <;> rfl

theorem State.settleSelf_arrivalFrame (s : State) : s.arrivalFrame s.settleSelf := by
  unfold State.arrivalFrame; rw [State.settleSelf_frame]

theorem State.applyAt_asOne_arrivalFrame (s : State) (n : EntryIx) (f : Entry → Effect) : s.arrivalFrame (s.applyAt n f).asOne :=
  (s.applyAt_arrivalFrame n f).trans (Arrival.asOne_arrivalFrame _)

theorem State.owed_arrivalFrame (s : State) (o : Owed) : s.arrivalFrame { s with owed := o } := rfl

theorem State.deliverLink_arrivalFrame (s : State) (l : FollowLink) : s.arrivalFrame (s.deliverLink l) := by
  unfold State.arrivalFrame; rw [State.deliverLink_frame]

theorem State.makeWalk_arrivalFrame (s : State) : s.arrivalFrame s.makeWalk := by
  unfold State.arrivalFrame; rw [State.makeWalk_frame]

theorem State.reachCount_arrivalFrame (s : State) (n : EntryIx) : s.arrivalFrame (s.reachCount n) :=
  (s.applyAt_arrivalFrame n _).trans (Arrival.underway_arrivalFrame _ _ _)

theorem State.reachPulse_arrivalFrame (s : State) (n : EntryIx) (i : Nat) : s.arrivalFrame (s.reachPulse n i) := by
  unfold State.reachPulse
  split
  · exact (s.owed_arrivalFrame _).trans (State.applyAt_asOne_arrivalFrame _ n _)
  · rfl

theorem State.takeTransition_arrivalFrame (s : State) (n : EntryIx) (value : Bool) : s.arrivalFrame (s.takeTransition n value) := by
  unfold State.takeTransition
  split
  · split
    · exact (s.owed_arrivalFrame _).trans (State.applyAt_asOne_arrivalFrame _ n _)
    · rfl
  · rfl

theorem State.endRest_arrivalFrame (s : State) (z : ZoneIx) : s.arrivalFrame (s.endRest z) := by
  unfold State.endRest
  simp only
  refine State.arrivalFrame.trans ?_ (Arrival.underway_arrivalFrame _ _ _)
  rw [Arrival.walkIf_state]
  rfl

/-- The rows that touch nothing but the table, the zones, the turn order list and what is on its way. -/
def isArrival : Instr → Bool
  | .runCompleted _ | .capped _ | .waitLimitExpiry _ | .restEnd _ | .grantWalk => true
  | .patternTrigger _ | .permitFalse _ | .permitTrue _ | .pulseEdge _ | .followEvent _ _ => true
  | _ => false

theorem afterRow_arrivalFrame {i : Instr} (h : isArrival i = true) (s : State) : s.arrivalFrame (s.afterRow i) := by
  cases i with
  | runCompleted n =>
    refine afterRow_of rfl ?_
    split
    · exact s.reachCount_arrivalFrame n
    · split
      · split
        · exact s.reachPulse_arrivalFrame n _
        · rfl
      · rfl
  | capped n =>
    refine afterRow_of rfl ?_
    split
    · exact s.reachCount_arrivalFrame n
    · rfl
  | waitLimitExpiry n =>
    refine afterRow_of rfl ?_
    split
    · exact s.reachCount_arrivalFrame n
    · rfl
  | restEnd z =>
    refine afterRow_of rfl ?_
    split
    · exact s.endRest_arrivalFrame z
    · rfl
  | grantWalk => exact afterRow_of rfl s.makeWalk_arrivalFrame
  | patternTrigger n =>
    refine afterRow_of rfl ?_
    split
    · exact (s.owed_arrivalFrame _).trans (State.applyAt_asOne_arrivalFrame _ n _)
    · rfl
  | permitFalse n => exact afterRow_of rfl (s.takeTransition_arrivalFrame n false)
  | permitTrue n => exact afterRow_of rfl (s.takeTransition_arrivalFrame n true)
  | pulseEdge k =>
    refine afterRow_of rfl ?_
    split
    · exact (s.owed_arrivalFrame _).trans ((State.apply_arrivalFrame _ _).trans (Arrival.each_arrivalFrame _))
    · rfl
  | followEvent source follower =>
    refine afterRow_of rfl ?_
    split
    · exact s.deliverLink_arrivalFrame _
    · rfl
  | _ => cases h

/-! ### The rows of the table, the zones and the interface -/

/-- From `s` to `t` nothing changes but the table, the zones, the turn order list, what is on its way and the interface. -/
def State.tableFrame (s t : State) : Prop :=
  t = { s with table := t.table, turn := t.turn, zones := t.zones, owed := t.owed, iface := t.iface }

theorem State.ifaceFrame.tableFrame {s t : State} (h : s.ifaceFrame t) : s.tableFrame t := by
  unfold State.ifaceFrame at h
  unfold State.tableFrame
  rw [h]

theorem State.tableFrame.trans {s t u : State} (h : s.tableFrame t) (h' : t.tableFrame u) : s.tableFrame u := by
  unfold State.tableFrame at *
  rw [h', h]

theorem State.complete_tableFrame (s : State) (r : ResultCode) (d : Byte) (o : Option (List Byte)) :
    s.tableFrame (s.complete r d o) := by
  unfold State.tableFrame; rw [State.complete_frame]

theorem State.refuse_tableFrame (s : State) (r : ResultCode) (d : Byte) : s.tableFrame (s.refuse r d) :=
  s.complete_tableFrame r d none

theorem State.arrivalFrame.tableFrame {s t : State} (h : s.arrivalFrame t) : s.tableFrame t := by
  unfold State.arrivalFrame at h
  unfold State.tableFrame
  rw [h]

theorem State.settleSelf_tableFrame (s : State) : s.tableFrame s.settleSelf := s.settleSelf_arrivalFrame.tableFrame

theorem State.applyAt_asOne_tableFrame (s : State) (n : EntryIx) (f : Entry → Effect) : s.tableFrame (s.applyAt n f).asOne :=
  (s.applyAt_asOne_arrivalFrame n f).tableFrame

theorem State.moveEntry_tableFrame (s : State) (n : EntryIx) (f : Entry → Effect) : s.tableFrame (s.moveEntry n f) := by
  unfold State.moveEntry State.completeWithImage
  exact (s.applyAt_asOne_tableFrame n f).trans (State.complete_tableFrame _ _ _ _)

theorem State.removeEntry_tableFrame (s : State) (n : EntryIx) : s.tableFrame (s.removeEntry n) := by
  delta State.removeEntry State.dropArrivalsTo State.dropFollowsTo State.putEntry; rfl

theorem State.dropFollowsTo_tableFrame (s : State) (n : EntryIx) : s.tableFrame (s.dropFollowsTo n) := by
  delta State.dropFollowsTo; rfl

theorem State.refuse_settled_tableFrame (s : State) (r : ResultCode) (d : Byte) : s.tableFrame (s.settleSelf.refuse r d) :=
  s.settleSelf_tableFrame.trans (State.refuse_tableFrame _ _ _)

theorem State.modifyEntry_tableFrame (s : State) (n : EntryIx) (e : Entry) (d : Definition) :
    s.tableFrame (s.modifyEntry n e d) := by
  unfold State.modifyEntry State.completeWithImage
  refine State.tableFrame.trans ?_ (State.complete_tableFrame _ _ _ _)
  refine State.tableFrame.trans ?_ (Arrival.asOne_arrivalFrame _).tableFrame
  rw [Arrival.walkIf_state]
  split
  · exact State.tableFrame.trans (t := s.putEntry n (some (e.redefined d s.levels))) rfl (State.applyAt_arrivalFrame _ _ _).tableFrame
  · exact State.tableFrame.trans (t := (s.putEntry n (some (e.redefined d s.levels))).dropTransitionsTo n) rfl
      (State.applyAt_arrivalFrame _ _ _).tableFrame

theorem State.loadEntry_tableFrame (s : State) (n : EntryIx) (d : Definition) : s.tableFrame (s.loadEntry n d) :=
  State.tableFrame.trans (t := s.place n (Entry.fresh d (heldBit s.input) s.levels)) rfl (State.moveEntry_tableFrame _ _ _)

theorem State.setZones_tableFrame (s : State) : s.tableFrame s.setZones := by
  unfold State.setZones
  simp only
  refine State.tableFrame.trans ?_ (Arrival.asOne_arrivalFrame _).tableFrame
  rw [Arrival.walkIf_state]
  rfl

/-- The rows that touch nothing but the table, the zones, the turn order list, what is on its way and the interface. -/
def onTableAlone : Instr → Bool
  | .load | .modify | .fetch | .find | .retire | .hold | .release | .rearm | .start | .stop | .confirm | .confirmFirst => true
  | .readTime | .readClock | .readZones | .readConfig | .setZones | .unknownCommand => true
  | .pointerByte _ | .transferBufferWrite _ | .commandWrite _ | .commandBegin | .ignoredRegisterWrite _ | .byteRead => true
  | .runCompleted _ | .capped _ | .waitLimitExpiry _ | .restEnd _ | .grantWalk => true
  | .patternTrigger _ | .permitFalse _ | .permitTrue _ | .pulseEdge _ | .followEvent _ _ => true
  | .setProtect _ | .setTime | .selectClock | .setFlags | .clearLatches | .configure | .engineStart | .engineSuspend => false
  | .nextNotice | .busStartOrStop _ _ | .secondEvent _ | .sensorPinChange _ _ | .sensorAcceptance _ => false
  | .crystalCheckPass | .mainsCheckPass | .checkTimeout | .readyCandidateFault | .clockSwitch | .activeSourceFault => false
  | .entryToBackup | .supplyDip | .returnFromBackup _ | .coldStart | .resetAssert | .resetRelease | .retentionMarkLost => false

theorem afterRow_tableFrame {i : Instr} (h : onTableAlone i = true) (s : State) : s.tableFrame (s.afterRow i) := by
  cases i with
  | load => exact afterRow_load_of rfl s.refuse_tableFrame fun _ _ _ _ _ _ _ => s.loadEntry_tableFrame _ _
  | modify =>
    exact afterRow_modify_of rfl s.refuse_settled_tableFrame fun _ _ _ _ _ _ _ _ _ =>
      s.settleSelf_tableFrame.trans (State.modifyEntry_tableFrame _ _ _ _)
  | retire =>
    exact afterRow_retire_of rfl s.refuse_tableFrame fun _ _ _ _ _ _ _ =>
      (s.applyAt_asOne_tableFrame _ _).trans ((State.removeEntry_tableFrame _ _).trans (State.complete_tableFrame _ _ _ _))
  | hold =>
    exact afterRow_hold_of rfl s.refuse_settled_tableFrame fun _ _ _ _ _ _ _ _ =>
      s.settleSelf_tableFrame.trans (State.moveEntry_tableFrame _ _ _)
  | release =>
    exact afterRow_release_of rfl s.refuse_settled_tableFrame fun n _ _ _ _ _ _ => s.settleSelf_tableFrame.trans
      ((State.dropFollowsTo_tableFrame _ n).trans (State.moveEntry_tableFrame _ _ _))
  | rearm =>
    exact afterRow_rearm_of rfl s.refuse_settled_tableFrame fun _ _ _ _ _ _ _ =>
      s.settleSelf_tableFrame.trans (State.moveEntry_tableFrame _ _ _)
  | start =>
    exact afterRow_start_of rfl s.refuse_settled_tableFrame fun _ _ _ _ _ _ _ =>
      s.settleSelf_tableFrame.trans (State.moveEntry_tableFrame _ _ _)
  | stop =>
    exact afterRow_stop_of rfl s.refuse_settled_tableFrame fun _ _ _ _ _ _ =>
      s.settleSelf_tableFrame.trans (State.moveEntry_tableFrame _ _ _)
  | confirm =>
    exact afterRow_confirm_of rfl s.refuse_settled_tableFrame fun _ _ _ _ _ _ => s.settleSelf_tableFrame.trans
      ((State.apply_arrivalFrame _ _).tableFrame.trans ((Arrival.asOne_arrivalFrame _).tableFrame.trans (State.complete_tableFrame _ _ _ _)))
  | confirmFirst =>
    exact afterRow_confirmFirst_of rfl (fun _ => s.refuse_settled_tableFrame) fun _ _ _ _ =>
      s.settleSelf_tableFrame.trans ((State.applyAt_asOne_tableFrame _ _ _).trans (State.complete_tableFrame _ _ _ _))
  | setZones =>
    exact afterRow_setZones_of rfl s.refuse_tableFrame fun _ _ _ _ => s.setZones_tableFrame.trans (State.complete_tableFrame _ _ _ _)
  | runCompleted | capped | waitLimitExpiry | restEnd | grantWalk | patternTrigger | permitFalse | permitTrue | pulseEdge
  | followEvent => exact (afterRow_arrivalFrame rfl s).tableFrame
  | fetch | find | readTime | readClock | readZones | readConfig | unknownCommand | pointerByte | transferBufferWrite | commandWrite
  | commandBegin | ignoredRegisterWrite | byteRead => exact (afterRow_ifaceFrame rfl s).tableFrame
  | _ => cases h

end Sys2Proof.Machine
end

section
/-! What each of the other rows leaves alone: one frame for each. -/

namespace Sys2Proof.Machine

/-! ### The rows of the interface, the Timebase and the signals -/

theorem afterRow_setProtect_frame (prg : Bool) (s : State) : s.afterRow (.setProtect prg) = { s with
    boundary := (s.afterRow (.setProtect prg)).boundary
    iface := (s.afterRow (.setProtect prg)).iface
    pins := (s.afterRow (.setProtect prg)).pins } :=
  afterRow_setProtect_of (P := fun t => t = { s with boundary := t.boundary, iface := t.iface, pins := t.pins }) rfl
    (fun _ _ => by rw [State.refuse_frame]; rfl) fun _ _ _ => by rw [State.complete_frame]; rfl

theorem afterRow_selectClock_frame (s : State) : s.afterRow .selectClock
    = { s with timebase := (s.afterRow .selectClock).timebase, iface := (s.afterRow .selectClock).iface } :=
  afterRow_selectClock_of (P := fun t => t = { s with timebase := t.timebase, iface := t.iface }) rfl
    (fun _ _ => by rw [State.refuse_frame]) fun _ _ _ => by rw [State.complete_frame, State.selectSource]

theorem afterRow_nextNotice_frame (s : State) : s.afterRow .nextNotice = { s with
    device := (s.afterRow .nextNotice).device
    table := (s.afterRow .nextNotice).table
    iface := (s.afterRow .nextNotice).iface } :=
  afterRow_nextNotice_of (P := fun t => t = { s with device := t.device, table := t.table, iface := t.iface }) rfl
    (fun _ _ => by rw [State.refuse_frame]) (fun _ _ => by rw [State.giveDeviceGroup, State.complete_frame])
    fun _ _ _ _ _ _ _ => by rw [State.giveEntryGroup, State.complete_frame, State.putEntry]

/-- From `s` to `t` nothing changes but the signals, the table, what is on its way and the interface. -/
def State.signalFrame (s t : State) : Prop :=
  t = { s with flags := t.flags, sensors := t.sensors, table := t.table, owed := t.owed, iface := t.iface }

theorem State.signalFrame.trans {s t u : State} (h : s.signalFrame t) (h' : t.signalFrame u) : s.signalFrame u := by
  unfold State.signalFrame at *
  rw [h', h]

theorem State.complete_signalFrame (s : State) (r : ResultCode) (d : Byte) (o : Option (List Byte)) :
    s.signalFrame (s.complete r d o) := by
  unfold State.signalFrame; rw [State.complete_frame]

theorem State.changeEvent_signalFrame (s : State) (before : Levels) : s.signalFrame (s.changeEvent before) := by
  unfold State.signalFrame; rw [State.changeEvent_frame]

theorem State.flags_signalFrame (s : State) (flags : SensorSet) : s.signalFrame { s with flags := flags } := rfl

theorem State.clearLatches_signalFrame (s : State) (set : SensorSet) : s.signalFrame (s.clearLatches set) := rfl

theorem afterRow_setFlags_frame (s : State) : s.signalFrame (s.afterRow .setFlags) :=
  afterRow_of rfl (onCompletion_of (fun _ => rfl) fun _ =>
    (s.flags_signalFrame _).trans ((State.changeEvent_signalFrame _ _).trans (State.complete_signalFrame _ _ _ _)))

theorem afterRow_clearLatches_frame (s : State) : s.signalFrame (s.afterRow .clearLatches) :=
  afterRow_of rfl (onCompletion_of (fun _ => rfl) fun _ =>
    (s.clearLatches_signalFrame _).trans ((State.changeEvent_signalFrame _ _).trans (State.complete_signalFrame _ _ _ _)))

theorem State.accept_frame (s : State) (k : SensorIx) (level : Bool) : s.accept k level = { s with
    sensors := (s.accept k level).sensors, table := (s.accept k level).table, owed := (s.accept k level).owed } := by
  unfold State.accept
  simp only
  split
  · rw [State.changeEvent_frame, State.putSensor]
  · rw [State.changeEvent_frame, State.putSensor]

theorem State.watchPin_frame (s : State) (k : SensorIx) : s.watchPin k = { s with
    sensors := (s.watchPin k).sensors, table := (s.watchPin k).table, owed := (s.watchPin k).owed } := by
  unfold State.watchPin
  simp only
  split
  · rfl
  split
  · exact s.accept_frame k _
  split
  · rfl
  · rfl

theorem afterRow_sensorPinChange_frame (k : SensorIx) (level : Bool) (s : State) : s.afterRow (.sensorPinChange k level) = { s with
    sensors := (s.afterRow (.sensorPinChange k level)).sensors
    table := (s.afterRow (.sensorPinChange k level)).table
    owed := (s.afterRow (.sensorPinChange k level)).owed } := by
  refine afterRow_of (P := fun t => t = { s with sensors := t.sensors, table := t.table, owed := t.owed }) rfl ?_
  split
  · rw [State.watchPin_frame]; rfl
  · rfl

theorem afterRow_sensorAcceptance_frame (k : SensorIx) (s : State) : s.afterRow (.sensorAcceptance k) = { s with
    sensors := (s.afterRow (.sensorAcceptance k)).sensors
    table := (s.afterRow (.sensorAcceptance k)).table
    owed := (s.afterRow (.sensorAcceptance k)).owed } := by
  refine afterRow_of (P := fun t => t = { s with sensors := t.sensors, table := t.table, owed := t.owed }) rfl ?_
  split
  · split
    · exact s.accept_frame k _
    · rfl
  · rfl

theorem afterRow_busStartOrStop_frame (c : BusCondition) (cut : Nat) (s : State) : s.afterRow (.busStartOrStop c cut) = { s with
    iface := (s.afterRow (.busStartOrStop c cut)).iface, pins := (s.afterRow (.busStartOrStop c cut)).pins } := by
  refine afterRow_of (P := fun t => t = { s with iface := t.iface, pins := t.pins }) rfl ?_
  unfold State.onBus
  split
  · have hbegin : s.begin = { s with iface := s.begin.iface } := by unfold State.begin; split <;> rfl
    rw [hbegin]
    cases c with
    | stop => rfl
    | start adr address read => unfold State.condition; simp only; split <;> rfl
  · rfl

/-- From `s` to `t` nothing changes but the Timebase, the device notices and the second events raised. -/
def State.timebaseFrame (s t : State) : Prop :=
  t = { s with timebase := t.timebase, device := t.device, owed := { s.owed with seconds := t.owed.seconds } }

theorem State.raiseSecond_timebaseFrame (s : State) : s.timebaseFrame s.raiseSecond := by
  unfold State.timebaseFrame
  delta State.raiseSecond
  simp only
  split <;> rfl

theorem State.fallback_timebaseFrame (s : State) (elapsed : Nat) : s.timebaseFrame (s.fallback elapsed) := rfl

theorem State.failCandidate_timebaseFrame (s : State) : s.timebaseFrame s.failCandidate := rfl

theorem State.timebaseFrame.trans {s t u : State} (h : s.timebaseFrame t) (h' : t.timebaseFrame u) : s.timebaseFrame u := by
  unfold State.timebaseFrame at *
  rw [h', h]

/-- The rows that touch nothing but the Timebase, the device notices and the second events raised. -/
def onTimebaseAlone : Instr → Bool
  | .crystalCheckPass | .mainsCheckPass | .checkTimeout | .readyCandidateFault | .clockSwitch | .activeSourceFault => true
  | _ => false

theorem afterRow_timebaseFrame {i : Instr} (h : onTimebaseAlone i = true) (s : State) : s.timebaseFrame (s.afterRow i) := by
  cases i with
  | crystalCheckPass | mainsCheckPass =>
    refine afterRow_of rfl ?_
    split
    · split <;> rfl
    · rfl
    · rfl
  | checkTimeout =>
    refine afterRow_of rfl ?_
    split
    · split <;> rfl
    · rfl
    · rfl
  | readyCandidateFault =>
    refine afterRow_of rfl ?_
    split
    · split <;> rfl
    · rfl
    · rfl
  | clockSwitch =>
    refine afterRow_of rfl ?_
    split
    · split
      · exact s.raiseSecond_timebaseFrame
      · rfl
    · rfl
    · rfl
  | activeSourceFault =>
    refine afterRow_of rfl ?_
    split <;> rfl
  | _ => cases h

/-! ### The second event, and the commands that it comes before -/

theorem afterRow_secondEvent_frame (order : SecondOrder) (s : State) : s.afterRow (.secondEvent order) = { s with
    calendar := (s.afterRow (.secondEvent order)).calendar
    table := (s.afterRow (.secondEvent order)).table
    zones := (s.afterRow (.secondEvent order)).zones
    timebase := (s.afterRow (.secondEvent order)).timebase
    device := (s.afterRow (.secondEvent order)).device
    owed := (s.afterRow (.secondEvent order)).owed } := by
  refine afterRow_of (P := fun t => t = { s with
    calendar := t.calendar, table := t.table, zones := t.zones, timebase := t.timebase, device := t.device, owed := t.owed }) rfl ?_
  split
  · rw [State.countSecond_frame]
    split
    · rw [State.raiseSecond_frame]
    · rfl
  · rfl

/-- From `s` to `t` nothing changes but what second events, follow events and walks change. -/
def State.eventFrame (s t : State) : Prop := t = { s with
  calendar := t.calendar, table := t.table, zones := t.zones, turn := t.turn, timebase := t.timebase, device := t.device
  owed := t.owed, ticks := t.ticks }

theorem State.eventFrame.trans {s t u : State} (h : s.eventFrame t) (h' : t.eventFrame u) : s.eventFrame u := by
  unfold State.eventFrame at *
  rw [h', h]

theorem State.finishUnderway_eventFrame (s : State) : s.eventFrame s.finishUnderway := by
  unfold State.eventFrame; rw [State.finishUnderway_frame]

theorem State.countRaised_eventFrame : ∀ (k : Nat) (s : State), s.eventFrame (s.countRaised k)
  | 0, _ => rfl
  | k + 1, s => by
    rw [State.countRaised]
    refine State.eventFrame.trans ?_ (State.countRaised_eventFrame k _)
    unfold State.eventFrame; rw [State.nextTick, State.countSecond_frame]

theorem State.secondsCome_eventFrame (s : State) : s.eventFrame s.secondsCome :=
  s.finishUnderway_eventFrame.trans (State.countRaised_eventFrame _ _)

theorem State.deliverLinks_eventFrame (s : State) (links : List FollowLink) : s.eventFrame (s.deliverLinks links) := by
  unfold State.eventFrame; rw [State.deliverLinks_frame]

theorem State.makeWalks_eventFrame (s : State) (k : Nat) : s.eventFrame (s.makeWalks k) := by
  unfold State.eventFrame; rw [State.makeWalks_frame]

theorem State.settleEnds_eventFrame (s : State) : s.eventFrame s.settleEnds :=
  s.finishUnderway_eventFrame.trans ((State.deliverLinks_eventFrame _ _).trans (State.makeWalks_eventFrame _ _))

theorem afterRow_setTime_frame (s : State) : s.afterRow .setTime = { s with
    calendar := (s.afterRow .setTime).calendar, timeValid := (s.afterRow .setTime).timeValid
    timebase := (s.afterRow .setTime).timebase, table := (s.afterRow .setTime).table, zones := (s.afterRow .setTime).zones
    turn := (s.afterRow .setTime).turn, device := (s.afterRow .setTime).device, owed := (s.afterRow .setTime).owed
    ticks := (s.afterRow .setTime).ticks, iface := (s.afterRow .setTime).iface } :=
  afterRow_setTime_of (P := fun t => t = { s with
      calendar := t.calendar, timeValid := t.timeValid, timebase := t.timebase, table := t.table, zones := t.zones
      turn := t.turn, device := t.device, owed := t.owed, ticks := t.ticks, iface := t.iface }) rfl
    (fun _ _ => by rw [State.refuse_frame]) fun _ _ => by
      have h := s.secondsCome_eventFrame
      unfold State.eventFrame at h
      rw [State.complete_frame, State.setTime, h]

theorem afterRow_engineStart_frame (s : State) : s.afterRow .engineStart = { s with
    engine := (s.afterRow .engineStart).engine, calendar := (s.afterRow .engineStart).calendar
    timebase := (s.afterRow .engineStart).timebase, table := (s.afterRow .engineStart).table
    zones := (s.afterRow .engineStart).zones, turn := (s.afterRow .engineStart).turn
    device := (s.afterRow .engineStart).device, owed := (s.afterRow .engineStart).owed
    ticks := (s.afterRow .engineStart).ticks, iface := (s.afterRow .engineStart).iface } :=
  afterRow_engineStart_of (P := fun t => t = { s with
      engine := t.engine, calendar := t.calendar, timebase := t.timebase, table := t.table, zones := t.zones, turn := t.turn
      device := t.device, owed := t.owed, ticks := t.ticks, iface := t.iface }) rfl
    (fun _ _ _ => by rw [State.complete_frame]) fun _ _ _ _ _ => by
      have h := s.finishUnderway_eventFrame
      unfold State.eventFrame at h
      rw [State.complete_frame, State.goLive, Arrival.asOne_frame, Arrival.walkIf_state, State.recheckAll, State.apply_frame,
        State.setMode, h]

theorem afterRow_engineSuspend_frame (s : State) : s.afterRow .engineSuspend = { s with
    engine := (s.afterRow .engineSuspend).engine, calendar := (s.afterRow .engineSuspend).calendar
    timebase := (s.afterRow .engineSuspend).timebase, table := (s.afterRow .engineSuspend).table
    zones := (s.afterRow .engineSuspend).zones, turn := (s.afterRow .engineSuspend).turn
    device := (s.afterRow .engineSuspend).device, owed := (s.afterRow .engineSuspend).owed
    ticks := (s.afterRow .engineSuspend).ticks, iface := (s.afterRow .engineSuspend).iface } :=
  afterRow_engineSuspend_of (P := fun t => t = { s with
      engine := t.engine, calendar := t.calendar, timebase := t.timebase, table := t.table, zones := t.zones, turn := t.turn
      device := t.device, owed := t.owed, ticks := t.ticks, iface := t.iface }) rfl
    (fun _ _ _ => by rw [State.complete_frame]) fun _ _ _ _ => by
      have h := s.settleEnds_eventFrame
      unfold State.eventFrame at h
      rw [State.complete_frame, Arrival.asOne_frame, State.resolveActive, State.apply_frame, State.dropArrivals, State.setMode, h]

/-! ### The rows of the configuration, the supply and the RESET line -/

theorem State.configure_frame (s : State) (c : SiteConfig) : s.configure c = { s with
    site := { config := c, valid := true, lock := true }, zones := allFree, sensors := (s.configure c).sensors
    table := (s.configure c).table, owed := (s.configure c).owed } := by
  unfold State.configure
  simp only
  rw [Arrival.asOne_frame, Arrival.walkIf_state, Arrival.quiet, State.changeEvent_frame, State.conditionAfresh]

theorem afterRow_configure_frame (s : State) : s.afterRow .configure = { s with
    site := (s.afterRow .configure).site, zones := (s.afterRow .configure).zones, sensors := (s.afterRow .configure).sensors
    table := (s.afterRow .configure).table, owed := (s.afterRow .configure).owed, iface := (s.afterRow .configure).iface } :=
  afterRow_configure_of (P := fun t => t = { s with
      site := t.site, zones := t.zones, sensors := t.sensors, table := t.table, owed := t.owed, iface := t.iface }) rfl
    (fun _ _ => by rw [State.refuse_frame]) fun _ _ _ _ => by rw [State.complete_frame, State.configure_frame]

theorem State.loseMains_timebaseFrame (s : State) : s.timebaseFrame s.loseMains := by
  unfold State.loseMains
  simp only
  have hfall : s.timebaseFrame (if s.timebase.active.isMains then s.fallback s.timebase.sincePrescaler else s) := by
    split
    · exact s.fallback_timebaseFrame _
    · rfl
  split
  · split
    · exact hfall.trans (State.failCandidate_timebaseFrame _)
    · exact hfall
  · exact hfall

/-- From `s` to `t` nothing changes but what the entry to BACKUP, the release of RESET and the conditioner's events at a return change. -/
def State.supplyFrame (s t : State) : Prop := t = { s with
  supply := t.supply, engine := t.engine, table := t.table, zones := t.zones, timebase := t.timebase, site := t.site
  flags := t.flags, sensors := t.sensors, device := t.device, iface := t.iface, owed := t.owed }

theorem State.supplyFrame.trans {s t u : State} (h : s.supplyFrame t) (h' : t.supplyFrame u) : s.supplyFrame u := by
  unfold State.supplyFrame at *
  rw [h', h]

theorem State.timebaseFrame.supplyFrame {s t : State} (h : s.timebaseFrame t) : s.supplyFrame t := by
  unfold State.timebaseFrame at h
  unfold State.supplyFrame
  rw [h]

theorem State.resolveActive_supplyFrame (s : State) (o : EntryOutcome) : s.supplyFrame (s.resolveActive o).state := by
  unfold State.supplyFrame; rw [State.resolveActive, State.apply_frame]

theorem State.enterBattery_dropArrivals_supplyFrame (s : State) : s.supplyFrame s.enterBattery.dropArrivals := rfl

theorem State.zonesInBackup_supplyFrame (s : State) : s.supplyFrame s.zonesInBackup := rfl

theorem State.abandonFilters_cutInterface_supplyFrame (s : State) : s.supplyFrame s.abandonFilters.cutInterface := rfl

theorem afterRow_entryToBackup_frame (s : State) : s.supplyFrame (s.afterRow .entryToBackup) := by
  refine afterRow_of rfl ?_
  split
  · exact s.enterBattery_dropArrivals_supplyFrame.trans ((State.resolveActive_supplyFrame _ _).trans
      ((State.zonesInBackup_supplyFrame _).trans
        ((State.loseMains_timebaseFrame _).supplyFrame.trans (State.abandonFilters_cutInterface_supplyFrame _))))
  · rfl

theorem afterRow_supplyDip_frame (s : State) : s.afterRow .supplyDip = { s with supply := (s.afterRow .supplyDip).supply } := by
  refine afterRow_of (P := fun t => t = { s with supply := t.supply }) rfl ?_
  split <;> rfl

/-- From `s` to `t` nothing changes but what the release of RESET and the conditioner's events at a return change. -/
def State.releaseFrame (s t : State) : Prop := t = { s with
  engine := t.engine, table := t.table, zones := t.zones, site := t.site, flags := t.flags, sensors := t.sensors
  device := t.device, iface := t.iface, owed := t.owed }

theorem State.releaseFrame.trans {s t u : State} (h : s.releaseFrame t) (h' : t.releaseFrame u) : s.releaseFrame u := by
  unfold State.releaseFrame at *
  rw [h', h]

theorem State.releaseFrame_refl (s : State) : s.releaseFrame s := rfl

theorem State.signalFrame.releaseFrame {s t : State} (h : s.signalFrame t) : s.releaseFrame t := by
  unfold State.signalFrame at h
  unfold State.releaseFrame
  rw [h]

theorem State.resolveActive_releaseFrame (s : State) (o : EntryOutcome) : s.releaseFrame (s.resolveActive o).state := by
  unfold State.releaseFrame; rw [State.resolveActive, State.apply_frame]

theorem State.setMode_dropArrivals_releaseFrame (s : State) (m : Mode) : s.releaseFrame (s.setMode m).dropArrivals := rfl

theorem State.zones_unhold_unlock_releaseFrame (s : State) (zones : Vector Zone 16) :
    s.releaseFrame ({ s with zones := zones } : State).unhold.unlock := rfl

theorem State.clearAllLatches_signalFrame (s : State) : s.signalFrame s.clearAllLatches := rfl

theorem State.clearSignals_signalFrame (s : State) : s.signalFrame s.clearSignals :=
  (s.flags_signalFrame 0).trans ((State.clearAllLatches_signalFrame _).trans (State.changeEvent_signalFrame _ _))

theorem State.clearNotices_freshInterface_releaseFrame (s : State) : s.releaseFrame s.clearNotices.freshInterface := by
  delta State.releaseFrame State.freshInterface State.clearNotices; rfl

theorem State.release_releaseFrame (s : State) : s.releaseFrame s.release :=
  (s.setMode_dropArrivals_releaseFrame .suspended).trans ((State.resolveActive_releaseFrame _ _).trans
    ((State.zones_unhold_unlock_releaseFrame _ _).trans
      ((State.clearSignals_signalFrame _).releaseFrame.trans (State.clearNotices_freshInterface_releaseFrame _))))

theorem State.watchPin_signalFrame (s : State) (k : SensorIx) : s.signalFrame (s.watchPin k) := by
  unfold State.signalFrame; rw [State.watchPin_frame]

theorem wakeEvents_signalFrame {first : List SensorIx} {f : State → State} (hf : f ∈ wakeEvents first) (s : State) :
    s.signalFrame (f s) := by
  rw [wakeEvents, List.mem_cons, List.mem_map] at hf
  rcases hf with rfl | ⟨k, -, rfl⟩
  · exact s.clearAllLatches_signalFrame.trans (State.changeEvent_signalFrame _ _)
  · exact s.watchPin_signalFrame k

/-- What every event keeps, events one after another keep. -/
theorem State.through_of {R : State → State → Prop} (hrefl : ∀ s, R s s) (htrans : ∀ s t u, R s t → R t u → R s u) :
    ∀ (events : List (State → State)) (s : State), (∀ f, f ∈ events → ∀ s, R s (f s)) → R s (s.through events)
  | [], s, _ => hrefl s
  | f :: rest, s, h => htrans _ _ _ (h f List.mem_cons_self s)
    (State.through_of hrefl htrans rest (f s) fun g hg => h g (List.mem_cons_of_mem f hg))

theorem State.through_signalFrame {first : List SensorIx} {events : List (State → State)}
    (h : ∀ f, f ∈ events → f ∈ wakeEvents first) (s : State) : s.signalFrame (s.through events) :=
  State.through_of (R := State.signalFrame) (fun _ => rfl) (fun _ _ _ => State.signalFrame.trans) events s
    fun _ hf => wakeEvents_signalFrame (h _ hf)

theorem State.restoreMode_releaseFrame (s : State) (m : Mode) : s.releaseFrame (s.restoreMode m) := by
  unfold State.restoreMode
  simp only
  split
  · unfold State.releaseFrame
    rw [State.goLive, Arrival.asOne_frame, Arrival.walkIf_state, State.recheckAll, State.apply_frame]
    rfl
  · rfl

theorem State.lineAtReturn_releaseFrame (s : State) : s.releaseFrame s.lineAtReturn.1 := by
  unfold State.lineAtReturn
  split
  · rfl
  split
  · exact s.release_releaseFrame
  · rfl

theorem State.report_releaseFrame (s : State) (c : DeviceSet) : s.releaseFrame (s.report c) := rfl

/-- What the return from BACKUP leaves: the line's level, the conditioner's events, and the mode at its place among them. -/
def State.returned (s : State) (order : ReturnOrder) : State :=
  ((((s.leaveBattery.freshInterface.lineAtReturn.1).report noticeSupplyReturn).through ((wakeEvents order.sensors).take order.place)).restoreMode
    s.leaveBattery.freshInterface.lineAtReturn.2).through ((wakeEvents order.sensors).drop order.place)

theorem afterRow_returnFromBackup (order : ReturnOrder) (s : State) : s.afterRow (.returnFromBackup order)
    = if s.powered && s.supply.condition == .battery then s.returned order else s :=
  rfl

theorem State.returned_releaseFrame (s : State) (order : ReturnOrder) :
    s.leaveBattery.freshInterface.releaseFrame (s.returned order) := by
  unfold State.returned
  exact (State.lineAtReturn_releaseFrame _).trans ((State.report_releaseFrame _ _).trans
    ((State.through_signalFrame (fun _ => List.mem_of_mem_take) _).releaseFrame.trans
      ((State.restoreMode_releaseFrame _ _).trans (State.through_signalFrame (fun _ => List.mem_of_mem_drop) _).releaseFrame)))

theorem afterRow_returnFromBackup_frame (order : ReturnOrder) (s : State) : s.afterRow (.returnFromBackup order) = { s with
    supply := (s.afterRow (.returnFromBackup order)).supply, iface := (s.afterRow (.returnFromBackup order)).iface
    engine := (s.afterRow (.returnFromBackup order)).engine, device := (s.afterRow (.returnFromBackup order)).device
    sensors := (s.afterRow (.returnFromBackup order)).sensors, flags := (s.afterRow (.returnFromBackup order)).flags
    table := (s.afterRow (.returnFromBackup order)).table, zones := (s.afterRow (.returnFromBackup order)).zones
    site := (s.afterRow (.returnFromBackup order)).site, owed := (s.afterRow (.returnFromBackup order)).owed } := by
  rw [afterRow_returnFromBackup]
  split
  · have h := s.returned_releaseFrame order
    unfold State.releaseFrame at h
    rw [h]
    rfl
  · rfl

theorem afterRow_resetAssert_frame (s : State) : s.afterRow .resetAssert = { s with
    engine := (s.afterRow .resetAssert).engine, owed := (s.afterRow .resetAssert).owed
    iface := (s.afterRow .resetAssert).iface, pins := (s.afterRow .resetAssert).pins } := by
  refine afterRow_of (P := fun t => t = { s with engine := t.engine, owed := t.owed, iface := t.iface, pins := t.pins }) rfl ?_
  split <;> rfl

theorem afterRow_resetRelease (s : State) : s.afterRow .resetRelease
    = if s.powered && s.supply.condition == .main && s.engine.held then (s.setResetLine false).release else s.setResetLine false :=
  rfl

/-- With the level of the line moved, RESET_RELEASE changes what a release changes. -/
theorem afterRow_resetRelease_frame (s : State) : (s.setResetLine false).releaseFrame (s.afterRow .resetRelease) := by
  rw [afterRow_resetRelease]
  split
  · exact State.release_releaseFrame _
  · exact State.releaseFrame_refl _

theorem afterRow_retentionMarkLost_frame (s : State) : s.afterRow .retentionMarkLost = { s with
    supply := (s.afterRow .retentionMarkLost).supply, owed := (s.afterRow .retentionMarkLost).owed
    iface := (s.afterRow .retentionMarkLost).iface } := rfl

/-- A cold start is one where the retention mark is lost, and nothing otherwise. -/
theorem afterRow_coldStart_of_powered {s : State} (h : s.powered = true) : s.afterRow .coldStart = s :=
  afterRow_of (P := fun t => t = s) rfl (if_pos h)

theorem afterRow_coldStart {s : State} (h : s.powered = false) : s.afterRow .coldStart = { State.reset with
    pending := s.pending
    sensors := Vector.ofFn fun k => s.sensors[k].coldStart
    pins := s.pins
    engine := { State.reset.engine with held := s.pins.reset }
    ticks := s.ticks } :=
  afterRow_of (P := fun t => t = _) rfl (if_neg (by rw [h]; decide))

/-! ### One internal cycle -/

theorem State.activeCycle_timebaseFrame (s : State) (p : Source → Bool) : s.timebaseFrame (s.activeCycle p) := by
  unfold State.activeCycle
  split
  · unfold State.prescale
    split
    · rfl
    · exact State.timebaseFrame.trans (t := { s with timebase := { s.timebase with quiet := 0 } }) rfl
        (State.raiseSecond_timebaseFrame _)
  · rfl

theorem State.selector_timebaseFrame (s : State) (x : Selector) :
    s.timebaseFrame { s with timebase := { s.timebase with selector := x } } := rfl

theorem State.crystalCycles_timebaseFrame : ∀ (k : Nat) (s : State), s.timebaseFrame (State.crystalCycles k s)
  | 0, _ => rfl
  | k + 1, s => by
    unfold State.crystalCycles
    split
    · exact (s.selector_timebaseFrame _).trans
        ((State.activeCycle_timebaseFrame _ _).trans (State.crystalCycles_timebaseFrame k _))
    · rfl

theorem State.tickTimebase_timebaseFrame (s : State) : s.timebaseFrame s.tickTimebase := by
  unfold State.tickTimebase
  simp only
  have hcrystal : s.timebaseFrame (State.crystalCycles (Config.crystalCycles s.ticks) (s.ageTimebase.activeCycle (· == .internal))) :=
    State.timebaseFrame.trans (t := s.ageTimebase) rfl
      ((State.activeCycle_timebaseFrame _ _).trans (State.crystalCycles_timebaseFrame _ _))
  split
  · exact hcrystal.trans ((State.selector_timebaseFrame _ _).trans (State.activeCycle_timebaseFrame _ _))
  · exact hcrystal

/-- One internal cycle moves the Timebase, the filter periods and the qualification time alone. -/
theorem State.tick_frame (s : State) : s.tick = { s with
    timebase := s.tick.timebase, device := s.tick.device, owed := { s.owed with seconds := s.tick.owed.seconds }
    sensors := s.tick.sensors, supply := s.tick.supply } := by
  have h : s.timebaseFrame (if s.powered then s.tickTimebase else s) := by
    split
    · exact s.tickTimebase_timebaseFrame
    · rfl
  unfold State.timebaseFrame at h
  have hfilters (u : State) : u.tickFilters = { u with sensors := u.tickFilters.sensors } := by
    unfold State.tickFilters; split <;> rfl
  have hsupply (u : State) : u.tickSupply = { u with supply := u.tickSupply.supply } := by
    unfold State.tickSupply; split <;> rfl
  unfold State.tick
  rw [hsupply, hfilters, h]

/-! ### What each row may touch -/

/-- The parts of the state that few rows touch. -/
inductive Part where
  | queue | turn | boundary | calendar | timeValid | timebase | sensors | flags | zones | engine | site | supply | device | pins
deriving DecidableEq

/-- What a part of the state holds. -/
def Part.Holds : Part → Type
  | .queue => List Instr
  | .turn => List EntryIx
  | .boundary => Nat
  | .calendar => Calendar
  | .timeValid => Bool
  | .timebase => Timebase
  | .sensors => Vector Sensor 8
  | .flags => SensorSet
  | .zones => Vector Zone 16
  | .engine => Engine
  | .site => Site
  | .supply => Supply
  | .device => DeviceSet
  | .pins => Pins

/-- A part of the state. -/
def State.part (s : State) : (p : Part) → p.Holds
  | .queue => s.pending
  | .turn => s.turn
  | .boundary => s.boundary
  | .calendar => s.calendar
  | .timeValid => s.timeValid
  | .timebase => s.timebase
  | .sensors => s.sensors
  | .flags => s.flags
  | .zones => s.zones
  | .engine => s.engine
  | .site => s.site
  | .supply => s.supply
  | .device => s.device
  | .pins => s.pins

/-- The parts that a row may touch. -/
def touches : Instr → List Part
  | .load | .modify | .fetch | .find | .retire | .hold | .release | .rearm | .start | .stop | .confirm | .confirmFirst => [.turn, .zones]
  | .readTime | .readClock | .readZones | .readConfig | .setZones | .unknownCommand => [.turn, .zones]
  | .pointerByte _ | .transferBufferWrite _ | .commandWrite _ | .commandBegin | .ignoredRegisterWrite _ | .byteRead => [.turn, .zones]
  | .runCompleted _ | .capped _ | .waitLimitExpiry _ | .restEnd _ | .grantWalk => [.turn, .zones]
  | .patternTrigger _ | .permitFalse _ | .permitTrue _ | .pulseEdge _ | .followEvent _ _ => [.turn, .zones]
  | .crystalCheckPass | .mainsCheckPass | .checkTimeout | .readyCandidateFault | .clockSwitch | .activeSourceFault => [.timebase, .device]
  | .setProtect _ => [.boundary, .pins]
  | .setTime => [.calendar, .timeValid, .timebase, .zones, .turn, .device]
  | .selectClock => [.timebase]
  | .setFlags | .clearLatches | .sensorPinChange _ _ | .sensorAcceptance _ => [.flags, .sensors]
  | .configure => [.site, .zones, .sensors]
  | .engineStart | .engineSuspend => [.engine, .calendar, .timebase, .zones, .turn, .device]
  | .nextNotice => [.device]
  | .busStartOrStop _ _ => [.pins]
  | .secondEvent _ => [.calendar, .zones, .timebase, .device]
  | .entryToBackup | .returnFromBackup _ => [.supply, .engine, .zones, .timebase, .site, .flags, .sensors, .device]
  | .supplyDip | .retentionMarkLost => [.supply]
  | .coldStart =>
    [.turn, .boundary, .calendar, .timeValid, .timebase, .sensors, .flags, .zones, .engine, .site, .supply, .device]
  | .resetAssert => [.engine, .pins]
  | .resetRelease => [.engine, .zones, .site, .flags, .sensors, .device, .pins]

/-- A part stays that the frame of a row does not name. -/
theorem State.part_of_frame {s t u : State} {p : Part} (h : t = u) (hu : u.part p = s.part p) : t.part p = s.part p := by
  rw [h, hu]

theorem afterRow_part {i : Instr} {p : Part} (h : p ∉ touches i) (s : State) : (s.afterRow i).part p = s.part p := by
  cases i
  case' setProtect prg => refine State.part_of_frame (afterRow_setProtect_frame prg s) ?_
  case' setTime => refine State.part_of_frame (afterRow_setTime_frame s) ?_
  case' selectClock => refine State.part_of_frame (afterRow_selectClock_frame s) ?_
  case' setFlags => refine State.part_of_frame (afterRow_setFlags_frame s) ?_
  case' clearLatches => refine State.part_of_frame (afterRow_clearLatches_frame s) ?_
  case' configure => refine State.part_of_frame (afterRow_configure_frame s) ?_
  case' engineStart => refine State.part_of_frame (afterRow_engineStart_frame s) ?_
  case' engineSuspend => refine State.part_of_frame (afterRow_engineSuspend_frame s) ?_
  case' nextNotice => refine State.part_of_frame (afterRow_nextNotice_frame s) ?_
  case' busStartOrStop c cut => refine State.part_of_frame (afterRow_busStartOrStop_frame c cut s) ?_
  case' secondEvent order => refine State.part_of_frame (afterRow_secondEvent_frame order s) ?_
  case' sensorPinChange k level => refine State.part_of_frame (afterRow_sensorPinChange_frame k level s) ?_
  case' sensorAcceptance k => refine State.part_of_frame (afterRow_sensorAcceptance_frame k s) ?_
  case' entryToBackup => refine State.part_of_frame (afterRow_entryToBackup_frame s) ?_
  case' supplyDip => refine State.part_of_frame (afterRow_supplyDip_frame s) ?_
  case' returnFromBackup order => refine State.part_of_frame (afterRow_returnFromBackup_frame order s) ?_
  case' resetAssert => refine State.part_of_frame (afterRow_resetAssert_frame s) ?_
  case' resetRelease => refine State.part_of_frame (afterRow_resetRelease_frame s) ?_
  case' retentionMarkLost => refine State.part_of_frame (afterRow_retentionMarkLost_frame s) ?_
  case' crystalCheckPass | mainsCheckPass | checkTimeout | readyCandidateFault | clockSwitch | activeSourceFault =>
    refine State.part_of_frame (afterRow_timebaseFrame rfl s) ?_
  case coldStart =>
    obtain hp | hp := Bool.eq_false_or_eq_true s.powered
    · rw [afterRow_coldStart_of_powered hp]
    · refine State.part_of_frame (afterRow_coldStart hp) ?_
      cases p <;> first | rfl | exact absurd (by decide) h
  case' load | modify | fetch | find | retire | hold | release | rearm | start | stop | confirm | confirmFirst | readTime | readClock
      | setZones | readZones | readConfig | unknownCommand | pointerByte | transferBufferWrite | commandWrite | commandBegin
      | ignoredRegisterWrite | runCompleted | capped | waitLimitExpiry | restEnd | grantWalk | patternTrigger | permitFalse
      | permitTrue | pulseEdge | followEvent | byteRead =>
    refine State.part_of_frame (afterRow_tableFrame rfl s) ?_
  all_goals cases p <;> first | rfl | exact absurd (by simp [touches]) h

/-- Settles O1: the step takes the front of the queue by definition. -/
theorem stepTakesFrontRow : Obligations.StepTakesFrontRow := fun _ _ _ => rfl

/-- No row touches the queue. -/
theorem afterRow_pending (i : Instr) (s : State) : (s.afterRow i).pending = s.pending :=
  afterRow_part (p := .queue) (by cases i <;> simp [touches]) s

/-- Settles O2: every row answers the state that it leaves, and its frame keeps the queue. -/
theorem noRowStops : Obligations.NoRowStops := by
  refine ⟨fun i s => ⟨_, exec_eq_afterRow i s, afterRow_pending i s⟩, fun s => ?_⟩
  unfold State.goesOn step
  split
  · exact ⟨_, exec_eq_afterRow _ _⟩
  · unfold idle
    split
    · exact ⟨_, rfl⟩
    · exact ⟨_, exec_eq_afterRow _ _⟩

end Sys2Proof.Machine
end

section
/-! What an arrival can do at one entry, said once for every law of the table and the zones: it keeps the definition, it makes no entry
active outside LIVE, it keeps the counts in their range, and what it does to the entry's zones agrees with the state it leaves. -/

namespace Sys2Proof.Machine

/-! ### The states -/

/-- Whether a state is RUNNING. -/
def Phase.isRunning : Phase → Bool
  | .running _ => true
  | .armed | .held | .due _ | .paused _ | .confirming | .spent => false

theorem slotRunning_some (e : Entry) : slotRunning (some e) = e.phase.isRunning := by
  cases hp : e.phase <;> simp [slotRunning, Phase.isRunning, hp]

theorem Phase.isRunning_iff {p : Phase} : p.isRunning = true ↔ ∃ r, p = .running r := by cases p <;> simp [Phase.isRunning]

theorem Phase.ownsZones_of_isActive_false {p : Phase} (h : p.isActive = false) : p.ownsZones = false := by
  cases p <;> first | rfl | exact h

theorem Phase.isRunning_of_ownsZones_false {p : Phase} (h : p.ownsZones = false) : p.isRunning = false := by
  cases p <;> first | rfl | exact h

theorem Phase.countsInRange_of_not_active {p : Phase} (h : p.isActive = false) : p.countsInRange := by
  cases p with
  | due w => cases h
  | running r => cases h
  | paused r => cases h
  | armed => trivial
  | held => trivial
  | confirming => trivial
  | spent => trivial

@[simp] theorem Definition.afterUse_isActive (d : Definition) : d.afterUse.isActive = false := by
  unfold Definition.afterUse; split <;> rfl

/-- No resolution enters a state that is active (R33). -/
@[simp] theorem Definition.nextPhase_isActive (d : Definition) (o : EntryOutcome) : (d.nextPhase o).isActive = false := by
  unfold Definition.nextPhase
  split
  case h_1 | h_2 | h_3 =>
    split
    · rfl
    · exact d.afterUse_isActive
  case h_4 | h_5 | h_6 => exact d.afterUse_isActive
  case h_7 => rfl

/-! ### Lawful effects -/

/-- R120: what happens to the zones of an entry agrees with the states it leaves and enters. -/
def ZoneEffect.agrees (x : ZoneEffect) (before after : Phase) : Prop :=
  match x with
  | .keep => after.ownsZones = before.ownsZones ∧ after.isRunning = before.isRunning
  | .release => before.ownsZones = true ∧ after.ownsZones = false
  | .pause => before.isRunning = true ∧ ∃ r, after = .paused r
  | .resume => (∃ r, before = .paused r) ∧ after.isRunning = true

/-- What every arrival keeps at the entry it reaches. -/
structure Effect.Lawful (v : View) (e : Entry) (x : Effect) : Prop where
  defn : x.entry.defn = e.defn
  inactive : v.live = false → e.phase.isActive = false → x.entry.phase.isActive = false
  counts : countInRange e.defn.duration → e.phase.countsInRange → x.entry.phase.countsInRange
  zones : x.zones.agrees e.phase x.entry.phase

section
variable {v : View} {e : Entry}

theorem Effect.lawful_of_phase {e' : Entry} {walk : Bool} (hd : e'.defn = e.defn) (hp : e'.phase = e.phase) :
    ({ Effect.only e' with walk := walk } : Effect).Lawful v e :=
  ⟨hd, fun _ h => hp ▸ h, fun _ h => hp ▸ h, ⟨congrArg _ hp, congrArg _ hp⟩⟩

theorem Effect.only_lawful (v : View) (e : Entry) : (Effect.only e).Lawful v e := Effect.lawful_of_phase rfl rfl

theorem Entry.note_lawful (v : View) (e : Entry) (c : Category) : (Effect.only (e.note c)).Lawful v e :=
  Effect.lawful_of_phase rfl rfl

/-- An arrival after another at the same entry, where one of the two keeps the zones. -/
theorem Effect.Lawful.andThen {a : Effect} {f : Entry → Effect} (ha : a.Lawful v e) (hf : (f a.entry).Lawful v a.entry)
    (hkeep : a.zones = .keep ∨ (f a.entry).zones = .keep) : (a.andThen f).Lawful v e := by
  refine ⟨hf.defn.trans ha.defn, fun hl hi => hf.inactive hl (ha.inactive hl hi),
    fun hd hc => hf.counts (ha.defn ▸ hd) (ha.counts hd hc), ?_⟩
  have hza := ha.zones
  have hzf := hf.zones
  simp only [Effect.andThen]
  split
  · next hk =>
    rw [hk] at hzf
    obtain ⟨hown, hrun⟩ := hzf
    revert hza
    cases a.zones with
    | keep => exact fun h => ⟨hown.trans h.1, hrun.trans h.2⟩
    | release => exact fun h => ⟨h.1, hown.trans h.2⟩
    | pause =>
      rintro ⟨hr, r, hp⟩
      rw [hp] at hown hrun
      refine ⟨hr, ?_⟩
      revert hown hrun
      cases (f a.entry).entry.phase <;> simp [Phase.ownsZones, Phase.isRunning]
    | resume => exact fun h => ⟨h.1, hrun.trans h.2⟩
  · next hk =>
    rw [hkeep.resolve_right hk] at hza
    obtain ⟨hown, hrun⟩ := hza
    revert hzf
    cases hz : (f a.entry).zones with
    | keep => exact absurd hz hk
    | release => exact fun h => ⟨hown ▸ h.1, h.2⟩
    | pause => exact fun h => ⟨hrun ▸ h.1, h.2⟩
    | resume =>
      rintro ⟨⟨r, hp⟩, hr⟩
      rw [hp] at hown hrun
      refine ⟨?_, hr⟩
      revert hown hrun
      cases e.phase <;> simp [Phase.ownsZones, Phase.isRunning]

/-- R48: a re-check makes an ARMED entry DUE in LIVE, or leaves it. -/
theorem Entry.recheck_lawful (v : View) (e : Entry) : (e.recheck v).Lawful v e := by
  unfold Entry.recheck
  split
  · next h =>
    simp only [Entry.recheckTakes, Bool.and_eq_true] at h
    obtain ⟨⟨⟨hlive, harmed⟩, -⟩, -⟩ := h
    have hp : e.phase = .armed := by revert harmed; cases e.phase <;> simp [Phase.isArmed]
    exact ⟨rfl, fun hl => absurd (hlive.symm.trans hl) (by decide), fun _ _ k hk => by simp at hk, by rw [hp]; exact ⟨rfl, rfl⟩⟩
  · exact Effect.only_lawful v e

/-- R32: a resolution into a state that is not active. -/
theorem Entry.settle_lawful (v : View) (o : EntryOutcome) {next : Phase} (hn : next.isActive = false) (e : Entry) :
    (e.settle v o next).Lawful v e := by
  have hphase := Entry.settle_phase v o next e
  refine ⟨Entry.settle_defn v o next e, fun hl _ => ?_, fun _ _ => ?_, ?_⟩
  · rw [Entry.settle_phase_of_not_live o next e hl]
    exact hn
  · rcases hphase with h | ⟨-, -, h⟩
    · rw [h]; exact Phase.countsInRange_of_not_active hn
    · rw [h]; exact fun k hk => by simp at hk
  · have hown : (e.settle v o next).entry.phase.ownsZones = false := by
      rcases hphase with h | ⟨-, -, h⟩
      · rw [h]; exact Phase.ownsZones_of_isActive_false hn
      · rw [h]; rfl
    rw [Entry.settle_zones]
    split
    · exact ⟨‹_›, hown⟩
    · next he =>
      have he' : e.phase.ownsZones = false := Bool.eq_false_iff.mpr he
      exact ⟨hown.trans he'.symm, (Phase.isRunning_of_ownsZones_false hown).trans (Phase.isRunning_of_ownsZones_false he').symm⟩

theorem Entry.resolve_lawful (v : View) (o : EntryOutcome) (e : Entry) : (e.resolve v o).Lawful v e :=
  Entry.settle_lawful v o (e.defn.nextPhase_isActive o) e

theorem Entry.holdActive_lawful (v : View) (e : Entry) : (e.holdActive v).Lawful v e := Entry.settle_lawful v _ rfl e

/-- What leaves an entry inactive that was not active either. -/
theorem Effect.lawful_of_inactive {e' : Entry} (hd : e'.defn = e.defn) (he : e.phase.isActive = false)
    (he' : e'.phase.isActive = false) : (Effect.only e').Lawful v e := by
  have hown := Phase.ownsZones_of_isActive_false he
  have hown' := Phase.ownsZones_of_isActive_false he'
  exact ⟨hd, fun _ _ => he', fun _ _ => Phase.countsInRange_of_not_active he',
    ⟨hown'.trans hown.symm, (Phase.isRunning_of_ownsZones_false hown').trans (Phase.isRunning_of_ownsZones_false hown).symm⟩⟩

/-- What is lawful at an entry put into another state that is not active is lawful at an entry that was not active either. -/
theorem Effect.Lawful.of_inactive {e' : Entry} {x : Effect} (h : x.Lawful v e') (hd : e'.defn = e.defn)
    (he : e.phase.isActive = false) (he' : e'.phase.isActive = false) : x.Lawful v e := by
  have hown := Phase.ownsZones_of_isActive_false he
  have hown' := Phase.ownsZones_of_isActive_false he'
  have hrun := Phase.isRunning_of_ownsZones_false hown
  have hrun' := Phase.isRunning_of_ownsZones_false hown'
  refine ⟨h.defn.trans hd, fun hl _ => h.inactive hl he', fun hc _ => h.counts (hd ▸ hc) (Phase.countsInRange_of_not_active he'), ?_⟩
  have hz := h.zones
  revert hz
  cases x.zones with
  | keep => exact fun hz => ⟨hz.1.trans (hown'.trans hown.symm), hz.2.trans (hrun'.trans hrun.symm)⟩
  | release => exact fun hz => absurd (hz.1.symm.trans hown') (by decide)
  | pause => exact fun hz => absurd (hz.1.symm.trans hrun') (by decide)
  | resume =>
    rintro ⟨⟨r, hp⟩, -⟩
    rw [hp] at hown'
    cases hown'

theorem Entry.arm_lawful (v : View) (he : e.phase.isActive = false) : (e.arm v).Lawful v e :=
  (Entry.recheck_lawful v { e with phase := .armed }).of_inactive rfl he rfl

theorem Entry.confirmed_lawful (v : View) (he : e.phase.isActive = false) : (e.confirmed v).Lawful v e :=
  (Entry.recheck_lawful v { e with phase := e.defn.afterUse }).of_inactive rfl he e.defn.afterUse_isActive

theorem Entry.held?_lawful {x : Effect} (h : e.held? v = some x) : x.Lawful v e := by
  unfold Entry.held? at h
  split at h
  case h_1 | h_2 =>
    cases h
    exact Effect.lawful_of_inactive rfl (by simp [*, Phase.isActive]) rfl
  case h_3 | h_4 | h_5 =>
    cases h
    exact Entry.holdActive_lawful v e
  case h_6 | h_7 => cases h

theorem RunState.restarted_counts {r : RunState} (h : countInRange r.counter ∧ countInRange r.duration) :
    countInRange r.restarted.counter ∧ countInRange r.restarted.duration := ⟨h.2, h.2⟩

/-- R26 to R29: a trigger. -/
theorem Entry.trigger_lawful (v : View) (levels : Levels) (snapshot : Option Levels) (e : Entry) :
    (e.trigger v levels snapshot).Lawful v e := by
  unfold Entry.trigger
  split
  · next hlive =>
    have live : ∀ {p : Prop}, v.live = false → p := fun h => absurd (hlive.symm.trans h) (by decide)
    split
    · next hp =>
      split
      · exact ⟨rfl, live, fun _ _ k hk => by simp at hk, by rw [hp]; exact ⟨rfl, rfl⟩⟩
      · exact (Entry.resolve_lawful v .blocked { e with snapshot := snapshot }).of_inactive rfl (by rw [hp]; rfl) (by simp [hp, Phase.isActive])
    · exact e.note_lawful v .overlap
    · exact e.note_lawful v .overlap
    · next r hp =>
      split
      · refine ⟨rfl, live, fun _ h => ?_, by rw [hp]; exact ⟨rfl, rfl⟩⟩
        rw [hp] at h
        exact RunState.restarted_counts h
      · exact e.note_lawful v .overlap
    · next r hp =>
      split
      · refine ⟨rfl, live, fun _ h => ?_, by rw [hp]; exact ⟨rfl, rfl⟩⟩
        rw [hp] at h
        exact RunState.restarted_counts h
      · exact e.note_lawful v .overlap
    · exact Effect.only_lawful v e
    · exact Effect.only_lawful v e
  · exact Effect.only_lawful v e

theorem Entry.patternTrigger_lawful (v : View) (levels : Levels) (e : Entry) : (e.patternTrigger v levels).Lawful v e := by
  unfold Entry.patternTrigger
  split
  · split
    · exact e.note_lawful v .overlap
    · exact e.trigger_lawful v levels _
  · exact Effect.only_lawful v e

theorem Entry.followEvent_lawful (v : View) (e : Entry) : (e.followEvent v).Lawful v e := by
  unfold Entry.followEvent
  split
  · exact e.trigger_lawful v _ _
  · exact Effect.only_lawful v e

/-- R101, R102: a counted second that does not end the run leaves its counter in range. -/
theorem RunState.countSecond_counter {unit : RunUnit} {r : RunState} (hends : r.secondEnds unit = false)
    (h : countInRange r.counter) : countInRange (r.countSecond unit).counter := by
  obtain ⟨hlo, hhi⟩ := h
  unfold RunState.secondEnds at hends
  unfold RunState.countSecond
  cases unit with
  | seconds =>
    have : ¬ r.counter ≤ 1 := by simpa using hends
    exact ⟨by simp only; omega, by simp only; omega⟩
  | minutes =>
    simp only
    split
    · exact ⟨hlo, hhi⟩
    · simp only [Bool.and_eq_false_iff, decide_eq_false_iff_not] at hends
      exact ⟨by simp only; omega, by simp only; omega⟩
  | pulses => exact ⟨hlo, hhi⟩

@[simp] theorem RunState.countSecond_duration (unit : RunUnit) (r : RunState) : (r.countSecond unit).duration = r.duration := by
  unfold RunState.countSecond
  split
  · rfl
  · split <;> rfl
  · rfl

/-- A counted second that ends nothing. -/
theorem Entry.countOn_lawful (v : View) (h : e.secondEnds = none) : (Effect.only e.countOn).Lawful v e := by
  unfold Entry.countOn
  split
  · next w hp =>
    refine ⟨rfl, fun _ hi => absurd hi (by simp [hp, Phase.isActive]), fun _ hc k hk => ?_, by rw [hp]; exact ⟨rfl, rfl⟩⟩
    rw [hp] at hc
    refine hc k ?_
    rw [← hk]
    unfold WaitState.next; split <;> rfl
  · next r hp =>
    refine ⟨rfl, fun _ hi => absurd hi (by simp [hp, Phase.isActive]), fun _ hc => ?_, by rw [hp]; exact ⟨rfl, rfl⟩⟩
    rw [hp] at hc
    have hends : r.secondEnds e.defn.unit = false := by
      unfold Entry.secondEnds at h
      simp only [hp] at h
      split at h
      · cases h
      · exact Bool.eq_false_iff.mpr ‹_›
    exact ⟨RunState.countSecond_counter hends hc.1, by simpa [RunState.countCap] using hc.2⟩
  · next r hp =>
    refine ⟨rfl, fun _ hi => absurd hi (by simp [hp, Phase.isActive]), fun _ hc => ?_, by rw [hp]; exact ⟨rfl, rfl⟩⟩
    rw [hp] at hc
    exact hc
  all_goals exact Effect.only_lawful v e

theorem Entry.count_lawful (v : View) (e : Entry) : (e.count v).Lawful v e := by
  unfold Entry.count
  split
  · exact e.resolve_lawful v _
  · exact Entry.countOn_lawful v ‹_›

theorem Entry.secondEvent_lawful (v : View) (matched matchFirst skipCount : Bool) (e : Entry) :
    (e.secondEvent v matched matchFirst skipCount).Lawful v e := by
  have hcount : ∀ (b : Bool) (x : Entry), (if b then x.count v else Effect.only x : Effect).Lawful v x := fun b x => by
    split
    · exact x.count_lawful v
    · exact Effect.only_lawful v x
  have hmatch : ∀ x : Entry, (if matched then x.trigger v v.levels none else Effect.only x : Effect).Lawful v x := fun x => by
    split
    · exact x.trigger_lawful v _ _
    · exact Effect.only_lawful v x
  have hkeep : ∀ x : Entry, (if matched then x.trigger v v.levels none else Effect.only x : Effect).zones = .keep := fun x => by
    split
    · exact Entry.trigger_zones _ _ _ _
    · rfl
  unfold Entry.secondEvent
  simp only
  split
  · exact (hmatch e).andThen (hcount _ _) (Or.inl (hkeep e))
  · exact (hcount _ e).andThen (hmatch _) (Or.inr (hkeep _))

/-- R103: a pulse edge. -/
theorem Entry.pulse_lawful (v : View) (k : SensorIx) (e : Entry) : (e.pulse v k).Lawful v e := by
  unfold Entry.pulse
  split
  · next r hp =>
    split
    · split
      · exact e.resolve_lawful v _
      · next hr =>
        refine ⟨rfl, fun _ hi => absurd hi (by simp [hp, Phase.isActive]), fun _ hc => ?_, by rw [hp]; exact ⟨rfl, rfl⟩⟩
        rw [hp] at hc
        obtain ⟨⟨hlo, hhi⟩, hdur⟩ := hc
        exact ⟨⟨by simp only; omega, by simp only; omega⟩, hdur⟩
    · exact Effect.only_lawful v e
  all_goals exact Effect.only_lawful v e

/-- R106 to R108: a permit transition. -/
theorem Entry.permitTransition_lawful (v : View) (value : Bool) (e : Entry) : (e.permitTransition v value).Lawful v e := by
  unfold Entry.permitTransition
  split
  case h_1 _ _ r hp =>
    split
    · split
      · refine ⟨rfl, fun _ hi => absurd hi (by simp [hp, Phase.isActive]), fun _ hc => ?_, ?_⟩
        · rw [hp] at hc; exact hc
        · exact ⟨by rw [hp]; rfl, r, rfl⟩
      · exact e.resolve_lawful v _
    · exact Effect.only_lawful v e
  case h_2 _ _ r hp =>
    refine ⟨rfl, fun _ hi => absurd hi (by simp [hp, Phase.isActive]), fun _ hc => ?_, ⟨⟨r, hp⟩, rfl⟩⟩
    rw [hp] at hc; exact hc
  case h_3 => exact Effect.lawful_of_phase rfl rfl
  case h_4 => exact Effect.only_lawful v e

/-- R131: a preemption victim. -/
theorem Entry.victimised_lawful (v : View) (e : Entry) : e.victimised.Lawful v e := by
  unfold Entry.victimised
  split
  case h_1 r hp | h_2 r hp =>
    refine ⟨rfl, fun _ hi => absurd hi (by simp [hp, Phase.isActive]), fun _ hc k hk => ?_, ⟨by rw [hp]; rfl, rfl⟩⟩
    rw [hp] at hc
    cases hk
    exact hc.1
  all_goals exact Effect.only_lawful v e

end

end Sys2Proof.Machine
end

section
/-! The laws of the table and the zones, row by row, said once for every such law: a law that is kept by an arrival that is lawful at
every entry, by counted rests and by a grant is kept by every ordinary row and by an internal cycle. -/

namespace Sys2Proof.Machine

/-! ### States that such a law cannot tell apart -/

/-- What a law of the table reads of a slot. -/
def slotCore (slot : Option Entry) : Option (Definition × Phase) := slot.map fun e => (e.defn, e.phase)

/-- From `s` to `t` the turn order list stays, and so do the definition and the state of every slot. -/
structure State.SameTable (s t : State) : Prop where
  turn : t.turn = s.turn
  core : ∀ n : EntryIx, slotCore t.table[n] = slotCore s.table[n]

/-- From `s` to `t` the zones, the engine mode and the settings stay too. -/
structure State.Still (s t : State) : Prop extends s.SameTable t where
  zones : t.zones = s.zones
  mode : t.engine.mode = s.engine.mode
  settings : t.settings = s.settings

theorem slotCore_some {slot slot' : Option Entry} (h : slotCore slot' = slotCore slot) {e' : Entry} (he : slot' = some e') :
    ∃ e, slot = some e ∧ e.defn = e'.defn ∧ e.phase = e'.phase := by
  subst he
  cases slot with
  | none => simp [slotCore] at h
  | some e =>
    simp only [slotCore, Option.map_some, Option.some.injEq, Prod.mk.injEq] at h
    exact ⟨e, rfl, h.1.symm, h.2.symm⟩

theorem slotCore_isSome {slot slot' : Option Entry} (h : slotCore slot' = slotCore slot) : slot'.isSome = slot.isSome := by
  have := congrArg Option.isSome h
  simpa [slotCore] using this

theorem State.SameTable.refl (s : State) : s.SameTable s := ⟨rfl, fun _ => rfl⟩

theorem State.SameTable.trans {s t u : State} (h : s.SameTable t) (h' : t.SameTable u) : s.SameTable u :=
  ⟨h'.turn.trans h.turn, fun n => (h'.core n).trans (h.core n)⟩

theorem State.Still.refl (s : State) : s.Still s := ⟨.refl s, rfl, rfl, rfl⟩

theorem State.Still.trans {s t u : State} (h : s.Still t) (h' : t.Still u) : s.Still u :=
  ⟨h.toSameTable.trans h'.toSameTable, h'.zones.trans h.zones, h'.mode.trans h.mode, h'.settings.trans h.settings⟩

theorem State.SameTable.still {s t : State} (h : s.SameTable t) (hzones : t.zones = s.zones)
    (hmode : t.engine.mode = s.engine.mode) (hsite : t.site = s.site) : s.Still t :=
  ⟨h, hzones, hmode, by rw [State.settings, State.settings, hsite]⟩

/-- Where the table, the turn order list, the zones, the mode and the site record are the same. -/
theorem State.Still.of_eq {s t : State} (htable : t.table = s.table) (hturn : t.turn = s.turn) (hzones : t.zones = s.zones)
    (hmode : t.engine.mode = s.engine.mode) (hsite : t.site = s.site) : s.Still t :=
  State.SameTable.still ⟨hturn, fun n => by rw [htable]⟩ hzones hmode hsite

theorem State.Still.of_owed {s t : State} (h : t = { s with owed := t.owed }) : s.Still t := by
  rw [h]; exact .of_eq rfl rfl rfl rfl rfl

theorem State.ifaceFrame.still {s t : State} (h : s.ifaceFrame t) : s.Still t := by
  unfold State.ifaceFrame at h
  rw [h]; exact .of_eq rfl rfl rfl rfl rfl

theorem State.timebaseFrame.still {s t : State} (h : s.timebaseFrame t) : s.Still t := by
  unfold State.timebaseFrame at h
  rw [h]; exact .of_eq rfl rfl rfl rfl rfl

theorem State.complete_still (s : State) (r : ResultCode) (d : Byte) (o : Option (List Byte)) : s.Still (s.complete r d o) :=
  (s.complete_ifaceFrame r d o).still

theorem State.changeEvent_still (s : State) (before : Levels) : s.Still (s.changeEvent before) where
  turn := State.changeEvent_turn s before
  core n := by
    rw [State.changeEvent_table]
    split
    · rfl
    · cases s.table[n] <;> rfl
  zones := State.changeEvent_zones s before
  mode := by rw [State.changeEvent_engine]
  settings := by rw [State.settings, State.settings, State.changeEvent_site]

theorem State.accept_still (s : State) (k : SensorIx) (level : Bool) : s.Still (s.accept k level) := by
  have hput (x : Sensor) : s.Still ((s.putSensor k x).changeEvent s.levels) :=
    State.Still.trans (t := s.putSensor k x) (.of_eq rfl rfl rfl rfl rfl) (State.changeEvent_still _ _)
  unfold State.accept
  simp only
  split
  · exact (hput _).trans (.of_owed rfl)
  · exact hput _

theorem State.watchPin_still (s : State) (k : SensorIx) : s.Still (s.watchPin k) := by
  unfold State.watchPin
  simp only
  split
  · exact .of_eq rfl rfl rfl rfl rfl
  split
  · exact s.accept_still k _
  split
  · exact .refl s
  · exact .of_eq rfl rfl rfl rfl rfl

theorem wakeEvents_still {first : List SensorIx} {f : State → State} (hf : f ∈ wakeEvents first) (s : State) : s.Still (f s) := by
  rw [wakeEvents, List.mem_cons, List.mem_map] at hf
  rcases hf with rfl | ⟨k, -, rfl⟩
  · exact State.Still.trans (t := s.clearAllLatches) (.of_eq rfl rfl rfl rfl rfl) (State.changeEvent_still _ _)
  · exact s.watchPin_still k

theorem State.through_still {first : List SensorIx} {events : List (State → State)}
    (h : ∀ f, f ∈ events → f ∈ wakeEvents first) (s : State) : s.Still (s.through events) :=
  State.through_of (R := State.Still) .refl (fun _ _ _ => State.Still.trans) events s fun _ hf => wakeEvents_still (h _ hf)

theorem State.clearNotices_frame (s : State) :
    s.clearNotices = { s with device := 0, table := Vector.ofFn fun n => s.table[n].map fun e => { e with pending := 0 } } := by
  delta State.clearNotices; rfl

theorem State.clearNotices_still (s : State) : s.Still s.clearNotices := by
  rw [State.clearNotices_frame]
  refine State.SameTable.still ⟨rfl, fun n => ?_⟩ rfl rfl rfl
  have h : (Vector.ofFn fun n : EntryIx => s.table[n].map fun e => { e with pending := 0 })[n]
      = s.table[n].map fun e => { e with pending := 0 } := Vector.getElem_ofFn _
  refine (congrArg slotCore h).trans ?_
  cases s.table[n] <;> rfl

theorem State.clearSignals_still (s : State) : s.Still s.clearSignals :=
  State.Still.trans (t := ({ s with flags := 0 } : State).clearAllLatches) (.of_eq rfl rfl rfl rfl rfl) (State.changeEvent_still _ _)

/-- An entry's group given to the host clears its notices alone. -/
theorem State.giveEntryGroup_still (s : State) {n : EntryIx} {e : Entry} (he : s.table[n] = some e) :
    s.Still (s.giveEntryGroup n e) := by
  unfold State.giveEntryGroup
  refine State.Still.trans (t := s.putEntry n (some { e with pending := 0 }))
    (State.SameTable.still ⟨rfl, fun m => ?_⟩ rfl rfl rfl)
    (State.complete_still _ _ _ _)
  rw [State.putEntry_table]
  by_cases hm : m = n
  · subst hm
    rw [he]; simp [slotCore]
  · have : (s.table.set n.val (some { e with pending := 0 }))[m.val] = s.table[m.val] :=
      Vector.getElem_set_ne _ _ fun h => hm (Fin.ext h.symm)
    exact congrArg slotCore this

/-! ### One counted second event -/

/-- The calendar advanced by a counted second event, which is no longer raised or under way. -/
def State.advanced (s : State) : State :=
  { s with
    calendar := s.calendar.advance
    owed := { s.owed with seconds := s.owed.seconds - 1, underway := Underway.nothing } }

/-- The rests that a second event has not reached yet. -/
def State.restsDue (s : State) : ZoneSet := s.restingZones &&& ~~~s.owed.underway.zones

/-- The zones after a counted second of the rests of a set of zones. -/
def State.restsCounted (s : State) (set : ZoneSet) : State :=
  { s with zones := Vector.ofFn fun z =>
      if set.getLsbD z.val then s.zones[z].countRest (s.ownerRunning s.zones[z]) else s.zones[z] }

theorem State.countRests_state (s : State) (set : ZoneSet) : (s.countRests set).state = s.restsCounted set :=
  Arrival.walkIf_state _ _

/-- The table and the zones after a counted second event: some of its rests, its entries, and the other rests. -/
def State.secondCounted (s : State) (order : SecondOrder) : State :=
  ((s.advanced.restsCounted (s.restsDue &&& order.restFirst)).countEntries order.matchFirst s.owed.underway.entries).state.restsCounted
    (s.restsDue &&& ~~~order.restFirst)

theorem State.countSecond_idle {s : State} (order : SecondOrder) (h : s.advanced.takesArrivals = false) :
    s.countSecond order = s.advanced :=
  if_neg (Bool.eq_false_iff.mp h)

/-- What a counted second event leaves, up to the walk and the follow events that it hands on. -/
theorem State.countSecond_taken {s : State} (order : SecondOrder) (h : s.advanced.takesArrivals = true) :
    ∃ groups, s.countSecond order = ({ state := s.secondCounted order, groups := groups } : Arrival).asOne := by
  unfold State.countSecond
  simp only [Arrival.andThen, State.countRests_state]
  exact ⟨_, if_pos h⟩

/-! ### The laws that arrivals keep -/

/-- A law that every lawful arrival, every counted rest and every grant keeps, and that cannot tell apart states that are still. -/
structure KeptByArrivals (P : State → Prop) : Prop where
  still : ∀ {s t : State}, s.Still t → P s → P t
  arrival : ∀ {s : State} {f : EntryIx → Entry → Effect}, P s →
    (∀ (n : EntryIx) (e : Entry), s.table[n] = some e → (f n e).Lawful s.view e) → P (s.apply f).state
  rests : ∀ {s : State} {zones : Vector Zone 16}, P s →
    (∀ z : ZoneIx, zones[z] = s.zones[z] ∨ zones[z] = s.zones[z].countRest (s.ownerRunning s.zones[z])) →
    P { s with zones := zones }
  grant : ∀ {s : State} {n : EntryIx} {e : Entry} {w : WaitState}, P s → s.table[n] = some e → e.phase = .due w →
    s.grantable e = true → P (s.grant n e w)

namespace KeptByArrivals

variable {P : State → Prop} (hP : KeptByArrivals P) {s : State}
include hP

/-! ### The operations that rows share -/

theorem owed {t : State} (h : t = { s with owed := t.owed }) (hs : P s) : P t := hP.still (.of_owed h) hs

/-- The law cannot tell apart states with the same table, turn order list, zones, mode and site record. -/
theorem same {t : State} (hs : P s) (htable : t.table = s.table) (hturn : t.turn = s.turn) (hzones : t.zones = s.zones)
    (hmode : t.engine.mode = s.engine.mode) (hsite : t.site = s.site) : P t :=
  hP.still (.of_eq htable hturn hzones hmode hsite) hs

theorem complete (r : ResultCode) (d : Byte) (o : Option (List Byte)) (hs : P s) : P (s.complete r d o) :=
  hP.still (s.complete_still r d o) hs

theorem asOne {a : Arrival} (ha : P a.state) : P a.asOne := hP.owed a.asOne_frame ha

theorem each {a : Arrival} (ha : P a.state) : P a.each := by
  obtain ⟨follows, walks, h⟩ := a.each_owed
  rw [h]
  exact hP.owed rfl ha

omit hP in
theorem walkIf {a : Arrival} (b : Bool) (ha : P a.state) : P (a.walkIf b).state := by
  rw [Arrival.walkIf_state]; exact ha

theorem applyAt {n : EntryIx} {f : Entry → Effect} (hs : P s) (hf : ∀ e, s.table[n] = some e → (f e).Lawful s.view e) :
    P (s.applyAt n f).state := by
  refine hP.arrival hs fun m e he => ?_
  split
  · next hm => subst hm; exact hf e he
  · exact Effect.only_lawful _ e

theorem moveEntry {n : EntryIx} {f : Entry → Effect} (hs : P s) (hf : ∀ e, s.table[n] = some e → (f e).Lawful s.view e) :
    P (s.moveEntry n f) := by
  unfold State.moveEntry State.completeWithImage
  exact hP.complete _ _ _ (hP.asOne (hP.applyAt hs hf))

theorem deliverLink (l : FollowLink) (hs : P s) : P (s.deliverLink l) :=
  hP.owed (State.takeLink_frame _ _ _) (hP.applyAt hs fun e _ => e.followEvent_lawful _)

theorem deliverLinks : ∀ (links : List FollowLink) {s : State}, P s → P (s.deliverLinks links)
  | [], _, hs => hs
  | l :: rest, _, hs => deliverLinks rest (hP.deliverLink l hs)

theorem settleSelf (hs : P s) : P s.settleSelf := hP.deliverLinks _ hs

theorem preempt (victims : List EntryIx) (hs : P s) : P (s.preempt victims) := by
  refine hP.owed rfl (hP.arrival (s := s) hs fun n e _ => ?_)
  split
  · exact e.victimised_lawful _
  · exact Effect.only_lawful _ e

theorem walkOver : ∀ (l : List EntryIx) {s : State}, P s → P (walkOver l s)
  | [], _, hs => hs
  | n :: rest, s, hs => by
    unfold Machine.walkOver
    split
    · exact walkOver rest hs
    · split
      · split
        · exact walkOver rest (hP.grant hs ‹_› ‹_› ‹_›)
        · split
          · exact hP.preempt _ hs
          · exact walkOver rest hs
      all_goals exact walkOver rest hs

theorem makeWalk (hs : P s) : P s.makeWalk := by
  unfold State.makeWalk
  split
  · exact hP.walkOver _ (hP.owed rfl hs)
  · exact hs

theorem makeWalks : ∀ (k : Nat) {s : State}, P s → P (s.makeWalks k)
  | 0, _, hs => hs
  | k + 1, _, hs => makeWalks k (hP.makeWalk hs)

theorem restsCounted (set : ZoneSet) (hs : P s) : P (s.restsCounted set) := by
  refine hP.rests hs fun z => ?_
  by_cases h : set.getLsbD z.val = true
  · exact Or.inr ((Vector.getElem_ofFn _).trans (if_pos h))
  · exact Or.inl ((Vector.getElem_ofFn _).trans (if_neg h))

theorem countEntries (matchFirst reached : EntrySet) (hs : P s) : P (s.countEntries matchFirst reached).state :=
  hP.arrival hs fun _ e _ => e.secondEvent_lawful _ _ _ _

theorem countSecond (order : SecondOrder) (hs : P s) : P (s.countSecond order) := by
  have hadvanced : P s.advanced := hP.same hs rfl rfl rfl rfl rfl
  cases ht : s.advanced.takesArrivals with
  | false => rw [State.countSecond_idle order ht]; exact hadvanced
  | true =>
    obtain ⟨groups, h⟩ := State.countSecond_taken order ht
    have hfirst := hP.restsCounted (s.restsDue &&& order.restFirst) hadvanced
    have hentries := hP.countEntries order.matchFirst s.owed.underway.entries hfirst
    rw [h]
    exact hP.asOne (a := { state := s.secondCounted order, groups := groups }) (hP.restsCounted _ hentries)

theorem raiseSecond (hs : P s) : P s.raiseSecond := hP.still s.raiseSecond_timebaseFrame.still hs

theorem nextTick (hs : P s) : P s.nextTick := hP.same hs rfl rfl rfl rfl rfl

theorem raiseIfNone (hs : P s) : P (if s.owed.seconds = 0 then s.raiseSecond else s) := by
  split
  · exact hP.raiseSecond hs
  · exact hs

theorem finishUnderway (hs : P s) : P s.finishUnderway := by
  unfold State.finishUnderway
  split
  · exact hs
  · exact hP.nextTick (hP.countSecond _ (hP.raiseIfNone hs))

theorem countRaised : ∀ (k : Nat) {s : State}, P s → P (s.countRaised k)
  | 0, _, hs => hs
  | k + 1, _, hs => countRaised k (hP.nextTick (hP.countSecond _ hs))

theorem secondsCome (hs : P s) : P s.secondsCome := hP.countRaised _ (hP.finishUnderway hs)

theorem settleEnds (hs : P s) : P s.settleEnds := hP.makeWalks _ (hP.deliverLinks _ (hP.finishUnderway hs))

theorem reachCount (n : EntryIx) (hs : P s) : P (s.reachCount n) :=
  hP.owed rfl (hP.applyAt (s := s) (n := n) hs fun e _ => e.count_lawful _)

theorem reachPulse (n : EntryIx) (i : Nat) (hs : P s) : P (s.reachPulse n i) := by
  unfold State.reachPulse
  split
  · exact hP.asOne (hP.applyAt (hP.owed rfl hs) fun e _ => e.pulse_lawful _ _)
  · exact hs

theorem takeTransition (n : EntryIx) (value : Bool) (hs : P s) : P (s.takeTransition n value) := by
  unfold State.takeTransition
  split
  · split
    · exact hP.asOne (hP.applyAt (hP.owed rfl hs) fun e _ => e.permitTransition_lawful _ _)
    · exact hs
  · exact hs

theorem endRest (z : ZoneIx) (hs : P s) : P (s.endRest z) := by
  refine hP.owed rfl (KeptByArrivals.walkIf _ (hP.rests (s := s) hs fun y => ?_))
  by_cases hy : y = z
  · subst hy; right; simp
  · left
    exact Vector.getElem_set_ne _ _ fun h => hy (Fin.ext h.symm)

theorem recheckAll (hs : P s) : P s.recheckAll.state := hP.arrival hs fun _ e _ => e.recheck_lawful _

theorem goLive (hs : P s) : P s.goLive := hP.asOne (KeptByArrivals.walkIf _ (hP.recheckAll hs))

theorem resolveActive (o : EntryOutcome) (hs : P s) : P (s.resolveActive o).state := by
  refine hP.arrival hs fun _ e _ => ?_
  split
  · exact e.resolve_lawful _ _
  · exact Effect.only_lawful _ e

theorem tick (hs : P s) : P s.tick := by
  refine hP.still ?_ hs
  rw [State.tick_frame]
  exact .of_eq rfl rfl rfl rfl rfl

/-! ### The rows -/

/-- A LOAD keeps the law where the placing of its fresh entry does. -/
theorem loadEntry {n : EntryIx} {d : Definition} (hplaced : P (s.place n (Entry.fresh d (heldBit s.input) s.levels))) :
    P (s.loadEntry n d) :=
  hP.moveEntry hplaced fun e _ => e.recheck_lawful _

/-- A MODIFY keeps the law where the writing of its definition does. -/
theorem modifyEntry {n : EntryIx} {e : Entry} {d : Definition} (hwritten : P (s.putEntry n (some (e.redefined d s.levels)))) :
    P (s.modifyEntry n e d) := by
  unfold State.modifyEntry
  simp only
  refine hP.complete _ _ _ (hP.asOne (KeptByArrivals.walkIf _ ?_))
  split
  · exact hP.applyAt hwritten fun e _ => e.recheck_lawful _
  · exact hP.applyAt (hP.owed rfl hwritten) fun e _ =>
      (e.permitTransition_lawful _ _).andThen (Entry.recheck_lawful _ _) (Or.inr (Entry.recheck_zones _ _))

end KeptByArrivals

/-- The rows that do more than lawful arrivals: they place, redefine or remove an entry, command zones, replace the configuration or move
the engine's mode. -/
def isSpecial : Instr → Bool
  | .load | .modify | .retire | .setZones | .configure | .engineStart | .engineSuspend => true
  | .entryToBackup | .returnFromBackup _ | .coldStart | .resetRelease => true
  | _ => false

/-- An ordinary row keeps what arrivals keep. -/
theorem KeptByArrivals.afterRow {P : State → Prop} (hP : KeptByArrivals P) {s : State} {i : Instr} (hi : isSpecial i = false)
    (hs : P s) : P (s.afterRow i) := by
  have hrefuse (r : ResultCode) (d : Byte) : P (s.settleSelf.refuse r d) := hP.complete _ _ _ (hP.settleSelf hs)
  cases i with
  | hold =>
    exact afterRow_hold_of hs hrefuse fun n e x _ _ _ he hx => hP.moveEntry (hP.settleSelf hs) fun e' he' => by
      obtain rfl : e = e' := Option.some.inj (he.symm.trans he')
      exact Entry.held?_lawful hx
  | release =>
    refine afterRow_release_of hs hrefuse fun n e _ _ _ he hheld => hP.moveEntry (hP.owed rfl (hP.settleSelf hs)) fun e' he' => ?_
    obtain rfl : e = e' := Option.some.inj (he.symm.trans he')
    exact Entry.arm_lawful _ (by rw [hheld]; rfl)
  | rearm =>
    refine afterRow_rearm_of hs hrefuse fun n e _ _ _ he hspent => hP.moveEntry (hP.settleSelf hs) fun e' he' => ?_
    obtain rfl : e = e' := Option.some.inj (he.symm.trans he')
    exact Entry.arm_lawful _ (by rw [hspent]; rfl)
  | start =>
    exact afterRow_start_of hs hrefuse fun n e _ _ _ _ _ => hP.moveEntry (hP.settleSelf hs) fun e _ => e.trigger_lawful _ _ _
  | stop =>
    exact afterRow_stop_of hs hrefuse fun n e _ _ _ _ => hP.moveEntry (hP.settleSelf hs) fun e _ => e.resolve_lawful _ _
  | confirm =>
    refine afterRow_confirm_of hs hrefuse fun set tag _ _ _ _ =>
      hP.complete _ _ _ (hP.asOne (hP.arrival (hP.settleSelf hs) fun _ e _ => ?_))
    unfold Entry.confirmBy
    split
    · next hc =>
      have hp : e.phase = .confirming := by
        simp only [Entry.confirmedBy, Bool.and_eq_true, beq_iff_eq] at hc
        exact hc.1
      exact Entry.confirmed_lawful _ (by rw [hp]; rfl)
    · exact Effect.only_lawful _ e
  | confirmFirst =>
    refine afterRow_confirmFirst_of hs (fun _ => hrefuse) fun n rest _ hn =>
      hP.complete _ _ _ (hP.asOne (hP.applyAt (hP.settleSelf hs) fun e he => ?_))
    have hmem : n ∈ s.settleSelf.confirmOrder := by rw [hn]; exact List.mem_cons_self
    simp only [State.confirmOrder, List.mem_flatMap, List.mem_filter] at hmem
    obtain ⟨p, -, -, hslot⟩ := hmem
    rw [he] at hslot
    simp only [slotConfirmingAt, Bool.and_eq_true, beq_iff_eq] at hslot
    exact Entry.confirmed_lawful _ (by rw [hslot.1]; rfl)
  | setProtect prg =>
    refine hP.still ?_ hs
    rw [afterRow_setProtect_frame]
    exact .of_eq rfl rfl rfl rfl rfl
  | setTime =>
    exact afterRow_setTime_of hs (fun _ _ => hP.complete _ _ _ hs) fun _ _ =>
      hP.complete _ _ _ (hP.same (hP.secondsCome hs) rfl rfl rfl rfl rfl)
  | selectClock =>
    refine hP.still ?_ hs
    rw [afterRow_selectClock_frame]
    exact .of_eq rfl rfl rfl rfl rfl
  | setFlags =>
    refine afterRow_of rfl (onCompletion_of (fun _ => hs) fun _ => hP.complete _ _ _ (hP.still (State.changeEvent_still _ _) ?_))
    exact hP.same hs rfl rfl rfl rfl rfl
  | clearLatches =>
    refine afterRow_of rfl (onCompletion_of (fun _ => hs) fun _ => hP.complete _ _ _ (hP.still (State.changeEvent_still _ _) ?_))
    exact hP.same hs rfl rfl rfl rfl rfl
  | nextNotice =>
    exact afterRow_nextNotice_of hs (fun _ _ => hP.complete _ _ _ hs)
      (fun _ _ => by unfold State.giveDeviceGroup; exact hP.complete _ _ _ (hP.same hs rfl rfl rfl rfl rfl))
      fun _ _ _ _ _ _ he => hP.still (s.giveEntryGroup_still he) hs
  | busStartOrStop c cut =>
    refine hP.still ?_ hs
    rw [afterRow_busStartOrStop_frame]
    exact .of_eq rfl rfl rfl rfl rfl
  | secondEvent order =>
    refine afterRow_of rfl ?_
    split
    · exact hP.countSecond _ (hP.raiseIfNone hs)
    · exact hs
  | runCompleted n =>
    refine afterRow_of rfl ?_
    split
    · exact hP.reachCount n hs
    · split
      · split
        · exact hP.reachPulse n _ hs
        · exact hs
      · exact hs
  | capped n =>
    refine afterRow_of rfl ?_
    split
    · exact hP.reachCount n hs
    · exact hs
  | waitLimitExpiry n =>
    refine afterRow_of rfl ?_
    split
    · exact hP.reachCount n hs
    · exact hs
  | restEnd z =>
    refine afterRow_of rfl ?_
    split
    · exact hP.endRest z hs
    · exact hs
  | grantWalk => exact afterRow_of rfl (hP.makeWalk hs)
  | sensorPinChange k level =>
    have hmoved : P (s.setPin k level) := hP.same hs rfl rfl rfl rfl rfl
    refine afterRow_of rfl ?_
    split
    · exact hP.still (State.watchPin_still _ k) hmoved
    · exact hmoved
  | sensorAcceptance k =>
    refine afterRow_of rfl ?_
    split
    · split
      · exact hP.still (s.accept_still k _) hs
      · exact hs
    · exact hs
  | patternTrigger n =>
    refine afterRow_of rfl ?_
    split
    · exact hP.asOne (hP.applyAt (hP.owed rfl hs) fun e _ => e.patternTrigger_lawful _ _)
    · exact hs
  | permitFalse n => exact afterRow_of rfl (hP.takeTransition n false hs)
  | permitTrue n => exact afterRow_of rfl (hP.takeTransition n true hs)
  | pulseEdge k =>
    refine afterRow_of rfl ?_
    split
    · refine hP.each (hP.arrival (hP.owed rfl hs) fun _ e _ => ?_)
      split
      · exact Effect.only_lawful _ e
      · exact e.pulse_lawful _ _
    · exact hs
  | followEvent source follower =>
    refine afterRow_of rfl ?_
    split
    · exact hP.deliverLink _ hs
    · exact hs
  | supplyDip =>
    refine hP.still ?_ hs
    rw [afterRow_supplyDip_frame]
    exact .of_eq rfl rfl rfl rfl rfl
  | resetAssert =>
    refine afterRow_of rfl ?_
    split
    · exact hP.same hs rfl rfl rfl rfl rfl
    · exact hP.same hs rfl rfl rfl rfl rfl
  | retentionMarkLost => exact afterRow_of rfl (hP.same hs rfl rfl rfl rfl rfl)
  | crystalCheckPass | mainsCheckPass | checkTimeout | readyCandidateFault | clockSwitch | activeSourceFault =>
    exact hP.still (afterRow_timebaseFrame rfl s).still hs
  | fetch | find | readTime | readClock | readZones | readConfig | unknownCommand | pointerByte | transferBufferWrite | commandWrite
  | commandBegin | ignoredRegisterWrite | byteRead => exact hP.still (afterRow_ifaceFrame rfl s).still hs
  | load | modify | retire | setZones | configure | engineStart | engineSuspend | entryToBackup | returnFromBackup | coldStart
  | resetRelease => cases hi

/-- A law that the special rows keep too is kept by every step. -/
theorem KeptByArrivals.step {P Q : State → Prop} (hP : KeptByArrivals P)
    (hspecial : ∀ (s : State) (i : Instr), isSpecial i = true → Q s → P s → P (s.afterRow i))
    (hQ : ∀ s rest ticks, Q s → Q { s with pending := rest, ticks := ticks }) {s t : State} (hq : Q s) (hs : P s)
    (h : Machine.step s = .next t) : P t := by
  have hrow (u : State) (i : Instr) (hq : Q u) (hu : P u) : P (u.afterRow i) := by
    cases hi : isSpecial i with
    | false => exact hP.afterRow hi hu
    | true => exact hspecial u i hi hq hu
  rcases step_cases h with ⟨i, rest, rfl⟩ | ⟨i, -, rfl⟩ | rfl
  · exact hrow _ i (hQ s rest s.ticks hq) (hP.same hs rfl rfl rfl rfl rfl)
  · exact hrow _ i (hQ s s.pending _ hq) (hP.nextTick hs)
  · exact hP.nextTick (hP.tick hs)

/-! ### The laws of the table alone -/

/-- A law of the definitions, the states and the turn order list alone: besides what arrivals keep, it cannot tell apart states with the
same table. -/
structure KeptByTable (P : State → Prop) : Prop extends KeptByArrivals P where
  sameTable : ∀ {s t : State}, s.SameTable t → P s → P t

/-- The special rows that move the table by lawful arrivals alone. -/
def keepsTable : Instr → Bool
  | .setZones | .configure | .engineStart | .engineSuspend | .entryToBackup | .returnFromBackup _ | .resetRelease => true
  | _ => false

namespace KeptByTable

variable {P : State → Prop} (hP : KeptByTable P) {s : State}
include hP

/-- The law cannot tell apart states with the same table and turn order list. -/
theorem unmoved {t : State} (hs : P s) (htable : t.table = s.table) (hturn : t.turn = s.turn) : P t :=
  hP.sameTable ⟨hturn, fun n => by rw [htable]⟩ hs

theorem release (hs : P s) : P s.release := by
  unfold State.release
  simp only
  have hresolved : P ((s.setMode .suspended).dropArrivals.resolveActive .interrupted).state :=
    hP.resolveActive _ (hP.unmoved hs rfl rfl)
  have hfree (x : State) (hx : P x) : P ({ x with zones := allFree } : State).unhold.unlock := hP.unmoved hx rfl rfl
  have hcleared := hP.still (State.clearNotices_still _) (hP.still (State.clearSignals_still _) (hfree _ hresolved))
  exact hP.unmoved hcleared (State.freshInterface_table _) (State.freshInterface_turn _)

theorem setMode (m : Mode) (hs : P s) : P (s.setMode m) := hP.unmoved hs rfl rfl

theorem lineAtReturn (hs : P s) : P s.lineAtReturn.1 := by
  unfold State.lineAtReturn
  split
  · exact hP.unmoved hs rfl rfl
  split
  · exact hP.release hs
  · exact hs

theorem restoreMode (m : Mode) (hs : P s) : P (s.restoreMode m) := by
  unfold State.restoreMode
  simp only
  split
  · exact hP.goLive (hP.setMode m hs)
  · exact hP.setMode m hs

theorem returned (order : ReturnOrder) (hs : P s) : P (s.returned order) := by
  unfold State.returned
  refine hP.still (State.through_still (fun _ => List.mem_of_mem_drop) _) (hP.restoreMode _ ?_)
  refine hP.still (State.through_still (fun _ => List.mem_of_mem_take) _) ?_
  refine hP.still (s := (s.leaveBattery.freshInterface.lineAtReturn).1) (.of_eq rfl rfl rfl rfl rfl) (hP.lineAtReturn ?_)
  exact hP.unmoved hs rfl rfl

theorem afterRow {i : Instr} (hi : isSpecial i = false ∨ keepsTable i = true) (hs : P s) : P (s.afterRow i) := by
  rcases hi with hi | hi
  · exact hP.toKeptByArrivals.afterRow hi hs
  cases i with
  | setZones =>
    exact afterRow_setZones_of hs (fun _ _ => hP.complete _ _ _ hs) fun _ _ _ _ =>
      hP.complete _ _ _ (hP.asOne (KeptByArrivals.walkIf _ (hP.unmoved hs rfl rfl)))
  | configure =>
    refine afterRow_configure_of hs (fun _ _ => hP.complete _ _ _ hs) fun _ _ _ _ =>
      hP.complete _ _ _ (hP.asOne (KeptByArrivals.walkIf _ (hP.still (State.changeEvent_still _ _) ?_)))
    exact hP.unmoved hs rfl rfl
  | engineStart =>
    exact afterRow_engineStart_of hs (fun _ _ _ => hP.complete _ _ _ hs) fun _ _ _ _ _ =>
      hP.complete _ _ _ (hP.goLive (hP.setMode _ (hP.finishUnderway hs)))
  | engineSuspend =>
    refine afterRow_engineSuspend_of hs (fun _ _ _ => hP.complete _ _ _ hs) fun _ _ _ _ =>
      hP.complete _ _ _ (hP.asOne (hP.resolveActive _ (hP.owed rfl (hP.setMode _ (hP.settleEnds hs)))))
  | entryToBackup =>
    refine afterRow_of rfl ?_
    split
    · have hresolved : P (s.enterBattery.dropArrivals.resolveActive .interrupted).state :=
        hP.resolveActive _ (hP.unmoved hs rfl rfl)
      have hzones : P (s.enterBattery.dropArrivals.resolveActive .interrupted).state.zonesInBackup :=
        hP.unmoved hresolved rfl rfl
      have hmains := hP.still (State.loseMains_timebaseFrame _).still hzones
      exact hP.unmoved hmains rfl rfl
    · exact hs
  | returnFromBackup order =>
    rw [afterRow_returnFromBackup]
    split
    · exact hP.returned order hs
    · exact hs
  | resetRelease =>
    have hlined : P (s.setResetLine false) := hP.unmoved hs rfl rfl
    rw [afterRow_resetRelease]
    split
    · exact hP.release hlined
    · exact hlined
  | _ => cases hi

end KeptByTable

end Sys2Proof.Machine
end

section
/-! The laws of the table that every step keeps: the protected definitions, the turn order list, the links and the ranges of counts. -/

namespace Sys2Proof.Machine

/-! ### Slots written -/

theorem State.putEntry_slot_same (s : State) (n : EntryIx) (x : Option Entry) : (s.putEntry n x).table[n] = x := by
  rw [State.putEntry_table]
  exact Vector.getElem_set_self _

theorem State.putEntry_slot_other (s : State) {n m : EntryIx} (x : Option Entry) (h : m ≠ n) :
    (s.putEntry n x).table[m] = s.table[m] := by
  rw [State.putEntry_table]
  exact Vector.getElem_set_ne _ _ fun hv => h (Fin.ext hv.symm)

theorem State.removeEntry_table (s : State) (n : EntryIx) : (s.removeEntry n).table = (s.putEntry n none).table := by
  delta State.removeEntry State.dropArrivalsTo State.dropFollowsTo; rfl

theorem State.removeEntry_turn (s : State) (n : EntryIx) : (s.removeEntry n).turn = s.turn.erase n := rfl

theorem State.removeEntry_slot_same (s : State) (n : EntryIx) : (s.removeEntry n).table[n] = none := by
  rw [State.removeEntry_table]; exact s.putEntry_slot_same n none

theorem State.removeEntry_slot_other (s : State) {n m : EntryIx} (h : m ≠ n) : (s.removeEntry n).table[m] = s.table[m] := by
  rw [State.removeEntry_table]; exact s.putEntry_slot_other none h

theorem State.grant_slot_same (s : State) (n : EntryIx) (e : Entry) (w : WaitState) :
    (s.grant n e w).table[n] = some (e.granted w s.calendar) := s.putEntry_slot_same n _

theorem State.grant_slot_other (s : State) {n m : EntryIx} (e : Entry) (w : WaitState) (h : m ≠ n) :
    (s.grant n e w).table[m] = s.table[m] := s.putEntry_slot_other _ h

/-- RETIRE's effect moves zones alone. -/
theorem State.applyAt_retired_sameTable (s : State) (n : EntryIx) : s.SameTable (s.applyAt n Entry.retired).state where
  turn := State.applyAt_state_turn _ _ _
  core m := by
    rw [State.applyAt, State.apply_table]
    cases s.table[m] with
    | none => rfl
    | some e =>
      simp only [Option.map_some]
      split <;> rfl

theorem State.asOne_sameTable {s : State} {a : Arrival} (h : s.SameTable a.state) : s.SameTable a.asOne :=
  h.trans (State.Still.of_owed (Arrival.asOne_frame a)).toSameTable

/-- RETIRE keeps a law of the table where the removal of the entry does. -/
theorem KeptByTable.retired {P : State → Prop} (hP : KeptByTable P) {s : State} {n : EntryIx} (hs : P s)
    (hremove : ∀ t : State, s.SameTable t → P t → P (t.removeEntry n)) :
    P (((s.applyAt n Entry.retired).asOne.removeEntry n).complete .ok 0 none) := by
  have h := State.asOne_sameTable (s.applyAt_retired_sameTable n)
  exact hP.complete _ _ _ (hremove _ h (hP.sameTable h hs))

/-- A law that cannot tell apart states with the same table, and that lawful arrivals and grants keep. -/
theorem KeptByTable.of {P : State → Prop} (hsame : ∀ {s t : State}, s.SameTable t → P s → P t)
    (harrival : ∀ {s : State} {f : EntryIx → Entry → Effect}, P s →
      (∀ (n : EntryIx) (e : Entry), s.table[n] = some e → (f n e).Lawful s.view e) → P (s.apply f).state)
    (hgrant : ∀ {s : State} {n : EntryIx} {e : Entry} {w : WaitState}, P s → s.table[n] = some e → e.phase = .due w →
      s.grantable e = true → P (s.grant n e w)) : KeptByTable P where
  still h := hsame h.toSameTable
  arrival := harrival
  rests {s _} hs _ := hsame (s := s) ⟨rfl, fun _ => rfl⟩ hs
  grant := hgrant
  sameTable := hsame

/-! ### The protected definitions (R22) -/

theorem State.definitionAt_eq (s : State) (n : EntryIx) : s.definitionAt n = (slotCore s.table[n]).map Prod.fst := by
  unfold State.definitionAt slotCore
  cases s.table[n] <;> rfl

/-- The definition of a slot, as a law. -/
def DefinitionStays (n : EntryIx) (d : Option Definition) (s : State) : Prop := s.definitionAt n = d

theorem DefinitionStays.of_slot {s t : State} {n : EntryIx} {d : Option Definition} (h : t.table[n] = s.table[n])
    (hs : DefinitionStays n d s) : DefinitionStays n d t := by
  unfold DefinitionStays State.definitionAt at *
  rw [h, hs]

theorem definitionStays_kept (n : EntryIx) (d : Option Definition) : KeptByTable (DefinitionStays n d) :=
  .of
    (fun h hs => by
      unfold DefinitionStays at *
      rw [State.definitionAt_eq, h.core, ← State.definitionAt_eq, hs])
    (fun {s f} hs hf => by
      unfold DefinitionStays State.definitionAt at *
      rw [State.apply_table, Option.map_map, ← hs]
      cases he : s.table[n] with
      | none => rfl
      | some e => exact congrArg some (hf n e he).defn)
    (fun {s m e w} hs he _ _ => by
      by_cases hm : n = m
      · subst hm
        unfold DefinitionStays State.definitionAt at *
        rw [State.grant_slot_same, ← hs, he]
        rfl
      · exact DefinitionStays.of_slot (s.grant_slot_other e w hm) hs)

theorem State.settleSelf_isProtected (s : State) (n : EntryIx) : s.settleSelf.isProtected n = s.isProtected n := by
  rw [State.settleSelf_frame]; rfl

/-- Settles O14: arrivals keep the definition of every slot, and the rows that replace one check its protection. -/
theorem protectedDefinitionsKept : Obligations.ProtectedDefinitionsKept := by
  intro i s t n hi hn h
  have hP := definitionStays_kept n (s.definitionAt n)
  have hs : DefinitionStays n (s.definitionAt n) s := rfl
  have hne {m : EntryIx} (hm : s.isProtected m = false) : n ≠ m := by
    rintro rfl
    exact absurd (decide_eq_true hn) (by rw [← State.isProtected, hm]; decide)
  rw [eq_afterRow h]
  change DefinitionStays n (s.definitionAt n) (s.afterRow i)
  by_cases hsp : isSpecial i = false ∨ keepsTable i = true
  · exact hP.afterRow hsp hs
  cases i
  case load =>
    exact afterRow_load_of hs (fun _ _ => hP.complete _ _ _ hs) fun m _ _ hb _ _ _ =>
      hP.loadEntry (.of_slot (s.putEntry_slot_other _ (hne hb)) hs)
  case modify =>
    have hsettled := hP.settleSelf hs
    exact afterRow_modify_of hs (fun _ _ => hP.complete _ _ _ hsettled) fun m e _ _ hb _ _ _ _ =>
      hP.modifyEntry (.of_slot (State.putEntry_slot_other _ _ (hne (s.settleSelf_isProtected m ▸ hb))) hsettled)
  case retire =>
    exact afterRow_retire_of hs (fun _ _ => hP.complete _ _ _ hs) fun m e _ _ hb _ _ =>
      hP.retired hs fun u _ hu => .of_slot (u.removeEntry_slot_other (hne hb)) hu
  case coldStart => exact absurd rfl hi
  all_goals exact absurd (by first | exact Or.inl rfl | exact Or.inr rfl) hsp

/-! ### The turn order list and the links (R12, R126) -/

/-- The laws of the turn order list and of the links, as one law. -/
def State.listLaw (s : State) : Prop := s.turnLaw ∧ s.linkLaw

/-- The two laws read of the table which slots are occupied and the definitions there. -/
theorem State.listLaw_of {s t : State} (hturn : t.turn = s.turn) (hdefn : ∀ n, t.definitionAt n = s.definitionAt n)
    (hs : s.listLaw) : t.listLaw := by
  obtain ⟨⟨hnodup, hmem⟩, hlink⟩ := hs
  have hsome (n : EntryIx) : t.table[n].isSome = s.table[n].isSome := by
    have := congrArg Option.isSome (hdefn n)
    simpa [State.definitionAt] using this
  refine ⟨⟨hturn ▸ hnodup, fun n => by rw [hturn, hsome, hmem]⟩, fun n e he hk => ?_⟩
  obtain ⟨e', he', hd⟩ : ∃ e', s.table[n] = some e' ∧ e'.defn = e.defn := by
    have h := hdefn n
    rw [State.definitionAt, State.definitionAt, he] at h
    exact (Option.map_eq_some_iff.mp h.symm)
  rw [hsome]
  simpa only [hd] using hlink n e' he' (hd ▸ hk)

theorem State.listLaw_grant {s : State} {n : EntryIx} {e : Entry} {w : WaitState} (hs : s.listLaw) (he : s.table[n] = some e) :
    (s.grant n e w).listLaw := by
  have hdefn (m : EntryIx) : (s.grant n e w).definitionAt m = s.definitionAt m := by
    unfold State.definitionAt
    by_cases hm : m = n
    · subst hm
      rw [State.grant_slot_same, he]; rfl
    · rw [State.grant_slot_other _ _ _ hm]
  obtain ⟨⟨hnodup, hmem⟩, hlink⟩ := State.listLaw_of (s := s) (t := { s.grant n e w with turn := s.turn }) rfl hdefn hs
  have hin : n ∈ s.turn := by rw [hs.1.2, he]; rfl
  refine ⟨⟨?_, fun m => ?_⟩, hlink⟩
  · exact List.nodup_append.mpr ⟨hnodup.erase n, List.nodup_singleton n, fun a ha b hb => by
      rw [List.mem_singleton] at hb
      rintro rfl
      exact absurd (hb ▸ ha) (hnodup.not_mem_erase)⟩
  · refine Iff.trans ?_ (hmem m)
    rw [State.grant, List.mem_append, List.mem_singleton]
    by_cases hm : m = n
    · subst hm; simp [hin]
    · simp [hm, List.mem_erase_of_ne hm]

theorem listLaw_kept : KeptByTable State.listLaw :=
  .of
    (fun h hs => State.listLaw_of h.turn (fun n => by rw [State.definitionAt_eq, h.core, ← State.definitionAt_eq]) hs)
    (fun {s f} hs hf => State.listLaw_of (State.apply_state_turn _ _)
      (fun n => (definitionStays_kept n (s.definitionAt n)).arrival (P := DefinitionStays n (s.definitionAt n)) rfl hf) hs)
    (fun hs he _ _ => State.listLaw_grant hs he)

/-- A FOLLOW record that passes its check names its own slot or an occupied one. -/
theorem State.source_isSome_of_badLink {s : State} {n : EntryIx} {d : Definition} (h : s.badLink n d = false)
    (hk : d.kind = .follow) : d.source = n ∨ s.table[d.source].isSome = true := by
  unfold State.badLink at h
  rw [hk] at h
  by_cases hn : d.source = n
  · exact Or.inl hn
  · right
    have : (s.table[d.source]).isNone = false := by simpa [hn] using h
    simpa [Option.isNone_iff_eq_none, Option.isSome_iff_ne_none] using this

/-- An entry whose record passed its link check is written into a slot. -/
theorem State.linkLaw_put {s : State} {n : EntryIx} {e : Entry} (hs : s.linkLaw) (hd : s.badLink n e.defn = false) :
    (s.putEntry n (some e)).linkLaw := by
  have hsome (m : EntryIx) (h : s.table[m].isSome = true) : (s.putEntry n (some e)).table[m].isSome = true := by
    by_cases hm : m = n
    · subst hm; rw [State.putEntry_slot_same]; rfl
    · rw [State.putEntry_slot_other _ _ hm]; exact h
  intro m x hx hk
  by_cases hm : m = n
  · subst hm
    rw [State.putEntry_slot_same] at hx
    obtain rfl : e = x := Option.some.inj hx
    rcases State.source_isSome_of_badLink hd hk with h | h
    · simp only [h]; rw [State.putEntry_slot_same]; rfl
    · exact hsome _ h
  · rw [State.putEntry_slot_other _ _ hm] at hx
    exact hsome _ (hs m x hx hk)

theorem State.listLaw_place {s : State} {n : EntryIx} {e : Entry} (hs : s.listLaw) (hn : s.table[n] = none)
    (hd : s.badLink n e.defn = false) : (s.place n e).listLaw := by
  obtain ⟨⟨hnodup, hmem⟩, hlink⟩ := hs
  have hout : n ∉ s.turn := by rw [hmem, hn]; decide
  refine ⟨⟨List.nodup_append.mpr ⟨hnodup, List.nodup_singleton n, fun a ha b hb => by
    rw [List.mem_singleton] at hb
    rintro rfl
    exact hout (hb ▸ ha)⟩, fun m => ?_⟩, State.linkLaw_put hlink hd⟩
  change m ∈ s.turn ++ [n] ↔ (s.putEntry n (some e)).table[m].isSome = true
  rw [List.mem_append, List.mem_singleton, hmem]
  by_cases hm : m = n
  · subst hm; rw [State.putEntry_slot_same]; simp
  · rw [State.putEntry_slot_other _ _ hm]; simp [hm]

theorem State.listLaw_redefine {s : State} {n : EntryIx} {e e' : Entry} (hs : s.listLaw) (hn : s.table[n] = some e)
    (hd : s.badLink n e'.defn = false) : (s.putEntry n (some e')).listLaw := by
  obtain ⟨⟨hnodup, hmem⟩, hlink⟩ := hs
  refine ⟨⟨hnodup, fun m => ?_⟩, State.linkLaw_put hlink hd⟩
  rw [State.putEntry_turn, hmem]
  by_cases hm : m = n
  · subst hm; rw [State.putEntry_slot_same, hn]; simp
  · rw [State.putEntry_slot_other _ _ hm]

/-- No other entry names a slot that has no follower. -/
theorem State.source_ne_of_firstFollower {s : State} {n m : EntryIx} {e : Entry} (h : s.firstFollower n = none)
    (hm : m ≠ n) (he : s.table[m] = some e) (hk : e.defn.kind = .follow) : e.defn.source ≠ n := by
  unfold State.firstFollower at h
  rw [List.find?_eq_none] at h
  have := h m (List.mem_finRange m)
  rw [he] at this
  simpa [hm, slotNames, hk] using this

theorem State.firstFollower_of_sameTable {s t : State} (h : s.SameTable t) (n : EntryIx) : t.firstFollower n = s.firstFollower n := by
  have hnames (m : EntryIx) : slotNames t.table[m] n = slotNames s.table[m] n := by
    cases ht : t.table[m] with
    | none =>
      have hnone : s.table[m] = none := by
        have := slotCore_isSome (h.core m)
        rw [ht] at this
        exact Option.not_isSome_iff_eq_none.mp (by rw [← this]; decide)
      rw [hnone]
    | some e' =>
      obtain ⟨e, he, hd, -⟩ := slotCore_some (h.core m) ht
      rw [he, slotNames, slotNames, hd]
  unfold State.firstFollower
  simp only [hnames]

theorem State.listLaw_remove {s : State} {n : EntryIx} (hs : s.listLaw) (hn : s.firstFollower n = none) :
    (s.removeEntry n).listLaw := by
  obtain ⟨⟨hnodup, hmem⟩, hlink⟩ := hs
  refine ⟨⟨hnodup.erase n, fun m => ?_⟩, fun m e he hk => ?_⟩
  · rw [State.removeEntry_turn]
    by_cases hm : m = n
    · subst hm
      rw [State.removeEntry_slot_same]
      simp [hnodup.not_mem_erase]
    · rw [State.removeEntry_slot_other _ hm, List.mem_erase_of_ne hm, hmem]
  · by_cases hm : m = n
    · subst hm
      rw [State.removeEntry_slot_same] at he
      cases he
    · rw [State.removeEntry_slot_other _ hm] at he
      rw [State.removeEntry_slot_other _ (State.source_ne_of_firstFollower hn hm he hk)]
      exact hlink m e he hk

theorem State.reset_slot (n : EntryIx) : State.reset.table[n] = none := Vector.getElem_replicate _

theorem State.listLaw_of_empty {s : State} (hturn : s.turn = []) (hslot : ∀ n : EntryIx, s.table[n] = none) : s.listLaw :=
  ⟨⟨by rw [hturn]; exact List.nodup_nil, fun n => by rw [hturn, hslot]; simp⟩, fun n e he => by rw [hslot] at he; cases he⟩

theorem afterRow_coldStart_slot {s : State} (h : s.powered = false) (n : EntryIx) : (s.afterRow .coldStart).table[n] = none := by
  rw [afterRow_coldStart h]; exact State.reset_slot n

theorem State.listLaw_special (s : State) (i : Instr) (hi : isSpecial i = true) (hs : s.listLaw) : (s.afterRow i).listLaw := by
  have hP := listLaw_kept
  by_cases hk : keepsTable i = true
  · exact hP.afterRow (Or.inr hk) hs
  cases i
  case load =>
    exact afterRow_load_of hs (fun _ _ => hP.complete _ _ _ hs) fun n _ _ _ hn _ hd => hP.loadEntry (State.listLaw_place hs hn hd)
  case modify =>
    have hsettled := hP.settleSelf hs
    exact afterRow_modify_of hs (fun _ _ => hP.complete _ _ _ hsettled) fun n e _ _ _ hn _ hd _ =>
      hP.modifyEntry (State.listLaw_redefine hsettled hn hd)
  case retire =>
    exact afterRow_retire_of hs (fun _ _ => hP.complete _ _ _ hs) fun n e _ _ _ _ hf =>
      hP.retired hs fun t ht hlaw => State.listLaw_remove hlaw (by rw [State.firstFollower_of_sameTable ht, hf])
  case coldStart =>
    obtain hp | hp := Bool.eq_false_or_eq_true s.powered
    · rw [afterRow_coldStart_of_powered hp]; exact hs
    · exact State.listLaw_of_empty (by rw [afterRow_coldStart hp]; rfl) (afterRow_coldStart_slot hp)
  all_goals first | exact absurd rfl hk | cases hi

/-- Settles O57: the two laws read only what the table and the list hold, and each row that places, redefines or removes an entry keeps
them by its own checks. -/
theorem tableLawsKept : Obligations.TableLawsKept := fun _ _ hs h =>
  listLaw_kept.step (P := State.listLaw) (Q := fun _ => True) (fun s i hi _ => s.listLaw_special i hi) (fun _ _ _ => id) trivial hs h

/-! ### The ranges of the counts (R7, R131) -/

theorem State.counterLaw_of_core {s t : State} (h : ∀ n : EntryIx, slotCore t.table[n] = slotCore s.table[n]) (hs : s.counterLaw) :
    t.counterLaw := fun n e' he' => by
  obtain ⟨e, he, hd, hp⟩ := slotCore_some (h n) he'
  have := hs n e he
  simp only [hd, hp] at this
  exact this

theorem State.counterLaw_put {s : State} {n : EntryIx} {e : Entry} (hs : s.counterLaw) (hd : countInRange e.defn.duration)
    (hp : e.phase.countsInRange) : (s.putEntry n (some e)).counterLaw := fun m x hx => by
  by_cases hm : m = n
  · subst hm
    rw [State.putEntry_slot_same] at hx
    obtain rfl : e = x := Option.some.inj hx
    exact ⟨hd, hp⟩
  · rw [State.putEntry_slot_other _ _ hm] at hx
    exact hs m x hx

/-- R99: a grant loads the run counter from the duration or from what a preemption left. -/
theorem Definition.runAtGrant_counts {d : Definition} {w : WaitState} (hd : countInRange d.duration)
    (hw : (Phase.due w).countsInRange) : (Phase.running (d.runAtGrant w.remaining)).countsInRange := by
  refine ⟨?_, hd⟩
  unfold Definition.runAtGrant
  cases hr : w.remaining with
  | none => exact hd
  | some k => exact hw k hr

theorem counterLaw_kept : KeptByTable State.counterLaw :=
  .of (fun h hs => State.counterLaw_of_core h.core hs)
    (fun {s f} hs hf n e' he' => by
      rw [State.apply_table] at he'
      obtain ⟨e, he, rfl⟩ := Option.map_eq_some_iff.mp he'
      have hx := hf n e he
      obtain ⟨hd, hp⟩ := hs n e he
      exact ⟨hx.defn ▸ hd, hx.counts hd hp⟩)
    (fun {s n e w} hs he hdue _ => by
      obtain ⟨hd, hp⟩ := hs n e he
      exact State.counterLaw_put hs hd (Definition.runAtGrant_counts hd (hdue ▸ hp)))

/-- R7, R11: a record that passes its checks gives a duration from 1 to 65535. -/
theorem Definition.duration_of_record {s : State} (h : definitionFault s.input = none) :
    countInRange (Definition.ofRecord s.input).duration := by
  have hzero := (firstBad_eq_none _).mp h (0x0E, s.input 0x0E + 256 * s.input 0x0F == 0) (by simp [definitionChecks])
  have hlo : s.input 0x0E < 256 := (s.iface.buffer.read 0x0E).isLt
  have hhi : s.input 0x0F < 256 := (s.iface.buffer.read 0x0F).isLt
  rw [beq_eq_false_iff_ne] at hzero
  change 1 ≤ s.input 0x0E + 256 * s.input 0x0F ∧ s.input 0x0E + 256 * s.input 0x0F ≤ 65535
  omega

theorem State.counterLaw_special (s : State) (i : Instr) (hi : isSpecial i = true) (hs : s.counterLaw) :
    (s.afterRow i).counterLaw := by
  have hP := counterLaw_kept
  by_cases hk : keepsTable i = true
  · exact hP.afterRow (Or.inr hk) hs
  cases i
  case load =>
    refine afterRow_load_of hs (fun _ _ => hP.complete _ _ _ hs) fun n _ _ _ hn hd _ =>
      hP.loadEntry (State.counterLaw_put hs (Definition.duration_of_record hd) ?_)
    unfold Entry.fresh
    simp only
    split <;> trivial
  case modify =>
    have hsettled := hP.settleSelf hs
    exact afterRow_modify_of hs (fun _ _ => hP.complete _ _ _ hsettled) fun n e _ _ _ hn hd _ _ =>
      hP.modifyEntry (State.counterLaw_put hsettled (Definition.duration_of_record hd) (hsettled n e hn).2)
  case retire =>
    refine afterRow_retire_of hs (fun _ _ => hP.complete _ _ _ hs) fun n e _ _ _ _ hf =>
      hP.retired hs fun t ht hlaw m x hx => ?_
    by_cases hm : m = n
    · subst hm
      rw [State.removeEntry_slot_same] at hx
      cases hx
    · rw [State.removeEntry_slot_other _ hm] at hx
      exact hlaw m x hx
  case coldStart =>
    obtain hp | hp := Bool.eq_false_or_eq_true s.powered
    · rw [afterRow_coldStart_of_powered hp]; exact hs
    · intro n e he
      rw [afterRow_coldStart_slot hp] at he
      cases he
  all_goals first | exact absurd rfl hk | cases hi

end Sys2Proof.Machine
end

section
/-! The law of the active entries outside LIVE and the law of the supply: the engine's modes through every step. -/

namespace Sys2Proof.Machine

/-! ### Rows with no command in progress and on a bus not heard -/

/-- The completions of host commands. -/
def isCommand : Instr → Bool
  | .load | .modify | .fetch | .find | .retire | .setProtect _ => true
  | .hold | .release | .rearm | .start | .stop | .confirm | .confirmFirst => true
  | .setTime | .readTime | .selectClock | .readClock | .setFlags | .clearLatches => true
  | .setZones | .readZones | .configure | .readConfig | .engineStart | .engineSuspend => true
  | .nextNotice | .unknownCommand => true
  | _ => false

/-- The bytes and conditions of the bus. -/
def isBus : Instr → Bool
  | .pointerByte _ | .transferBufferWrite _ | .commandWrite _ | .commandBegin | .ignoredRegisterWrite _ | .byteRead => true
  | .busStartOrStop _ _ => true
  | _ => false

theorem State.busy_of_inProgress {s : State} {code : Byte} (h : s.inProgress code = true) : s.iface.busy = true := by
  unfold State.inProgress at h
  exact (Bool.and_eq_true _ _ ▸ h).1

/-- R161: with no command in progress no completion does anything. -/
theorem afterRow_command_idle {i : Instr} (hi : isCommand i = true) {s : State} (h : s.iface.busy = false) : s.afterRow i = s := by
  have idle (code : Byte) (f : State → State) : onCompletion code f s = s :=
    onCompletion_of (P := fun t => t = s) (fun _ => rfl) fun hp =>
      absurd ((State.busy_of_inProgress hp).symm.trans h) (by decide)
  cases i
  case unknownCommand =>
    refine afterRow_of (P := fun t => t = s) rfl ?_
    split
    · exact if_neg (by simp [h])
    · rfl
  case' modify | hold | release | rearm | start | stop | confirm | confirmFirst =>
    exact afterRow_of (P := fun t => t = s) rfl (idle _ fun x => _)
  case' load | fetch | find | retire | setProtect | setTime | readTime | selectClock | readClock | setFlags | clearLatches
      | setZones | readZones | configure | readConfig | engineStart | engineSuspend | nextNotice =>
    exact afterRow_of (P := fun t => t = s) rfl (idle _ _)
  all_goals cases hi

/-- R156: while the bus is ignored a byte or a condition changes nothing but that the part drives nothing. -/
theorem afterRow_bus_ignored {i : Instr} (hi : isBus i = true) {s : State} (h : s.busHeard = false) :
    s.afterRow i = s.answer .released := by
  cases i
  case pointerByte | transferBufferWrite | commandWrite | commandBegin | ignoredRegisterWrite | byteRead | busStartOrStop =>
    exact afterRow_of (P := fun t => t = s.answer .released) rfl (s.onBus_ignored _ h)
  all_goals cases hi

theorem State.busHeard_of_battery {s : State} (h : s.supply.condition = .battery) : s.busHeard = false := by
  unfold State.busHeard; rw [h]; simp

/-! ### No active entry -/

/-- No entry is DUE, RUNNING or PAUSED. -/
def State.AllInactive (s : State) : Prop := s.everyEntry fun _ e => e.phase.isActive = false

theorem State.AllInactive.sameTable {s t : State} (hs : s.AllInactive) (h : s.SameTable t) : t.AllInactive := fun n e' he' => by
  obtain ⟨e, he, -, hp⟩ := slotCore_some (h.core n) he'
  exact hp ▸ hs n e he

theorem State.AllInactive.modeLaw {s : State} (hs : s.AllInactive) : s.modeLaw := fun _ => hs

theorem State.modeLaw_of_live {s : State} (h : s.engine.mode = .live) : s.modeLaw := fun hm => absurd h hm

theorem State.modeLaw_of_sameTable {s t : State} (h : s.SameTable t) (hmode : t.engine.mode = s.engine.mode) (hs : s.modeLaw) :
    t.modeLaw := fun hm => State.AllInactive.sameTable (hs (hmode ▸ hm)) h

/-- The view of an engine that is not LIVE. -/
theorem State.view_live_of_mode {s : State} (h : s.engine.mode ≠ .live) : s.view.live = false := by
  change s.isLive = false
  unfold State.isLive
  simp [h]

/-- R34: after the resolution of every active entry outside LIVE none is active. -/
theorem State.resolveActive_allInactive {s : State} (o : EntryOutcome) (h : s.engine.mode ≠ .live) :
    (s.resolveActive o).state.AllInactive := fun n e' he' => by
  rw [State.resolveActive, State.apply_table] at he'
  obtain ⟨e, -, rfl⟩ := Option.map_eq_some_iff.mp he'
  split
  · rw [Entry.resolve, Entry.settle_phase_of_not_live _ _ _ (s.view_live_of_mode h)]
    exact e.defn.nextPhase_isActive o
  · next hi => exact Bool.eq_false_iff.mpr hi

/-- R149: a release leaves no entry active. -/
theorem State.release_allInactive (s : State) : s.release.AllInactive := by
  have hresolved := State.resolveActive_allInactive (s := (s.setMode .suspended).dropArrivals) .interrupted
    (show Mode.suspended ≠ .live by decide)
  have hfree (x : State) (hx : x.AllInactive) : ({ x with zones := allFree } : State).unhold.unlock.AllInactive := hx
  have hcleared := ((hfree _ hresolved).sameTable (State.clearSignals_still _).toSameTable).sameTable
    (State.clearNotices_still _).toSameTable
  unfold State.release
  exact hcleared.sameTable (State.Still.of_eq (State.freshInterface_table _) (State.freshInterface_turn _)
    (State.freshInterface_zones _) (by rw [State.freshInterface_engine]) (State.freshInterface_site _)).toSameTable

theorem State.resolveActive_state_engine (s : State) (o : EntryOutcome) : (s.resolveActive o).state.engine = s.engine := by
  rw [State.resolveActive, State.apply_state_engine]

theorem State.release_engine (s : State) : s.release.engine = { s.engine with mode := .suspended, held := false } := by
  have hresolved := (s.setMode .suspended).dropArrivals.resolveActive_state_engine .interrupted
  unfold State.release State.clearSignals
  rw [State.freshInterface_engine, State.clearNotices_frame, State.changeEvent_engine]
  exact congrArg (fun x : Engine => { x with held := false }) hresolved

theorem State.lineAtReturn_allInactive {s : State} (hs : s.AllInactive) : s.lineAtReturn.1.AllInactive := by
  unfold State.lineAtReturn
  split
  · exact hs
  split
  · exact s.release_allInactive
  · exact hs

theorem State.lineAtReturn_mode (s : State) : s.lineAtReturn.2 ≠ .backup := by
  have hmode (m : RunMode) : m.toMode ≠ .backup := by cases m <;> decide
  unfold State.lineAtReturn
  split
  · exact hmode _
  split
  · exact show Mode.suspended ≠ .backup by decide
  · exact hmode _

theorem State.goLive_engine (s : State) : s.goLive.engine = s.engine := by
  rw [State.goLive, Arrival.asOne_engine, Arrival.walkIf_state, State.recheckAll, State.apply_state_engine]

theorem State.restoreMode_engine (s : State) (m : Mode) : (s.restoreMode m).engine = { s.engine with mode := m } := by
  unfold State.restoreMode
  simp only
  split
  · exact State.goLive_engine _
  · rfl

theorem State.restoreMode_modeLaw {s : State} (m : Mode) (hs : s.AllInactive) : (s.restoreMode m).modeLaw := by
  by_cases hm : m = .live
  · exact State.modeLaw_of_live (by rw [State.restoreMode_engine, hm])
  · have hlive : (s.setMode m).isLive = false := State.view_live_of_mode (s := s.setMode m) hm
    unfold State.restoreMode
    simp only [hlive, Bool.false_eq_true, if_false]
    exact State.AllInactive.modeLaw hs

/-- R146: a return that finds no entry active leaves the law of the active entries. -/
theorem State.returned_modeLaw {s : State} (order : ReturnOrder) (hs : s.AllInactive) : (s.returned order).modeLaw := by
  have hlined : s.leaveBattery.freshInterface.lineAtReturn.1.AllInactive :=
    State.lineAtReturn_allInactive (s := s.leaveBattery.freshInterface) hs
  have hfirst := State.AllInactive.sameTable (s := s.leaveBattery.freshInterface.lineAtReturn.1.report noticeSupplyReturn) hlined
    (State.through_still (first := order.sensors) (events := (wakeEvents order.sensors).take order.place)
      (fun _ => List.mem_of_mem_take) _).toSameTable
  have hlast := State.through_still (first := order.sensors) (events := (wakeEvents order.sensors).drop order.place)
    (fun _ => List.mem_of_mem_drop)
  unfold State.returned
  exact State.modeLaw_of_sameTable (hlast _).toSameTable (hlast _).mode (State.restoreMode_modeLaw _ hfirst)

/-! ### The law of the active entries (R137) -/

theorem State.modeLaw_put {s : State} {n : EntryIx} {e : Entry} (hs : s.modeLaw)
    (he : s.engine.mode ≠ .live → e.phase.isActive = false) : (s.putEntry n (some e)).modeLaw := fun hm m x hx => by
  by_cases hmn : m = n
  · subst hmn
    rw [State.putEntry_slot_same] at hx
    obtain rfl : e = x := Option.some.inj hx
    exact he hm
  · rw [State.putEntry_slot_other _ _ hmn] at hx
    exact hs hm m x hx

theorem modeLaw_kept : KeptByArrivals State.modeLaw where
  still h hs := State.modeLaw_of_sameTable h.toSameTable h.mode hs
  arrival {s f} hs hf hm n e' he' := by
    rw [State.apply_state_engine] at hm
    rw [State.apply_table] at he'
    obtain ⟨e, he, rfl⟩ := Option.map_eq_some_iff.mp he'
    exact (hf n e he).inactive (s.view_live_of_mode hm) (hs hm n e he)
  rests hs _ := hs
  grant {s n e w} hs he hdue _ := by
    refine State.modeLaw_put hs fun hm => absurd (hs hm n e he) ?_
    simp [hdue, Phase.isActive]

/-- In BACKUP no entry is active. -/
theorem State.allInactive_of_battery {s : State} (hmode : s.modeLaw) (hsupply : s.supplyLaw) (h : s.supply.condition = .battery) :
    s.AllInactive :=
  hmode (by rw [hsupply.1.mpr h]; decide)

theorem State.removeEntry_everyEntry {s : State} {n : EntryIx} {p : EntryIx → Entry → Prop} (hs : s.everyEntry p) :
    (s.removeEntry n).everyEntry p := fun m e he => by
  by_cases hm : m = n
  · subst hm
    rw [State.removeEntry_slot_same] at he
    cases he
  · rw [State.removeEntry_slot_other _ hm] at he
    exact hs m e he

theorem State.modeLaw_retired {s : State} {n : EntryIx} (hs : s.modeLaw) :
    (((s.applyAt n Entry.retired).asOne.removeEntry n).complete .ok 0 none).modeLaw := fun hm => by
  have htable := State.asOne_sameTable (s.applyAt_retired_sameTable n)
  have hengine : (s.applyAt n Entry.retired).asOne.engine = s.engine := by
    rw [Arrival.asOne_engine, State.applyAt_state_engine]
  exact State.removeEntry_everyEntry (State.AllInactive.sameTable (hs (hengine ▸ hm)) htable)

theorem State.modeLaw_special (s : State) (i : Instr) (hsupply : s.supplyLaw) (hs : s.modeLaw) :
    (s.afterRow i).modeLaw := by
  have hP := modeLaw_kept
  cases i
  case load =>
    refine afterRow_load_of hs (fun _ _ => hP.complete _ _ _ hs) fun n _ _ _ _ _ _ =>
      hP.loadEntry (State.modeLaw_put (s := s) hs fun _ => ?_)
    unfold Entry.fresh
    simp only
    split <;> rfl
  case modify =>
    have hsettled := hP.settleSelf hs
    exact afterRow_modify_of hs (fun _ _ => hP.complete _ _ _ hsettled) fun n e _ _ _ hn _ _ _ =>
      hP.modifyEntry (State.modeLaw_put hsettled fun hm => hsettled hm n e hn)
  case retire =>
    exact afterRow_retire_of hs (fun _ _ => hP.complete _ _ _ hs) fun _ _ _ _ _ _ _ => State.modeLaw_retired hs
  case setZones =>
    exact afterRow_setZones_of hs (fun _ _ => hP.complete _ _ _ hs) fun _ _ _ _ =>
      hP.complete _ _ _ (hP.asOne (KeptByArrivals.walkIf _ hs))
  case configure =>
    exact afterRow_configure_of hs (fun _ _ => hP.complete _ _ _ hs) fun _ _ _ _ =>
      hP.complete _ _ _ (hP.asOne (KeptByArrivals.walkIf _ (hP.still (State.changeEvent_still _ _) hs)))
  case engineStart =>
    exact afterRow_engineStart_of hs (fun _ _ _ => hP.complete _ _ _ hs) fun _ _ _ _ _ =>
      State.modeLaw_of_live (by rw [State.complete_engine, State.goLive_engine]; rfl)
  case engineSuspend =>
    exact afterRow_engineSuspend_of hs (fun _ _ _ => hP.complete _ _ _ hs) fun _ _ _ _ =>
      hP.complete _ _ _ (hP.asOne (State.resolveActive_allInactive _ (show Mode.suspended ≠ .live by decide)).modeLaw)
  case entryToBackup =>
    refine afterRow_of rfl ?_
    split
    · have hresolved := State.resolveActive_allInactive (s := s.enterBattery.dropArrivals) .interrupted
        (show Mode.backup ≠ .live by decide)
      have hzones (x : State) (hx : x.AllInactive) : x.zonesInBackup.AllInactive := hx
      have hcut (x : State) (hx : x.AllInactive) : x.abandonFilters.cutInterface.AllInactive := hx
      exact (hcut _ ((hzones _ hresolved).sameTable (State.loseMains_timebaseFrame _).still.toSameTable)).modeLaw
    · exact hs
  case returnFromBackup order =>
    rw [afterRow_returnFromBackup]
    split
    · next h =>
      simp only [Bool.and_eq_true, beq_iff_eq] at h
      exact State.returned_modeLaw order (State.allInactive_of_battery hs hsupply h.2)
    · exact hs
  case resetRelease =>
    rw [afterRow_resetRelease]
    split
    · exact (State.release_allInactive _).modeLaw
    · exact hs
  case coldStart =>
    obtain hp | hp := Bool.eq_false_or_eq_true s.powered
    · rw [afterRow_coldStart_of_powered hp]; exact hs
    · intro _ n e he
      rw [afterRow_coldStart_slot hp] at he
      cases he
  all_goals exact hP.afterRow rfl hs

/-! ### The law of the supply (R145, R146) -/

/-- No command is taken or in progress. -/
def Interface.Quiet (x : Interface) : Prop := x.busy = false ∧ x.code = none

theorem State.supplyLaw_of_main {s : State} (hc : s.supply.condition = .main) (hm : s.engine.mode ≠ .backup) : s.supplyLaw :=
  ⟨⟨fun h => absurd h hm, fun h => absurd (hc.symm.trans h) (by decide)⟩, fun h => absurd (hc.symm.trans h) (by decide)⟩

/-- Under the law a command is in progress on MAIN alone. -/
theorem State.supplyLaw.main_of_inProgress {s : State} (hs : s.supplyLaw) {code : Byte} (h : s.inProgress code = true) :
    s.supply.condition = .main := by
  cases hc : s.supply.condition with
  | main => rfl
  | battery => exact absurd ((hs.2 hc).1.symm.trans (State.busy_of_inProgress h)) (by decide)

/-- The rows that leave the engine mode and the supply condition. -/
def keepsMode : Instr → Bool
  | .engineStart | .engineSuspend | .entryToBackup | .returnFromBackup _ | .coldStart | .resetRelease => false
  | _ => true

theorem afterRow_mode {i : Instr} (hi : keepsMode i = true) (s : State) : (s.afterRow i).engine.mode = s.engine.mode := by
  cases i
  case resetAssert =>
    refine afterRow_of (P := fun t => t.engine.mode = s.engine.mode) rfl ?_
    split <;> rfl
  case engineStart | engineSuspend | entryToBackup | returnFromBackup | coldStart | resetRelease => cases hi
  all_goals exact congrArg Engine.mode (afterRow_part (p := .engine) (by simp [touches]) s)

theorem afterRow_condition {i : Instr} (hi : keepsMode i = true) (s : State) :
    (s.afterRow i).supply.condition = s.supply.condition := by
  cases i
  case supplyDip =>
    refine afterRow_of (P := fun t => t.supply.condition = s.supply.condition) rfl ?_
    split <;> rfl
  case retentionMarkLost => rfl
  case engineStart | engineSuspend | entryToBackup | returnFromBackup | coldStart | resetRelease => cases hi
  all_goals exact congrArg Supply.condition (afterRow_part (p := .supply) (by simp [touches]) s)

/-- On BATTERY no row takes or begins a command. -/
theorem afterRow_quiet {i : Instr} (hi : keepsMode i = true) {s : State} (hb : s.supply.condition = .battery)
    (hq : s.iface.Quiet) : (s.afterRow i).iface.Quiet := by
  by_cases hc : isCommand i = true
  · rw [afterRow_command_idle hc hq.1]; exact hq
  by_cases hbus : isBus i = true
  · rw [afterRow_bus_ignored hbus (s.busHeard_of_battery hb)]; exact hq
  by_cases ha : isArrival i = true
  · have h := afterRow_arrivalFrame ha s
    unfold State.arrivalFrame at h
    rw [h]; exact hq
  by_cases ht : onTimebaseAlone i = true
  · have h := afterRow_timebaseFrame ht s
    unfold State.timebaseFrame at h
    rw [h]; exact hq
  cases i
  case resetAssert =>
    refine afterRow_of (P := fun t => t.iface.Quiet) rfl ?_
    split
    · exact ⟨rfl, rfl⟩
    · exact hq
  case supplyDip => rw [afterRow_supplyDip_frame]; exact hq
  case retentionMarkLost => exact ⟨rfl, rfl⟩
  case secondEvent order => rw [afterRow_secondEvent_frame]; exact hq
  case sensorPinChange k level => rw [afterRow_sensorPinChange_frame]; exact hq
  case sensorAcceptance k => rw [afterRow_sensorAcceptance_frame]; exact hq
  case engineStart | engineSuspend | entryToBackup | returnFromBackup | coldStart | resetRelease => cases hi
  all_goals first | exact absurd rfl hc | exact absurd rfl hbus | exact absurd rfl ha | exact absurd rfl ht

theorem State.through_engine {first : List SensorIx} {events : List (State → State)}
    (h : ∀ f, f ∈ events → f ∈ wakeEvents first) (s : State) : (s.through events).engine = s.engine := by
  have hframe := State.through_signalFrame h s
  unfold State.signalFrame at hframe
  rw [hframe]

theorem State.returned_engine_mode (s : State) (order : ReturnOrder) : (s.returned order).engine.mode ≠ .backup := by
  unfold State.returned
  rw [State.through_engine (first := order.sensors) fun _ => List.mem_of_mem_drop, State.restoreMode_engine]
  exact State.lineAtReturn_mode _

theorem State.returned_condition (s : State) (order : ReturnOrder) : (s.returned order).supply.condition = .main := by
  have h := s.returned_releaseFrame order
  unfold State.releaseFrame at h
  rw [h]; rfl

theorem State.release_supply (s : State) : s.release.supply = s.supply := by
  have h := s.release_releaseFrame
  unfold State.releaseFrame at h
  rw [h]

/-- R145: the entry to BACKUP. -/
theorem afterRow_entryToBackup_supplyLaw {s : State} (hs : s.supplyLaw) : (s.afterRow .entryToBackup).supplyLaw := by
  refine afterRow_of rfl ?_
  split
  · have hmains := State.loseMains_timebaseFrame (s.enterBattery.dropArrivals.resolveActive .interrupted).state.zonesInBackup
    unfold State.timebaseFrame at hmains
    have hengine := s.enterBattery.dropArrivals.resolveActive_state_engine .interrupted
    have hsupply : (s.enterBattery.dropArrivals.resolveActive .interrupted).state.supply = s.enterBattery.dropArrivals.supply := by
      rw [State.resolveActive, State.apply_state_supply]
    rw [hmains]
    refine ⟨⟨fun _ => ?_, fun _ => ?_⟩, fun _ => ⟨rfl, rfl⟩⟩
    · exact congrArg Supply.condition hsupply
    · exact congrArg Engine.mode hengine
  · exact hs

theorem supplyLaw_afterRow (s : State) (i : Instr) (hs : s.supplyLaw) : (s.afterRow i).supplyLaw := by
  by_cases hi : keepsMode i = true
  · refine ⟨by rw [afterRow_mode hi, afterRow_condition hi]; exact hs.1, fun hb => ?_⟩
    rw [afterRow_condition hi] at hb
    exact afterRow_quiet hi hb (hs.2 hb)
  cases i
  case engineStart =>
    have hkeep (r : ResultCode) (d : Byte) (o : Option (List Byte)) : (s.complete r d o).supplyLaw := ⟨hs.1, fun _ => ⟨rfl, rfl⟩⟩
    refine afterRow_engineStart_of hs hkeep fun _ hp _ _ _ => State.supplyLaw_of_main ?_ ?_
    · have h := s.finishUnderway_eventFrame
      unfold State.eventFrame at h
      rw [State.complete_supply, State.goLive, Arrival.asOne_supply, Arrival.walkIf_state, State.recheckAll,
        State.apply_state_supply, State.setMode_supply, h]
      exact hs.main_of_inProgress hp
    · rw [State.complete_engine, State.goLive_engine]
      exact show Mode.live ≠ .backup by decide
  case engineSuspend =>
    have hkeep (r : ResultCode) (d : Byte) (o : Option (List Byte)) : (s.complete r d o).supplyLaw := ⟨hs.1, fun _ => ⟨rfl, rfl⟩⟩
    refine afterRow_engineSuspend_of hs hkeep fun _ hp _ _ => State.supplyLaw_of_main ?_ ?_
    · have h := s.settleEnds_eventFrame
      unfold State.eventFrame at h
      rw [State.complete_supply, Arrival.asOne_supply, State.resolveActive, State.apply_state_supply, h]
      exact hs.main_of_inProgress hp
    · rw [State.complete_engine, Arrival.asOne_engine, State.resolveActive_state_engine]
      exact show Mode.suspended ≠ .backup by decide
  case entryToBackup => exact afterRow_entryToBackup_supplyLaw hs
  case returnFromBackup order =>
    rw [afterRow_returnFromBackup]
    split
    · exact State.supplyLaw_of_main (s.returned_condition order) (s.returned_engine_mode order)
    · exact hs
  case resetRelease =>
    rw [afterRow_resetRelease]
    split
    · next h =>
      simp only [Bool.and_eq_true, beq_iff_eq] at h
      refine State.supplyLaw_of_main (by rw [State.release_supply]; exact h.1.2) ?_
      rw [State.release_engine]
      exact show Mode.suspended ≠ .backup by decide
    · exact hs
  case coldStart =>
    obtain hp | hp := Bool.eq_false_or_eq_true s.powered
    · rw [afterRow_coldStart_of_powered hp]; exact hs
    · rw [afterRow_coldStart hp]
      exact State.supplyLaw_of_main rfl (show Mode.suspended ≠ .backup by decide)
  all_goals exact absurd rfl hi

theorem State.supplyLaw_tick {s : State} (hs : s.supplyLaw) : s.tick.supplyLaw := by
  have hcondition : s.tick.supply.condition = s.supply.condition := by
    have h (u : State) : u.tickSupply.supply.condition = u.supply.condition := by unfold State.tickSupply; split <;> rfl
    unfold State.tick
    rw [h]
    have hf (u : State) : u.tickFilters.supply = u.supply := by unfold State.tickFilters; split <;> rfl
    rw [hf]
    split
    · have ht := s.tickTimebase_timebaseFrame
      unfold State.timebaseFrame at ht
      rw [ht]
    · rfl
  obtain ⟨hmode, hquiet⟩ := hs
  have hengine : s.tick.engine = s.engine := by rw [State.tick_frame]
  have hiface : s.tick.iface = s.iface := by rw [State.tick_frame]
  exact ⟨by rw [hengine, hcondition]; exact hmode, fun hb => by rw [hiface]; exact hquiet (hcondition ▸ hb)⟩

theorem supplyLaw_step {s t : State} (hs : s.supplyLaw) (h : step s = .next t) : t.supplyLaw :=
  law_of_step (P := State.supplyLaw) (fun _ _ => id) (fun _ => id) supplyLaw_afterRow (fun _ => State.supplyLaw_tick) hs h

theorem modeLaw_step {s t : State} (hsupply : s.supplyLaw) (hs : s.modeLaw) (h : step s = .next t) : t.modeLaw :=
  modeLaw_kept.step (Q := State.supplyLaw) (fun s i _ => s.modeLaw_special i) (fun _ _ _ => id) hsupply hs h

/-- Settles O58: the counts by the ranges that each arrival keeps, the supply by what each row does to mode and condition, and the active
entries by both. -/
theorem entryLawsKept : Obligations.EntryLawsKept := fun _ _ ⟨hmode, hcounter, hsupply⟩ h =>
  ⟨modeLaw_step hsupply hmode h,
    counterLaw_kept.step (P := State.counterLaw) (Q := fun _ => True) (fun s i hi _ => s.counterLaw_special i hi)
      (fun _ _ _ => id) trivial hcounter h,
    supplyLaw_step hsupply h⟩

end Sys2Proof.Machine
end

section
/-! The laws of the zones: the budget, the ownership and the energy through every step, and no engaged zone in BACKUP. -/

namespace Sys2Proof.Machine

/-! ### Counting zones -/

/-- A list without repetition that holds exactly the members of a set has as many elements as the set. -/
theorem length_filter_finRange {w : Nat} {p : Fin w → Bool} {members : List (Fin w)} (hnodup : members.Nodup)
    (hmem : ∀ i, i ∈ members ↔ p i = true) : ((List.finRange w).filter p).length = members.length := by
  refine ((List.perm_ext_iff_of_nodup ((List.nodup_finRange w).filter _) hnodup).mpr fun i => ?_).length_eq
  rw [hmem, List.mem_filter]
  exact and_iff_right (List.mem_finRange i)

theorem setSize_eq {w : Nat} (b : BitVec w) : setSize b = ((List.finRange w).filter fun i => b.getLsbD i.val).length := by
  unfold setSize
  rw [← List.map_coe_finRange_eq_range, List.filter_map, List.length_map]
  rfl

theorem Zone.engaged_iff (z : Zone) : z.engaged = true ↔ (∃ n, z = .ownedOn n) ∨ (∃ n r, z = .ownedOff n r) ∨ z = .manualOn := by
  cases z <;> simp [Zone.engaged]

theorem Zone.engaged_of_owner {z : Zone} {n : EntryIx} (h : z.owner = some n) : z.engaged = true := by
  cases z with
  | ownedOn | ownedOff => rfl
  | free | resting | manualOn | manualOff => cases h

/-- The engaged count only falls where no further zone becomes engaged. -/
theorem engagedCount_le {before after : Vector Zone 16} (h : ∀ z : ZoneIx, after[z].engaged = true → before[z].engaged = true) :
    engagedCount after ≤ engagedCount before := by
  unfold engagedCount
  rw [← List.countP_eq_length_filter, ← List.countP_eq_length_filter]
  exact List.countP_mono_left fun z _ => h z

/-- Where the zones of a set become engaged, the engaged count rises by no more than the size of the set. -/
theorem engagedCount_le_add {before after : Vector Zone 16} (set : ZoneSet)
    (h : ∀ z : ZoneIx, after[z].engaged = true → set.getLsbD z.val = true ∨ before[z].engaged = true) :
    engagedCount after ≤ engagedCount before + setSize set := by
  rw [setSize_eq]
  unfold engagedCount
  simp only [← List.countP_eq_length_filter]
  generalize List.finRange 16 = l
  induction l with
  | nil => simp
  | cons z l ih =>
    simp only [List.countP_cons]
    by_cases ha : after[z].engaged = true
    · rcases h z ha with hs | hb
      · rw [if_pos ha, if_pos hs]
        split <;> omega
      · rw [if_pos ha, if_pos hb]
        split <;> omega
    · rw [if_neg ha]
      split <;> split <;> omega

theorem engagedCount_eq_zero {zones : Vector Zone 16} (h : ∀ z : ZoneIx, zones[z].engaged = false) : engagedCount zones = 0 := by
  unfold engagedCount
  rw [List.length_eq_zero_iff, List.filter_eq_nil_iff]
  exact fun z _ => by rw [h z]; exact Bool.false_ne_true

/-! ### What an effect does to a zone (R120) -/

theorem ZoneEffect.apply_engaged {x : ZoneEffect} {r : Nat} {z : Zone} (h : (x.apply r z).engaged = true) : z.engaged = true := by
  cases z with
  | ownedOn | ownedOff | manualOn => rfl
  | free | resting | manualOff => cases x <;> exact h

theorem ZoneEffect.apply_owner (x : ZoneEffect) (r : Nat) (z : Zone) :
    (x.apply r z).owner = if x = .release then none else z.owner := by
  cases x with
  | keep => rfl
  | release =>
    cases z with
    | ownedOn n => simp only [ZoneEffect.apply, Zone.release]; split <;> rfl
    | ownedOff n rest => cases rest <;> rfl
    | free | resting | manualOn | manualOff => rfl
  | pause => cases z <;> rfl
  | resume =>
    cases z with
    | ownedOff n rest => cases rest <;> rfl
    | free | resting | ownedOn | manualOn | manualOff => rfl

/-- A zone that an effect leaves OWNED_ON was so and is kept, or is resumed. -/
theorem ZoneEffect.ownedOn_of_apply {x : ZoneEffect} {r : Nat} {z : Zone} {n : EntryIx} (h : x.apply r z = .ownedOn n) :
    (x = .keep ∧ z = .ownedOn n) ∨ (x = .resume ∧ z.owner = some n) := by
  have howner : (x.apply r z).owner = some n := by rw [h]; rfl
  rw [ZoneEffect.apply_owner] at howner
  cases x with
  | keep => exact Or.inl ⟨rfl, h⟩
  | release => simp at howner
  | pause =>
    cases z with
    | free | resting | ownedOn | ownedOff | manualOn | manualOff => cases h
  | resume => exact Or.inr ⟨rfl, by simpa using howner⟩

theorem Zone.countRest_owner (running : Bool) (z : Zone) : (z.countRest running).owner = z.owner := by
  unfold Zone.countRest
  split
  case h_1 => split <;> rfl
  case h_2 =>
    split
    · split <;> rfl
    · rfl
  case h_3 => split <;> rfl
  all_goals rfl

theorem Zone.countRest_engaged (running : Bool) (z : Zone) : (z.countRest running).engaged = z.engaged := by
  unfold Zone.countRest
  split
  case h_1 => split <;> rfl
  case h_2 =>
    split
    · split <;> rfl
    · rfl
  case h_3 => split <;> rfl
  all_goals rfl

/-- R119: a zone that a counted second leaves OWNED_ON was so, or its owner is RUNNING. -/
theorem Zone.ownedOn_of_countRest {running : Bool} {z : Zone} {n : EntryIx} (h : z.countRest running = .ownedOn n) :
    z = .ownedOn n ∨ (running = true ∧ z.owner = some n) := by
  have howner : (z.countRest running).owner = some n := by rw [h]; rfl
  rw [Zone.countRest_owner] at howner
  cases hr : running with
  | true => exact Or.inr ⟨rfl, howner⟩
  | false =>
    left
    subst hr
    cases z with
    | ownedOn m => exact h
    | ownedOff m rest =>
      cases rest with
      | none => cases h
      | some k =>
        simp only [Zone.countRest] at h
        split at h
        · cases h
        · cases h
    | free | resting | manualOn | manualOff => cases howner

/-! ### The zones after an arrival -/

/-- R120: the effect that reaches a zone where its owner alone may move it. -/
def State.zoneMove (s : State) (f : EntryIx → Entry → Effect) (z : ZoneIx) : ZoneEffect :=
  match s.zones[z].owner with
  | some n => match s.effectAt f n with
    | some x => x.zones
    | none => .keep
  | none => .keep

/-- Under the ownership law the entry whose effect reaches a zone is its owner. -/
theorem State.apply_zones_of_owner {s : State} {f : EntryIx → Entry → Effect} (hs : s.ownerLaw)
    (hdefn : ∀ (n : EntryIx) (e : Entry), s.table[n] = some e → (f n e).entry.defn = e.defn)
    (howns : ∀ (n : EntryIx) (e : Entry), s.table[n] = some e → (f n e).zones ≠ .keep → e.phase.ownsZones = true) (z : ZoneIx) :
    (s.apply f).state.zones[z] = (s.zoneMove f z).apply (s.restTime z) s.zones[z] := by
  rw [State.apply_zones]
  congr 1
  unfold zoneEffectOf
  split
  · next x hx =>
    obtain ⟨⟨m, y⟩, hmem, rfl⟩ := List.mem_map.mp (List.mem_of_find?_eq_some hx)
    have hclaim := List.find?_some hx
    rw [List.mem_filter, List.mem_filterMap] at hmem
    obtain ⟨⟨k, -, hk⟩, hmoves⟩ := hmem
    obtain ⟨y', hy', hpair⟩ := Option.map_eq_some_iff.mp hk
    obtain ⟨rfl, rfl⟩ := Prod.mk.inj hpair
    obtain ⟨e, he, rfl⟩ := Option.map_eq_some_iff.mp hy'
    have howner : s.zones[z].owner = some k := by
      rw [hs, he, slotOwns, howns k e he (by simpa using hmoves), Bool.true_and, ← hdefn k e he]
      exact hclaim
    unfold State.zoneMove
    simp only [howner, hy']
  · next hnone =>
    unfold State.zoneMove
    split
    · next n howner =>
      split
      · next x hx =>
        obtain ⟨e, he, rfl⟩ := Option.map_eq_some_iff.mp hx
        have hclaim : e.defn.claim.getLsbD z.val = true := by
          obtain ⟨e', he', hclaim⟩ := s.owner_claims hs howner
          obtain rfl : e = e' := Option.some.inj (he.symm.trans he')
          exact hclaim
        by_contra hkeep
        rw [List.find?_eq_none] at hnone
        refine hnone (f n e) (List.mem_map.mpr ⟨(n, f n e), ?_, rfl⟩) (by rw [hdefn n e he]; exact hclaim)
        rw [List.mem_filter, List.mem_filterMap]
        exact ⟨⟨n, List.mem_finRange n, by rw [hx]; rfl⟩, by simpa using fun h => hkeep h.symm⟩
      · rfl
    · rfl

/-- The effect that reaches an owned zone is that of its owner. -/
theorem State.zoneMove_owned {s : State} {f : EntryIx → Entry → Effect} {z : ZoneIx} {n : EntryIx} {e : Entry}
    (howner : s.zones[z].owner = some n) (he : s.table[n] = some e) : s.zoneMove f z = (f n e).zones := by
  unfold State.zoneMove State.effectAt
  simp only [howner, he, Option.map_some]

theorem State.apply_engaged (s : State) (f : EntryIx → Entry → Effect) : (s.apply f).state.engaged ≤ s.engaged :=
  engagedCount_le fun z h => by
    rw [State.apply_zones] at h
    exact ZoneEffect.apply_engaged h

/-! ### The budget, the ownership and the energy, as one law -/

/-- The laws of the budget, the owners and the energised zones. -/
structure State.ZoneLaw (s : State) : Prop where
  budget : s.budgetLaw
  owner : s.ownerLaw
  energy : s.energyLaw

theorem slotOwns_core {slot slot' : Option Entry} (h : slotCore slot' = slotCore slot) (z : ZoneIx) :
    slotOwns slot' z = slotOwns slot z := by
  cases slot' with
  | none =>
    cases slot with
    | none => rfl
    | some e => simp [slotCore] at h
  | some e' =>
    obtain ⟨e, rfl, hd, hp⟩ := slotCore_some h rfl
    rw [slotOwns, slotOwns, hd, hp]

theorem slotRunning_core {slot slot' : Option Entry} (h : slotCore slot' = slotCore slot) : slotRunning slot' = slotRunning slot := by
  cases slot' with
  | none =>
    cases slot with
    | none => rfl
    | some e => simp [slotCore] at h
  | some e' =>
    obtain ⟨e, rfl, -, hp⟩ := slotCore_some h rfl
    rw [slotRunning_some, slotRunning_some, hp]

/-- Where the zones stay, and every slot owns and runs as it did. -/
theorem State.ZoneLaw.of_slots {s t : State} (hs : s.ZoneLaw) (hzones : t.zones = s.zones) (hsettings : t.settings = s.settings)
    (howns : ∀ (n : EntryIx) (z : ZoneIx), slotOwns t.table[n] z = slotOwns s.table[n] z)
    (hrunning : ∀ n : EntryIx, slotRunning t.table[n] = slotRunning s.table[n]) : t.ZoneLaw where
  budget := by
    have := hs.budget
    unfold State.budgetLaw State.engaged State.budget at *
    rw [hzones, hsettings]; exact this
  owner n z := by rw [hzones, howns]; exact hs.owner n z
  energy n z h := by
    rw [hzones] at h
    rw [hrunning]; exact hs.energy n z h

theorem State.ZoneLaw.sameTable {s t : State} (hs : s.ZoneLaw) (h : s.SameTable t) (hzones : t.zones = s.zones)
    (hsettings : t.settings = s.settings) : t.ZoneLaw :=
  hs.of_slots hzones hsettings (fun n => slotOwns_core (h.core n)) fun n => slotRunning_core (h.core n)

theorem State.ZoneLaw.unmoved {s t : State} (hs : s.ZoneLaw) (htable : t.table = s.table) (hzones : t.zones = s.zones)
    (hsite : t.site = s.site) : t.ZoneLaw :=
  hs.of_slots hzones (by rw [State.settings, State.settings, hsite]) (fun _ _ => by rw [htable]) fun _ => by rw [htable]

/-- Where no entry is active and no zone is engaged. -/
theorem State.ZoneLaw.of_inactive {s : State} (hs : s.AllInactive) (hz : ∀ z : ZoneIx, s.zones[z].engaged = false) : s.ZoneLaw where
  budget := by
    unfold State.budgetLaw State.engaged
    rw [engagedCount_eq_zero hz]
    exact Nat.zero_le _
  owner n z := by
    refine ⟨fun h => absurd (Zone.engaged_of_owner h) (by rw [hz z]; decide), fun h => ?_⟩
    cases he : s.table[n] with
    | none => rw [he] at h; cases h
    | some e =>
      rw [he, slotOwns, Phase.ownsZones_of_isActive_false (hs n e he)] at h
      cases h
  energy n z h := absurd (congrArg Zone.engaged h) (by rw [hz z]; exact Bool.false_ne_true)

/-- R120: an entry that owns zones after an effect that agrees with its states owned them before. -/
theorem ZoneEffect.agrees.owned {x : ZoneEffect} {before after : Phase} (h : x.agrees before after)
    (ha : after.ownsZones = true) : before.ownsZones = true := by
  cases x with
  | keep => exact h.1 ▸ ha
  | release => exact h.1
  | pause => cases before <;> first | rfl | exact absurd h.1 (by simp [Phase.isRunning])
  | resume =>
    obtain ⟨⟨r, hr⟩, -⟩ := h
    rw [hr]; rfl

/-- R120: an entry that owned its zones owns them after, but for a release. -/
theorem ZoneEffect.agrees.owns {x : ZoneEffect} {before after : Phase} (h : x.agrees before after)
    (hb : before.ownsZones = true) : after.ownsZones = if x = .release then false else true := by
  cases x with
  | keep => exact h.1.trans hb
  | release => exact h.2
  | pause =>
    obtain ⟨-, r, hr⟩ := h
    rw [hr]; rfl
  | resume =>
    obtain ⟨r, hr⟩ := Phase.isRunning_iff.mp h.2
    rw [hr]; rfl

theorem ZoneEffect.agrees.owns_of_ne {x : ZoneEffect} {before after : Phase} (h : x.agrees before after) (hx : x ≠ .keep) :
    before.ownsZones = true := by
  cases x with
  | keep => exact absurd rfl hx
  | release => exact h.1
  | pause =>
    obtain ⟨r, hr⟩ := Phase.isRunning_iff.mp h.1
    rw [hr]; rfl
  | resume =>
    obtain ⟨⟨r, hr⟩, -⟩ := h
    rw [hr]; rfl

section
variable {s : State} {f : EntryIx → Entry → Effect} (hs : s.ZoneLaw)
  (hf : ∀ (n : EntryIx) (e : Entry), s.table[n] = some e → (f n e).Lawful s.view e)
include hs hf

theorem State.ZoneLaw.apply_zones (z : ZoneIx) :
    (s.apply f).state.zones[z] = (s.zoneMove f z).apply (s.restTime z) s.zones[z] :=
  State.apply_zones_of_owner hs.owner (fun n e he => (hf n e he).defn) (fun n e he => (hf n e he).zones.owns_of_ne) z

theorem State.ZoneLaw.apply_owner (n : EntryIx) (z : ZoneIx) :
    (s.apply f).state.zones[z].owner = some n ↔ slotOwns (s.apply f).state.table[n] z = true := by
  rw [hs.apply_zones hf, ZoneEffect.apply_owner, State.apply_table]
  have hslot : slotOwns (s.table[n].map fun e => (f n e).entry) z = true
      ↔ ∃ e, s.table[n] = some e ∧ (f n e).entry.phase.ownsZones = true ∧ e.defn.claim.getLsbD z.val = true := by
    cases he : s.table[n] with
    | none => simp [slotOwns]
    | some e => simp [slotOwns, (hf n e he).defn]
  have hbefore : s.zones[z].owner = some n ↔ ∃ e, s.table[n] = some e ∧ e.phase.ownsZones = true ∧ e.defn.claim.getLsbD z.val = true := by
    rw [hs.owner n z]
    cases he : s.table[n] with
    | none => simp [slotOwns]
    | some e => simp [slotOwns]
  rw [hslot]
  constructor
  · intro h
    split at h
    · cases h
    · next hmove =>
      obtain ⟨e, he, howns, hclaim⟩ := hbefore.mp h
      rw [State.zoneMove_owned h he] at hmove
      exact ⟨e, he, by rw [(hf n e he).zones.owns howns, if_neg hmove], hclaim⟩
  · rintro ⟨e, he, howns, hclaim⟩
    have hb := (hf n e he).zones.owned howns
    have howner := hbefore.mpr ⟨e, he, hb, hclaim⟩
    rw [State.zoneMove_owned howner he]
    split
    · next hrelease =>
      rw [(hf n e he).zones.owns hb, if_pos hrelease] at howns
      cases howns
    · exact howner

theorem State.ZoneLaw.apply_energy : (s.apply f).state.energyLaw := fun n z h => by
  rw [hs.apply_zones hf] at h
  have hrunning : ∀ {e : Entry}, s.table[n] = some e → (f n e).entry.phase.isRunning = true →
      slotRunning (s.apply f).state.table[n] = true := fun he hr => by
    rw [State.apply_table, he, Option.map_some, slotRunning_some]; exact hr
  rcases ZoneEffect.ownedOn_of_apply h with ⟨hkeep, hz⟩ | ⟨hresume, howner⟩
  · obtain ⟨e, he, -⟩ := s.owner_claims hs.owner (n := n) (z := z) (by rw [hz]; rfl)
    rw [State.zoneMove_owned (by rw [hz]; rfl) he] at hkeep
    have hagrees := (hf n e he).zones
    rw [hkeep] at hagrees
    refine hrunning he (hagrees.2.trans ?_)
    have := hs.energy n z hz
    rwa [he, slotRunning_some] at this
  · obtain ⟨e, he, -⟩ := s.owner_claims hs.owner howner
    rw [State.zoneMove_owned howner he] at hresume
    have hagrees := (hf n e he).zones
    rw [hresume] at hagrees
    exact hrunning he hagrees.2

end

theorem State.apply_settings (s : State) (f : EntryIx → Entry → Effect) : (s.apply f).state.settings = s.settings := by
  rw [State.settings, State.settings, State.apply_state_site]

/-- A DUE entry owns no zone. -/
theorem slotOwns_due {e : Entry} {w : WaitState} (h : e.phase = .due w) (z : ZoneIx) : slotOwns (some e) z = false := by
  rw [slotOwns, h]; rfl

theorem State.grant_zone (s : State) (n : EntryIx) (e : Entry) (w : WaitState) (z : ZoneIx) :
    (s.grant n e w).zones[z] = if e.defn.claim.getLsbD z.val then .ownedOn n else s.zones[z] := by
  rw [State.grant_zones]; exact Vector.getElem_ofFn _

theorem State.grantable_iff {s : State} {e : Entry} : s.grantable e = true ↔ e.walkPermit = true
    ∧ (∀ z : ZoneIx, e.defn.claim.getLsbD z.val = true → s.zones[z] = .free)
    ∧ s.engaged + setSize e.defn.claim ≤ s.budget := by
  unfold State.grantable claimed
  simp only [Bool.and_eq_true, List.all_eq_true, List.mem_filter, List.mem_finRange, true_and, beq_iff_eq, decide_eq_true_eq, and_assoc]

/-- R99, R116, R118: a grant takes free zones within the budget. -/
theorem State.ZoneLaw.grant {s : State} {n : EntryIx} {e : Entry} {w : WaitState} (hs : s.ZoneLaw) (he : s.table[n] = some e)
    (hdue : e.phase = .due w) (hg : s.grantable e = true) : (s.grant n e w).ZoneLaw := by
  obtain ⟨-, hfree, hfits⟩ := State.grantable_iff.mp hg
  have hslot (z : ZoneIx) : slotOwns (s.grant n e w).table[n] z = e.defn.claim.getLsbD z.val := by
    rw [State.grant_slot_same]; rfl
  refine ⟨?_, fun m z => ?_, fun m z h => ?_⟩
  · refine Nat.le_trans (engagedCount_le_add e.defn.claim fun z h => ?_) hfits
    rw [State.grant_zone] at h
    split at h
    · exact Or.inl ‹_›
    · exact Or.inr h
  · rw [State.grant_zone]
    by_cases hm : m = n
    · subst hm
      rw [hslot]
      split
      · next hc => simp [Zone.owner, hc]
      · next hc =>
        rw [hs.owner, he, slotOwns_due hdue, Bool.eq_false_iff.mpr hc]
    · rw [State.grant_slot_other _ _ _ hm, ← hs.owner m z]
      split
      · next hc =>
        rw [hfree z hc]
        simp [Zone.owner, Ne.symm hm]
      · rfl
  · rw [State.grant_zone] at h
    by_cases hm : m = n
    · subst hm
      rw [State.grant_slot_same, slotRunning_some]; rfl
    · rw [State.grant_slot_other _ _ _ hm]
      split at h
      · exact absurd (Zone.ownedOn.inj h).symm hm
      · exact hs.energy m z h

theorem zoneLaw_kept : KeptByArrivals State.ZoneLaw where
  still h hs := hs.sameTable h.toSameTable h.zones h.settings
  arrival {s f} hs hf :=
    { budget := by
        unfold State.budgetLaw State.budget
        rw [State.apply_settings]
        exact Nat.le_trans (s.apply_engaged f) hs.budget
      owner := hs.apply_owner hf
      energy := hs.apply_energy hf }
  rests {s zones} hs h :=
    have howner (z : ZoneIx) : zones[z].owner = s.zones[z].owner := by
      rcases h z with h | h
      · rw [h]
      · rw [h, Zone.countRest_owner]
    { budget := Nat.le_trans (engagedCount_le (before := s.zones) fun z hz => by
        rcases h z with h | h
        · exact h ▸ hz
        · rwa [h, Zone.countRest_engaged] at hz) hs.budget
      owner := fun n z => (howner z ▸ hs.owner n z :)
      energy := fun n z hz => by
        rcases h z with h | h
        · exact hs.energy n z (h ▸ hz)
        · rcases Zone.ownedOn_of_countRest (h ▸ hz) with hon | ⟨hrunning, ho⟩
          · exact hs.energy n z hon
          · unfold State.ownerRunning at hrunning
            rw [ho] at hrunning
            exact hrunning }
  grant hs he hdue hg := hs.grant he hdue hg

/-! ### The special rows -/

theorem State.ZoneLaw.put {s : State} {n : EntryIx} {x : Option Entry} (hs : s.ZoneLaw)
    (howns : ∀ z, slotOwns x z = slotOwns s.table[n] z) (hrunning : slotRunning x = slotRunning s.table[n]) :
    (s.putEntry n x).ZoneLaw := by
  refine hs.of_slots rfl rfl (fun m z => ?_) fun m => ?_
  · by_cases hm : m = n
    · subst hm; rw [State.putEntry_slot_same, howns]
    · rw [State.putEntry_slot_other _ _ hm]
  · by_cases hm : m = n
    · subst hm; rw [State.putEntry_slot_same, hrunning]
    · rw [State.putEntry_slot_other _ _ hm]

theorem Entry.fresh_inactive (d : Definition) (held : Bool) (levels : Levels) : (Entry.fresh d held levels).phase.isActive = false := by
  unfold Entry.fresh
  simp only
  split <;> rfl

theorem slotOwns_of_inactive {e : Entry} (h : e.phase.isActive = false) (z : ZoneIx) : slotOwns (some e) z = false := by
  rw [slotOwns, Phase.ownsZones_of_isActive_false h]; rfl

theorem slotRunning_of_inactive {e : Entry} (h : e.phase.isActive = false) : slotRunning (some e) = false := by
  rw [slotRunning_some, Phase.isRunning_of_ownsZones_false (Phase.ownsZones_of_isActive_false h)]

/-- R16: a MODIFY that passes its checks leaves the claim set of an active entry. -/
theorem Entry.claim_of_activeFault {e : Entry} {d : Definition} (h : e.activeFault d = none) (ha : e.phase.isActive = true) :
    d.claim = e.defn.claim := by
  unfold Entry.activeFault at h
  rw [if_pos ha, firstBad_eq_none] at h
  have := h (0x0C, e.defn.claim != d.claim) (by simp)
  simpa using (bne_eq_false_iff_eq.mp this).symm

theorem Entry.redefined_owns {e : Entry} {d : Definition} (levels : Levels) (h : e.activeFault d = none) (z : ZoneIx) :
    slotOwns (some (e.redefined d levels)) z = slotOwns (some e) z := by
  cases ha : e.phase.isActive with
  | true => rw [slotOwns, slotOwns, Entry.redefined, Entry.claim_of_activeFault h ha]
  | false => rw [slotOwns_of_inactive ha, slotOwns_of_inactive (e := e.redefined d levels) ha]

/-- R21: what a RETIRE leaves in a zone. -/
theorem State.applyAt_retired_zone {s : State} {n : EntryIx} {e : Entry} (he : s.table[n] = some e) (z : ZoneIx) :
    (s.applyAt n Entry.retired).state.zones[z]
      = if slotOwns s.table[n] z then ZoneEffect.release.apply (s.restTime z) s.zones[z] else s.zones[z] := by
  rw [State.applyAt_zones s n _ e he, he, slotOwns, Bool.and_comm]
  change (if e.defn.claim.getLsbD z.val then (if e.phase.ownsZones then ZoneEffect.release else .keep).apply _ _ else _) = _
  cases e.defn.claim.getLsbD z.val <;> cases e.phase.ownsZones <;> rfl

/-- The removal of an entry whose zones are released. -/
theorem State.ZoneLaw.remove {s x : State} {n : EntryIx} (hs : s.ZoneLaw) (htable : s.SameTable x) (hsettings : x.settings = s.settings)
    (hzone : ∀ z : ZoneIx, x.zones[z]
      = if slotOwns s.table[n] z then ZoneEffect.release.apply (s.restTime z) s.zones[z] else s.zones[z]) :
    (x.removeEntry n).ZoneLaw where
  budget := by
    change engagedCount x.zones ≤ x.settings.budget
    rw [hsettings]
    refine Nat.le_trans (engagedCount_le fun z h => ?_) hs.budget
    rw [hzone] at h
    split at h
    · exact ZoneEffect.apply_engaged h
    · exact h
  owner m z := by
    change x.zones[z].owner = some m ↔ _
    rw [hzone]
    by_cases hm : m = n
    · subst hm
      rw [State.removeEntry_slot_same]
      split
      · rw [ZoneEffect.apply_owner]; simp [slotOwns]
      · next h => rw [hs.owner]; simpa [slotOwns] using h
    · rw [State.removeEntry_slot_other _ hm, slotOwns_core (htable.core m), ← hs.owner m z]
      split
      · next h =>
        rw [ZoneEffect.apply_owner, (hs.owner n z).mpr h]
        simp [Ne.symm hm]
      · rfl
  energy m z h := by
    change x.zones[z] = .ownedOn m at h
    rw [hzone] at h
    split at h
    · have := congrArg Zone.owner h
      rw [ZoneEffect.apply_owner, if_pos rfl] at this
      cases this
    · next howns =>
      have hm : m ≠ n := by
        rintro rfl
        exact howns ((hs.owner m z).mp (by rw [h]; rfl))
      rw [State.removeEntry_slot_other _ hm, slotRunning_core (htable.core m)]
      exact hs.energy m z h

/-- R21: a RETIRE releases the zones that its entry owns. -/
theorem State.ZoneLaw.retired {s : State} {n : EntryIx} {e : Entry} (hs : s.ZoneLaw) (he : s.table[n] = some e) :
    (((s.applyAt n Entry.retired).asOne.removeEntry n).complete .ok 0 none).ZoneLaw := by
  refine zoneLaw_kept.complete _ _ _ (hs.remove (State.asOne_sameTable (s.applyAt_retired_sameTable n)) ?_ fun z => ?_)
  · rw [State.settings, State.settings, Arrival.asOne_site, State.applyAt_state_site]
  · rw [Arrival.asOne_zones, State.applyAt_retired_zone he]

/-! ### SET ZONES (R121, R122) -/

/-- R121: no mode moves an owned zone to another owner. -/
theorem Zone.underMode_owner {m : ZoneMode} {r : Nat} {z z' : Zone} (h : z.underMode m r = some z') : z'.owner = z.owner := by
  unfold Zone.underMode at h
  split at h
  case h_18 =>
    obtain rfl := Option.some.inj h
    split <;> rfl
  all_goals cases h
  all_goals rfl

theorem Zone.ownedOn_of_underMode {m : ZoneMode} {r : Nat} {z : Zone} {n : EntryIx} (h : z.underMode m r = some (.ownedOn n)) :
    z = .ownedOn n := by
  unfold Zone.underMode at h
  split at h
  case h_18 =>
    have := Option.some.inj h
    split at this <;> cases this
  all_goals cases h
  rfl

/-- A zone after SET ZONES: as it was, or moved by its mode. -/
theorem State.zonesAsked_cases (s : State) (z : ZoneIx) :
    s.zonesAsked[z] = s.zones[z] ∨ ∃ m, s.zones[z].underMode m (s.restTime z) = some s.zonesAsked[z] := by
  have hget : s.zonesAsked[z] = (s.zoneAsked z).getD s.zones[z] := Vector.getElem_ofFn _
  rw [hget]
  unfold State.zoneAsked
  split
  · cases hm : ZoneMode.ofCode (s.zoneModeCode z) with
    | none => exact Or.inl rfl
    | some m =>
      rw [Option.bind_some]
      cases hu : s.zones[z].underMode m (s.restTime z) with
      | none => exact Or.inl rfl
      | some z' => exact Or.inr ⟨m, hu⟩
  · exact Or.inl rfl

/-- Zones moved within the budget, with no owner changed and none newly energised for one. -/
theorem State.ZoneLaw.rezone {s : State} {zones : Vector Zone 16} (hs : s.ZoneLaw) (hbudget : engagedCount zones ≤ s.budget)
    (howner : ∀ z : ZoneIx, zones[z].owner = s.zones[z].owner)
    (henergy : ∀ (n : EntryIx) (z : ZoneIx), zones[z] = .ownedOn n → s.zones[z] = .ownedOn n) :
    ({ s with zones := zones } : State).ZoneLaw where
  budget := hbudget
  owner n z := (howner z ▸ hs.owner n z :)
  energy n z h := hs.energy n z (henergy n z h)

theorem State.ZoneLaw.setZones {s : State} (hs : s.ZoneLaw) (hbudget : engagedCount s.zonesAsked ≤ s.budget) :
    ({ s with zones := s.zonesAsked } : State).ZoneLaw := by
  refine hs.rezone hbudget (fun z => ?_) fun n z h => ?_
  · rcases s.zonesAsked_cases z with hz | ⟨m, hz⟩
    · rw [hz]
    · exact Zone.underMode_owner hz
  · rcases s.zonesAsked_cases z with hz | ⟨m, hz⟩
    · rw [← hz, h]
    · rw [h] at hz
      exact Zone.ownedOn_of_underMode hz

/-! ### The rows that leave no zone engaged -/

theorem allFree_engaged (z : ZoneIx) : allFree[z].engaged = false := by
  have : allFree[z] = Zone.free := Vector.getElem_replicate _
  rw [this]; rfl

theorem State.ZoneLaw.of_allFree {s : State} (hs : s.AllInactive) (hz : s.zones = allFree) : s.ZoneLaw :=
  .of_inactive hs fun z => by rw [hz]; exact allFree_engaged z

theorem State.release_zones (s : State) : s.release.zones = allFree := by
  unfold State.release State.clearSignals
  rw [State.freshInterface_zones, State.clearNotices_frame, State.changeEvent_zones]
  rfl

theorem State.release_zoneLaw (s : State) : s.release.ZoneLaw := .of_allFree s.release_allInactive s.release_zones

theorem State.zonesInBackup_engaged (s : State) (z : ZoneIx) : s.zonesInBackup.zones[z].engaged = false := by
  have h : s.zonesInBackup.zones[z] = s.zones[z].inBackup := Vector.getElem_ofFn _
  rw [h]
  cases s.zones[z] <;> rfl

/-- R125: the entry to BACKUP leaves no entry active and no zone engaged. -/
theorem afterRow_entryToBackup_dark {s : State} (h : (s.powered && s.supply.condition == .main) = true) :
    (s.afterRow .entryToBackup).AllInactive ∧ ∀ z : ZoneIx, (s.afterRow .entryToBackup).zones[z].engaged = false := by
  refine afterRow_of (P := fun t => t.AllInactive ∧ ∀ z : ZoneIx, t.zones[z].engaged = false) rfl ?_
  rw [if_pos h]
  have hresolved := State.resolveActive_allInactive (s := s.enterBattery.dropArrivals) .interrupted
    (show Mode.backup ≠ .live by decide)
  have hstill := (State.loseMains_timebaseFrame (s.enterBattery.dropArrivals.resolveActive .interrupted).state.zonesInBackup).still
  have hzones (x : State) (hx : x.AllInactive) : x.zonesInBackup.AllInactive := hx
  have hcut (x : State) (hx : x.AllInactive ∧ ∀ z : ZoneIx, x.zones[z].engaged = false) :
      x.abandonFilters.cutInterface.AllInactive ∧ ∀ z : ZoneIx, x.abandonFilters.cutInterface.zones[z].engaged = false := hx
  refine hcut _ ⟨(hzones _ hresolved).sameTable hstill.toSameTable, fun z => ?_⟩
  rw [hstill.zones]
  exact State.zonesInBackup_engaged _ z

theorem afterRow_entryToBackup_idle {s : State} (h : ¬ (s.powered && s.supply.condition == .main) = true) :
    s.afterRow .entryToBackup = s :=
  afterRow_of (P := fun t => t = s) rfl (if_neg h)

theorem State.lineAtReturn_zoneLaw {s : State} (hs : s.ZoneLaw) : s.lineAtReturn.1.ZoneLaw := by
  unfold State.lineAtReturn
  split
  · exact hs.unmoved rfl rfl rfl
  split
  · exact s.release_zoneLaw
  · exact hs

theorem State.restoreMode_zoneLaw {s : State} (m : Mode) (hs : s.ZoneLaw) : (s.restoreMode m).ZoneLaw := by
  have hmode : (s.setMode m).ZoneLaw := hs.unmoved rfl rfl rfl
  unfold State.restoreMode
  simp only
  split
  · exact zoneLaw_kept.goLive hmode
  · exact hmode

theorem State.returned_zoneLaw {s : State} (order : ReturnOrder) (hs : s.ZoneLaw) : (s.returned order).ZoneLaw := by
  have hP := zoneLaw_kept
  have hfresh : s.leaveBattery.freshInterface.ZoneLaw := hs.unmoved rfl rfl rfl
  have hlined := State.lineAtReturn_zoneLaw hfresh
  unfold State.returned
  refine hP.still (State.through_still (first := order.sensors) (fun _ => List.mem_of_mem_drop) _) (State.restoreMode_zoneLaw _ ?_)
  refine hP.still (State.through_still (first := order.sensors) (fun _ => List.mem_of_mem_take) _) ?_
  exact hlined.unmoved rfl rfl rfl

theorem State.zoneLaw_special (s : State) (i : Instr) (hmode : s.modeLaw) (hs : s.ZoneLaw) : (s.afterRow i).ZoneLaw := by
  have hP := zoneLaw_kept
  cases i
  case load =>
    refine afterRow_load_of hs (fun _ _ => hP.complete _ _ _ hs) fun n _ _ _ hn _ _ => hP.loadEntry ?_
    have hfresh := Entry.fresh_inactive (Definition.ofRecord s.input) (heldBit s.input) s.levels
    have hput : (s.putEntry n (some (Entry.fresh (Definition.ofRecord s.input) (heldBit s.input) s.levels))).ZoneLaw :=
      hs.put (fun z => by rw [slotOwns_of_inactive hfresh, hn]; rfl) (by rw [slotRunning_of_inactive hfresh, hn]; rfl)
    exact hput.unmoved rfl rfl rfl
  case modify =>
    have hsettled := hP.settleSelf hs
    exact afterRow_modify_of hs (fun _ _ => hP.complete _ _ _ hsettled) fun n e _ _ _ hn _ _ hf =>
      hP.modifyEntry (hsettled.put (fun z => by rw [hn, Entry.redefined_owns _ hf]) (by rw [hn]; rfl))
  case retire =>
    exact afterRow_retire_of hs (fun _ _ => hP.complete _ _ _ hs) fun _ _ _ _ _ he _ => hs.retired he
  case setZones =>
    exact afterRow_setZones_of hs (fun _ _ => hP.complete _ _ _ hs) fun _ _ _ hb =>
      hP.complete _ _ _ (hP.asOne (KeptByArrivals.walkIf _ (hs.setZones hb)))
  case configure =>
    refine afterRow_configure_of hs (fun _ _ => hP.complete _ _ _ hs) fun _ hm _ _ =>
      hP.complete _ _ _ (hP.asOne (KeptByArrivals.walkIf _ (hP.still (State.changeEvent_still _ _) ?_)))
    exact .of_allFree (hmode hm) rfl
  case engineStart =>
    exact afterRow_engineStart_of hs (fun _ _ _ => hP.complete _ _ _ hs) fun _ _ _ _ _ =>
      hP.complete _ _ _ (hP.goLive ((hP.finishUnderway hs).unmoved rfl rfl rfl))
  case engineSuspend =>
    exact afterRow_engineSuspend_of hs (fun _ _ _ => hP.complete _ _ _ hs) fun _ _ _ _ =>
      hP.complete _ _ _ (hP.asOne (hP.resolveActive _ ((hP.settleEnds hs).unmoved rfl rfl rfl)))
  case entryToBackup =>
    by_cases h : (s.powered && s.supply.condition == .main) = true
    · obtain ⟨hinactive, hdark⟩ := afterRow_entryToBackup_dark h
      exact .of_inactive hinactive hdark
    · rw [afterRow_entryToBackup_idle h]; exact hs
  case returnFromBackup order =>
    rw [afterRow_returnFromBackup]
    split
    · exact State.returned_zoneLaw order hs
    · exact hs
  case resetRelease =>
    rw [afterRow_resetRelease]
    split
    · exact State.release_zoneLaw _
    · exact hs.unmoved rfl rfl rfl
  case coldStart =>
    obtain hp | hp := Bool.eq_false_or_eq_true s.powered
    · rw [afterRow_coldStart_of_powered hp]; exact hs
    · exact .of_allFree (fun n e he => by rw [afterRow_coldStart_slot hp] at he; cases he) (by rw [afterRow_coldStart hp]; rfl)
  all_goals exact hP.afterRow rfl hs

theorem zoneLaw_step {s t : State} (hmode : s.modeLaw) (hs : s.ZoneLaw) (h : step s = .next t) : t.ZoneLaw :=
  zoneLaw_kept.step (Q := State.modeLaw) (fun s i _ => s.zoneLaw_special i) (fun _ _ _ => id) hmode hs h

/-! ### No engaged zone in BACKUP (R125) -/

theorem darkLaw_kept : KeptByArrivals fun s => s.modeLaw ∧ s.darkLaw where
  still h hs := ⟨modeLaw_kept.still h hs.1, fun hm z => by rw [h.zones]; exact hs.2 (h.mode ▸ hm) z⟩
  arrival {s f} hs hf := ⟨modeLaw_kept.arrival hs.1 hf, fun hm z => by
    rw [State.apply_state_engine] at hm
    rw [State.apply_zones]
    by_contra hon
    exact absurd (ZoneEffect.apply_engaged (Bool.of_not_eq_false hon)) (by rw [hs.2 hm z]; exact Bool.false_ne_true)⟩
  rests hs h := ⟨hs.1, fun hm z => by
    rcases h z with h | h
    · exact h ▸ hs.2 hm z
    · exact (congrArg Zone.engaged h).trans ((Zone.countRest_engaged _ _).trans (hs.2 hm z))⟩
  grant {s n e w} hs he hdue hg := ⟨modeLaw_kept.grant hs.1 he hdue hg, fun hm => by
    have hinactive : e.phase.isActive = false := hs.1 (fun hl => absurd ((show s.engine.mode = .backup from hm).symm.trans hl) (by decide)) n e he
    rw [hdue] at hinactive
    cases hinactive⟩

theorem State.darkLaw_of_mode {s : State} (h : s.engine.mode ≠ .backup) : s.darkLaw := fun hm => absurd hm h

/-- A completion of a command leaves the law: in BACKUP none is in progress. -/
theorem State.darkLaw_command {s : State} {i : Instr} (hi : isCommand i = true) (hsupply : s.supplyLaw) (hs : s.darkLaw) :
    (s.afterRow i).darkLaw := fun hm => by
  have hb : s.supply.condition = .battery := by
    have hkept : (s.afterRow i).supply = s.supply :=
      afterRow_part (p := .supply) (by cases i <;> first | (simp [touches]; done) | cases hi) s
    rw [← hkept]
    exact (supplyLaw_afterRow s i hsupply).1.mp hm
  rw [afterRow_command_idle hi (hsupply.2 hb).1] at hm ⊢
  exact hs hm

theorem State.darkLaw_special (s : State) (i : Instr) (hi : isSpecial i = true) (hsupply : s.supplyLaw) (hs : s.darkLaw) :
    (s.afterRow i).darkLaw := by
  by_cases hc : isCommand i = true
  · exact State.darkLaw_command hc hsupply hs
  cases i
  case entryToBackup =>
    by_cases h : (s.powered && s.supply.condition == .main) = true
    · exact fun _ => (afterRow_entryToBackup_dark h).2
    · rw [afterRow_entryToBackup_idle h]; exact hs
  case returnFromBackup order =>
    rw [afterRow_returnFromBackup]
    split
    · exact State.darkLaw_of_mode (s.returned_engine_mode order)
    · exact hs
  case resetRelease =>
    rw [afterRow_resetRelease]
    split
    · exact State.darkLaw_of_mode (by rw [State.release_engine]; exact show Mode.suspended ≠ .backup by decide)
    · exact hs
  case coldStart =>
    obtain hp | hp := Bool.eq_false_or_eq_true s.powered
    · rw [afterRow_coldStart_of_powered hp]; exact hs
    · rw [afterRow_coldStart hp]
      exact State.darkLaw_of_mode (show Mode.suspended ≠ .backup by decide)
  all_goals first | exact absurd rfl hc | cases hi

theorem darkLaw_step {s t : State} (hsupply : s.supplyLaw) (hmode : s.modeLaw) (hs : s.darkLaw) (h : step s = .next t) :
    t.darkLaw :=
  (darkLaw_kept.step (Q := State.supplyLaw)
    (fun s i hi hsupply hs => ⟨s.modeLaw_special i hsupply hs.1, s.darkLaw_special i hi hsupply hs.2⟩)
    (fun _ _ _ => id) hsupply ⟨hmode, hs⟩ h).2

/-- Settles O59: under the ownership law the owner of a zone alone moves it, so each lawful arrival keeps the three laws of the zones; in
BACKUP no row but an arrival runs, and none engages a zone. -/
theorem zoneLawsKept : Obligations.ZoneLawsKept :=
  ⟨Zone.engaged_iff, fun _ _ hnodup hmem => length_filter_finRange hnodup hmem,
    fun _ _ ⟨hmode, hsupply, hbudget, howner, henergy, hdark⟩ h =>
      have hzone := zoneLaw_step hmode ⟨hbudget, howner, henergy⟩ h
      ⟨modeLaw_step hsupply hmode h, supplyLaw_step hsupply h, hzone.budget, hzone.owner, hzone.energy,
        darkLaw_step hsupply hmode hdark h⟩⟩

end Sys2Proof.Machine
end

section
/-! The laws of the device: the Timebase and its sources, the calendar, the protection boundary and the transfer buffer. -/

namespace Sys2Proof.Machine

/-! ### What a part of the clock may do -/

/-- The laws of the Timebase. -/
structure Timebase.Lawful (t : Timebase) : Prop where
  crystal : t.crystalRunning = true ↔ t.active = .crystal ∨ t.selector.candidate = some .crystal
  candidate : t.selector.candidate ≠ some t.active
  prescaler : t.prescaler < t.active.divisor

/-- From `s` to `t` the Timebase moves by itself: the active source stays, or a READY candidate takes over with CLOCK_SWITCHED, or INTERNAL
does with CLOCK_FAULT; no source becomes READY; no notice is cleared; and the laws of the Timebase are kept. -/
structure State.ClockMoves (s t : State) : Prop where
  notices : s.device &&& t.device = s.device
  active : t.timebase.active = s.timebase.active
    ∨ ((∃ code quiet, s.timebase.selector = .ready t.timebase.active code quiet) ∧ t.device &&& noticeClockSwitched ≠ 0)
    ∨ (t.timebase.active = .internal ∧ t.device &&& noticeClockFault ≠ 0)
  ready : ∀ x code quiet, t.timebase.selector = .ready x code quiet → ∃ before, s.timebase.selector = .ready x code before
  lawful : s.timebase.Lawful → t.timebase.Lawful

/-- A notice that is set stays set where none is cleared. -/
theorem notice_of_kept {a b c : DeviceSet} (h : a &&& b = a) (ha : a &&& c ≠ 0) : b &&& c ≠ 0 := fun hb => ha (by
  rw [← h, BitVec.and_assoc, hb]
  exact BitVec.and_zero)

theorem notice_and_report (a c : DeviceSet) : a &&& (a ||| c) = a := by
  ext i hi
  simp only [BitVec.getElem_and, BitVec.getElem_or]
  cases a[i] <;> rfl

theorem notice_report_and (a c : DeviceSet) : (a ||| c) &&& c = c := by
  ext i hi
  simp only [BitVec.getElem_and, BitVec.getElem_or]
  cases a[i] <;> simp

theorem State.ClockMoves.of_eq {s t : State} (htimebase : t.timebase = s.timebase) (hdevice : t.device = s.device) :
    s.ClockMoves t where
  notices := by rw [hdevice, BitVec.and_self]
  active := Or.inl (by rw [htimebase])
  ready x code quiet h := ⟨quiet, htimebase ▸ h⟩
  lawful h := htimebase ▸ h

theorem State.ClockMoves.refl (s : State) : s.ClockMoves s := .of_eq rfl rfl

theorem State.ClockMoves.trans {s t u : State} (h : s.ClockMoves t) (h' : t.ClockMoves u) : s.ClockMoves u where
  notices := by
    calc s.device &&& u.device = s.device &&& t.device &&& u.device := by rw [h.notices]
      _ = s.device := by rw [BitVec.and_assoc, h'.notices, h.notices]
  active := by
    rcases h'.active with hsame | ⟨⟨code, quiet, hready⟩, hnotice⟩ | hinternal
    · rw [hsame]
      rcases h.active with hfirst | ⟨hready, hnotice⟩ | ⟨hinternal, hnotice⟩
      · exact Or.inl hfirst
      · exact Or.inr (Or.inl ⟨hready, notice_of_kept h'.notices hnotice⟩)
      · exact Or.inr (Or.inr ⟨hinternal, notice_of_kept h'.notices hnotice⟩)
    · obtain ⟨before, hbefore⟩ := h.ready _ _ _ hready
      exact Or.inr (Or.inl ⟨⟨code, before, hbefore⟩, hnotice⟩)
    · exact Or.inr (Or.inr hinternal)
  ready x code quiet hu := by
    obtain ⟨between, ht⟩ := h'.ready x code quiet hu
    exact h.ready x code between ht
  lawful hs := h'.lawful (h.lawful hs)

/-- Where the active source stays, no source becomes READY and no notice is cleared. -/
theorem State.ClockMoves.of_active {s t : State} (hactive : t.timebase.active = s.timebase.active) (hdevice : t.device = s.device)
    (hready : ∀ x code quiet, t.timebase.selector = .ready x code quiet → ∃ before, s.timebase.selector = .ready x code before)
    (hlawful : s.timebase.Lawful → t.timebase.Lawful) : s.ClockMoves t :=
  ⟨by rw [hdevice, BitVec.and_self], Or.inl hactive, hready, hlawful⟩

theorem Source.divisor_pos (c : Source) : 0 < c.divisor := by cases c <;> decide

/-- R75: the oscillator set after the sources. -/
theorem Timebase.lawful_withOscillator {t : Timebase} (hcandidate : t.selector.candidate ≠ some t.active)
    (hprescaler : t.prescaler < t.active.divisor) : t.withOscillator.Lawful where
  crystal := by simp [Timebase.withOscillator]
  candidate := hcandidate
  prescaler := hprescaler

/-- Only the prescaler and the time since a cycle move. -/
theorem Timebase.Lawful.of_sources {t u : Timebase} (h : t.Lawful) (hactive : u.active = t.active)
    (hcandidate : u.selector.candidate = t.selector.candidate) (hrunning : u.crystalRunning = t.crystalRunning)
    (hprescaler : u.prescaler < u.active.divisor) : u.Lawful where
  crystal := by rw [hrunning, hactive, hcandidate]; exact h.crystal
  candidate := by rw [hactive, hcandidate]; exact h.candidate
  prescaler := hprescaler

theorem State.raiseSecond_clockMoves (s : State) : s.ClockMoves s.raiseSecond := by
  cases hs : s.timebase.selector with
  | ready c code quiet =>
    rw [State.raiseSecond_ready s c code quiet hs]
    refine ⟨notice_and_report _ _, Or.inr (Or.inl ⟨⟨code, quiet, hs⟩, ?_⟩), fun x k q h => (by cases h), fun h => ?_⟩
    · rw [notice_report_and]; decide
    · exact Timebase.lawful_withOscillator (by simp [Selector.candidate]) c.divisor_pos
  | steady =>
    rw [State.raiseSecond_other s (by rw [hs]; simp)]
    exact .of_active rfl rfl (fun x k q h => ⟨q, h⟩) fun h => h.of_sources rfl rfl rfl (Source.divisor_pos _)
  | starting c =>
    rw [State.raiseSecond_other s (by rw [hs]; simp)]
    exact .of_active rfl rfl (fun x k q h => ⟨q, h⟩) fun h => h.of_sources rfl rfl rfl (Source.divisor_pos _)

theorem State.fallback_clockMoves (s : State) (elapsed : Nat) : s.ClockMoves (s.fallback elapsed) where
  notices := notice_and_report _ _
  active := Or.inr (Or.inr ⟨rfl, by
    rw [show (s.fallback elapsed).device = s.device ||| noticeClockFault from rfl, notice_report_and]; decide⟩)
  ready x code quiet h := by
    change (if s.timebase.selector.candidate = some .internal then Selector.steady else s.timebase.selector) = _ at h
    split at h
    · cases h
    · exact ⟨quiet, h⟩
  lawful _ := by
    refine Timebase.lawful_withOscillator ?_ (Nat.mod_lt _ (by decide))
    simp only
    split
    · simp [Selector.candidate]
    · assumption

theorem State.failCandidate_clockMoves (s : State) : s.ClockMoves s.failCandidate where
  notices := notice_and_report _ _
  active := Or.inl rfl
  ready x code quiet h := by cases h
  lawful h := Timebase.lawful_withOscillator (by simp [Selector.candidate]) h.prescaler

theorem State.prescale_clockMoves (s : State) : s.ClockMoves s.prescale := by
  rcases Nat.lt_or_ge (s.timebase.prescaler + 1) s.timebase.active.divisor with h | h
  · rw [State.prescale_below s h]
    exact .of_active rfl rfl (fun x k q hr => ⟨q, hr⟩) fun hl => hl.of_sources rfl rfl rfl h
  · rw [State.prescale_at s h]
    exact s.raiseSecond_clockMoves

theorem State.activeCycle_clockMoves (s : State) (p : Source → Bool) : s.ClockMoves (s.activeCycle p) := by
  unfold State.activeCycle
  split
  · have hquiet : s.ClockMoves { s with timebase := { s.timebase with quiet := 0 } } :=
      .of_active rfl rfl (fun x k q h => ⟨q, h⟩) fun h => h.of_sources rfl rfl rfl h.prescaler
    exact hquiet.trans (State.prescale_clockMoves _)
  · exact .refl s

/-- What moves the candidate's check or activity watch alone. -/
theorem State.selector_clockMoves (s : State) (x : Selector) (since quiet : Nat)
    (hcandidate : x.candidate = s.timebase.selector.candidate)
    (hready : ∀ c code q, x = .ready c code q → ∃ before, s.timebase.selector = .ready c code before) :
    s.ClockMoves { s with timebase := { s.timebase with selector := x, sincePrescaler := since, quiet := quiet } } :=
  .of_active rfl rfl hready fun h => h.of_sources rfl hcandidate rfl h.prescaler

theorem Selector.crystalCycle_candidate (x : Selector) : x.crystalCycle.candidate = x.candidate := by
  cases x with
  | steady => rfl
  | starting c => unfold Selector.crystalCycle; simp only; split <;> rfl
  | ready c code quiet => rfl

theorem Selector.crystalCycle_ready {x : Selector} {c : Source} {code q : Nat} (h : x.crystalCycle = .ready c code q) :
    ∃ before, x = .ready c code before := by
  cases x with
  | steady => cases h
  | starting c => unfold Selector.crystalCycle at h; simp only at h; split at h <;> cases h
  | ready c' code' quiet =>
    cases h
    exact ⟨quiet, rfl⟩

theorem Selector.mainsCycle_candidate (x : Selector) : x.mainsCycle.candidate = x.candidate := by
  cases x with
  | steady => rfl
  | starting c => unfold Selector.mainsCycle; simp only; split <;> rfl
  | ready c code quiet => rfl

theorem Selector.mainsCycle_ready {x : Selector} {c : Source} {code q : Nat} (h : x.mainsCycle = .ready c code q) :
    ∃ before, x = .ready c code before := by
  cases x with
  | steady => cases h
  | starting c => unfold Selector.mainsCycle at h; simp only at h; split at h <;> cases h
  | ready c' code' quiet =>
    cases h
    exact ⟨quiet, rfl⟩

theorem Selector.age_candidate (x : Selector) : x.age.candidate = x.candidate := by cases x <;> rfl

theorem Selector.age_ready {x : Selector} {c : Source} {code q : Nat} (h : x.age = .ready c code q) :
    ∃ before, x = .ready c code before := by
  cases x with
  | steady => cases h
  | starting c => cases h
  | ready c' code' quiet =>
    cases h
    exact ⟨quiet, rfl⟩

theorem State.crystalCycles_clockMoves : ∀ (k : Nat) (s : State), s.ClockMoves (State.crystalCycles k s)
  | 0, s => .refl s
  | k + 1, s => by
    unfold State.crystalCycles
    split
    · exact ((s.selector_clockMoves _ _ _ (Selector.crystalCycle_candidate _) fun _ _ _ => Selector.crystalCycle_ready).trans
        (State.activeCycle_clockMoves _ _)).trans (State.crystalCycles_clockMoves k _)
    · exact .refl s

theorem State.mainsCrossing_clockMoves (s : State) : s.ClockMoves s.mainsCrossing :=
  (s.selector_clockMoves _ _ _ (Selector.mainsCycle_candidate _) fun _ _ _ => Selector.mainsCycle_ready).trans
    (State.activeCycle_clockMoves _ _)

theorem State.ageTimebase_clockMoves (s : State) : s.ClockMoves s.ageTimebase :=
  s.selector_clockMoves _ _ _ (Selector.age_candidate _) fun _ _ _ => Selector.age_ready

theorem State.tickTimebase_clockMoves (s : State) : s.ClockMoves s.tickTimebase := by
  have hcrystal := (s.ageTimebase_clockMoves.trans (State.activeCycle_clockMoves _ (· == .internal))).trans
    (State.crystalCycles_clockMoves (Config.crystalCycles s.ticks) _)
  unfold State.tickTimebase
  simp only
  split
  · exact hcrystal.trans (State.mainsCrossing_clockMoves _)
  · exact hcrystal

theorem State.tick_clockMoves (s : State) : s.ClockMoves s.tick := by
  have hfilters (u : State) : u.ClockMoves u.tickFilters := by
    unfold State.tickFilters; split
    · exact .of_eq rfl rfl
    · exact .refl u
  have hsupply (u : State) : u.ClockMoves u.tickSupply := by
    unfold State.tickSupply; split
    · exact .of_eq rfl rfl
    · exact .refl u
  unfold State.tick
  refine State.ClockMoves.trans (State.ClockMoves.trans ?_ (hfilters _)) (hsupply _)
  split
  · exact s.tickTimebase_clockMoves
  · exact .refl s

/-! ### The second event and what comes before commands -/

theorem State.countSecond_clockMoves (s : State) (order : SecondOrder) : s.ClockMoves (s.countSecond order) :=
  .of_eq (by rw [State.countSecond_frame]) (by rw [State.countSecond_frame])

theorem State.nextTick_clockMoves (s : State) : s.ClockMoves s.nextTick := .of_eq rfl rfl

theorem State.raiseIfNone_clockMoves (s : State) : s.ClockMoves (if s.owed.seconds = 0 then s.raiseSecond else s) := by
  split
  · exact s.raiseSecond_clockMoves
  · exact .refl s

theorem State.finishUnderway_clockMoves (s : State) : s.ClockMoves s.finishUnderway := by
  unfold State.finishUnderway
  split
  · exact .refl s
  · exact (s.raiseIfNone_clockMoves.trans (State.countSecond_clockMoves _ _)).trans (State.nextTick_clockMoves _)

theorem State.countRaised_clockMoves : ∀ (k : Nat) (s : State), s.ClockMoves (s.countRaised k)
  | 0, s => .refl s
  | k + 1, s => ((s.countSecond_clockMoves _).trans (State.nextTick_clockMoves _)).trans (State.countRaised_clockMoves k _)

theorem State.secondsCome_clockMoves (s : State) : s.ClockMoves s.secondsCome :=
  s.finishUnderway_clockMoves.trans (State.countRaised_clockMoves _ _)

theorem State.setTime_clockMoves (s : State) (c : Calendar) : s.ClockMoves (s.setTime c) :=
  .of_active rfl rfl (fun _ _ q h => ⟨q, h⟩) fun h => h.of_sources rfl rfl rfl (Source.divisor_pos _)

theorem State.deliverLinks_clockMoves (s : State) (links : List FollowLink) : s.ClockMoves (s.deliverLinks links) :=
  .of_eq (by rw [State.deliverLinks_frame]) (by rw [State.deliverLinks_frame])

theorem State.makeWalks_clockMoves (s : State) (k : Nat) : s.ClockMoves (s.makeWalks k) :=
  .of_eq (by rw [State.makeWalks_frame]) (by rw [State.makeWalks_frame])

theorem State.settleEnds_clockMoves (s : State) : s.ClockMoves s.settleEnds :=
  s.finishUnderway_clockMoves.trans ((State.deliverLinks_clockMoves _ _).trans (State.makeWalks_clockMoves _ _))

theorem State.loseMains_clockMoves (s : State) : s.ClockMoves s.loseMains := by
  have hfall : s.ClockMoves (if s.timebase.active.isMains then s.fallback s.timebase.sincePrescaler else s) := by
    split
    · exact s.fallback_clockMoves _
    · exact .refl s
  unfold State.loseMains
  simp only
  split
  · split
    · exact hfall.trans (State.failCandidate_clockMoves _)
    · exact hfall
  · exact hfall

/-! ### The rows -/

theorem State.complete_clockMoves (s : State) (r : ResultCode) (d : Byte) (o : Option (List Byte)) : s.ClockMoves (s.complete r d o) :=
  .of_eq (State.complete_timebase ..) (State.complete_device ..)

/-- The rows that move the Timebase by themselves. -/
def movesClock : Instr → Bool
  | .checkTimeout | .readyCandidateFault | .clockSwitch | .activeSourceFault => true
  | .secondEvent _ | .setTime | .engineStart | .engineSuspend | .entryToBackup => true
  | _ => false

theorem afterRow_clockMoves {i : Instr} (hi : movesClock i = true) (s : State) : s.ClockMoves (s.afterRow i) := by
  cases i
  case checkTimeout =>
    refine afterRow_of rfl ?_
    split
    · split
      · exact s.failCandidate_clockMoves
      · exact .refl s
    · exact .refl s
    · exact .refl s
  case readyCandidateFault =>
    refine afterRow_of rfl ?_
    split
    · split
      · exact s.failCandidate_clockMoves
      · exact .refl s
    · exact .refl s
    · exact .refl s
  case clockSwitch =>
    refine afterRow_of rfl ?_
    split
    · split
      · exact s.raiseSecond_clockMoves
      · exact .refl s
    · exact .refl s
    · exact .refl s
  case activeSourceFault =>
    refine afterRow_of rfl ?_
    split
    · exact s.fallback_clockMoves _
    · exact .refl s
  case secondEvent order =>
    refine afterRow_of rfl ?_
    split
    · exact s.raiseIfNone_clockMoves.trans (State.countSecond_clockMoves _ _)
    · exact .refl s
  case setTime =>
    exact afterRow_setTime_of (.refl s) (fun _ _ => s.complete_clockMoves _ _ _) fun _ _ =>
      s.secondsCome_clockMoves.trans ((State.setTime_clockMoves _ _).trans (State.complete_clockMoves _ _ _ _))
  case engineStart =>
    refine afterRow_engineStart_of (.refl s) (fun _ _ _ => s.complete_clockMoves _ _ _) fun _ _ _ _ _ =>
      s.finishUnderway_clockMoves.trans (State.ClockMoves.trans ?_ (State.complete_clockMoves _ _ _ _))
    unfold State.goLive State.recheckAll
    exact .of_eq (by rw [Arrival.asOne_timebase, Arrival.walkIf_state, State.apply_state_timebase, State.setMode_timebase])
      (by rw [Arrival.asOne_device, Arrival.walkIf_state, State.apply_state_device, State.setMode_device])
  case engineSuspend =>
    refine afterRow_engineSuspend_of (.refl s) (fun _ _ _ => s.complete_clockMoves _ _ _) fun _ _ _ _ =>
      s.settleEnds_clockMoves.trans (State.ClockMoves.trans ?_ (State.complete_clockMoves _ _ _ _))
    unfold State.resolveActive
    exact .of_eq (by rw [Arrival.asOne_timebase, State.apply_state_timebase]; rfl)
      (by rw [Arrival.asOne_device, State.apply_state_device]; rfl)
  case entryToBackup =>
    refine afterRow_of rfl ?_
    split
    · have hresolved : s.ClockMoves (s.enterBattery.dropArrivals.resolveActive .interrupted).state :=
        .of_eq (by rw [State.resolveActive, State.apply_state_timebase]; rfl)
          (by rw [State.resolveActive, State.apply_state_device]; rfl)
      have hzones (x : State) : x.ClockMoves x.zonesInBackup := .of_eq rfl rfl
      have hcut (x : State) : x.ClockMoves x.abandonFilters.cutInterface := .of_eq rfl rfl
      exact ((hresolved.trans (hzones _)).trans (State.loseMains_clockMoves _)).trans (hcut _)
    · exact .refl s
  all_goals cases hi

/-- R70: a selection keeps the laws of the Timebase; it makes INTERNAL alone READY. -/
theorem State.selectSource_lawful {s : State} (c : Source) (h : s.timebase.Lawful) : (s.selectSource c).timebase.Lawful := by
  rw [State.selectSource_timebase]
  refine Timebase.lawful_withOscillator ?_ h.prescaler
  change (s.selectorFor c).candidate ≠ some s.timebase.active
  unfold State.selectorFor
  split
  · simp [Selector.candidate]
  next hne =>
  split
  · exact h.candidate
  · split <;> simp [Selector.candidate, State.freshCheck] <;> exact fun he => hne he.symm

theorem State.selectSource_ready {s : State} {c x : Source} {code quiet : Nat}
    (h : (s.selectSource c).timebase.selector = .ready x code quiet) (hx : x ≠ .internal) :
    s.timebase.selector = .ready x code quiet := by
  rw [State.selectSource_timebase] at h
  change s.selectorFor c = _ at h
  unfold State.selectorFor at h
  split at h
  · cases h
  split at h
  · exact h
  · split at h
    · cases h
      exact absurd rfl hx
    all_goals cases h

/-- R71, R72: a check that passes keeps the laws of the Timebase. -/
theorem State.passCheck_lawful {s : State} {c : Check} (hs : s.timebase.selector = .starting c) (h : s.timebase.Lawful) :
    (s.passCheck c).timebase.Lawful :=
  h.of_sources rfl (by rw [hs]; rfl) rfl h.prescaler

/-- What every row keeps of the Timebase, and when it makes a source active or READY. -/
structure State.ClockRow (s t : State) : Prop where
  active : t.timebase.active ≠ s.timebase.active →
    ((∃ code quiet, s.timebase.selector = .ready t.timebase.active code quiet) ∧ t.device &&& noticeClockSwitched ≠ 0)
      ∨ (t.timebase.active = .internal ∧ (t.device &&& noticeClockFault ≠ 0 ∨ s.powered = false))
  ready : ∀ x code quiet, t.timebase.selector = .ready x code quiet → x ≠ .internal →
    (∃ before, s.timebase.selector = .ready x code before) ∨ ∃ c : Check, s.timebase.selector = .starting c ∧ c.source = x ∧ c.code = code
  lawful : s.timebase.Lawful → t.timebase.Lawful

theorem State.ClockMoves.row {s t : State} (h : s.ClockMoves t) : s.ClockRow t where
  active hne := by
    rcases h.active with hsame | hswitched | ⟨hinternal, hfault⟩
    · exact absurd hsame hne
    · exact Or.inl hswitched
    · exact Or.inr ⟨hinternal, Or.inl hfault⟩
  ready x code quiet hr _ := Or.inl (h.ready x code quiet hr)
  lawful := h.lawful

theorem State.ClockRow.of_eq {s t : State} (h : t.timebase = s.timebase) : s.ClockRow t where
  active hne := absurd (by rw [h]) hne
  ready x code quiet hr _ := Or.inl ⟨quiet, h ▸ hr⟩
  lawful hl := h ▸ hl

theorem State.passCheck_clockRow {s : State} {c : Check} (hs : s.timebase.selector = .starting c) : s.ClockRow (s.passCheck c) where
  active hne := absurd rfl hne
  ready x code quiet hr _ := by
    cases hr
    exact Or.inr ⟨c, hs, rfl, rfl⟩
  lawful := State.passCheck_lawful hs

theorem Timebase.cold_lawful : Timebase.cold.Lawful := ⟨by decide, by decide, by decide⟩

theorem afterRow_clockRow (i : Instr) (s : State) : s.ClockRow (s.afterRow i) := by
  by_cases hi : movesClock i = true
  · exact (afterRow_clockMoves hi s).row
  cases i
  case crystalCheckPass | mainsCheckPass =>
    refine afterRow_of rfl ?_
    split
    · split
      · exact State.passCheck_clockRow ‹_›
      · exact .of_eq rfl
    · exact .of_eq rfl
    · exact .of_eq rfl
  case selectClock =>
    refine afterRow_selectClock_of (.of_eq rfl) (fun _ _ => (s.complete_clockMoves _ _ _).row) fun c _ _ => ?_
    have h : ((s.selectSource c).complete .ok 0 (some (s.selectSource c).clockRecord)).timebase = (s.selectSource c).timebase :=
      State.complete_timebase ..
    refine ⟨fun hne => absurd (by rw [h, State.selectSource_timebase]; rfl) hne, fun x code quiet hr hx => ?_, fun hl => ?_⟩
    · rw [h] at hr
      exact Or.inl ⟨quiet, State.selectSource_ready hr hx⟩
    · rw [h]; exact State.selectSource_lawful c hl
  case coldStart =>
    obtain hp | hp := Bool.eq_false_or_eq_true s.powered
    · rw [afterRow_coldStart_of_powered hp]; exact .of_eq rfl
    · rw [afterRow_coldStart hp]
      exact ⟨fun _ => Or.inr ⟨rfl, Or.inr hp⟩, fun x code quiet hr _ => (by cases hr), fun _ => Timebase.cold_lawful⟩
  case returnFromBackup order => exact .of_eq (by rw [afterRow_returnFromBackup_frame])
  all_goals first
    | exact absurd rfl hi
    | exact .of_eq (afterRow_part (p := .timebase) (by simp [touches]) s)

theorem step_clockRow {s t : State} (h : step s = .next t) : s.ClockRow t := by
  rcases step_cases h with ⟨i, rest, rfl⟩ | ⟨i, -, rfl⟩ | rfl
  · exact ⟨(afterRow_clockRow i { s with pending := rest }).active, (afterRow_clockRow i { s with pending := rest }).ready,
      (afterRow_clockRow i { s with pending := rest }).lawful⟩
  · exact ⟨(afterRow_clockRow i s.nextTick).active, (afterRow_clockRow i s.nextTick).ready, (afterRow_clockRow i s.nextTick).lawful⟩
  · exact (s.tick_clockMoves.trans (State.nextTick_clockMoves _)).row

/-! ### The calendar (R51) -/

theorem one_le_daysInMonth (month year : Nat) : 1 ≤ daysInMonth month year := by
  unfold daysInMonth
  split
  · split <;> decide
  all_goals decide

/-- R55: the carry chain leads from a date and time that exists to one that exists. -/
theorem Calendar.advance_valid {c : Calendar} (h : c.valid = true) : c.advance.valid = true := by
  rw [Calendar.valid_iff] at *
  obtain ⟨hs, hmin, hh, hd, hdate, hm, hmonth, hy⟩ := h
  unfold Calendar.advance
  split
  · simp only; omega
  split
  · simp only; omega
  split
  · simp only; omega
  split
  · simp only; omega
  split
  · have := one_le_daysInMonth (c.month + 1) c.year
    simp only; omega
  split
  · have := one_le_daysInMonth 1 (c.year + 1)
    simp only; omega
  · have := one_le_daysInMonth 1 0
    simp only; omega

/-- R61: a time record that passes its checks is a date and time that exists. -/
theorem Calendar.ofRecord_valid {r : Nat → Nat} (h : firstBad (timeChecks r) = none) : (Calendar.ofRecord r).valid = true := by
  rw [firstBad_eq_none] at h
  simp only [timeChecks, List.mem_cons, List.not_mem_nil, or_false, forall_eq_or_imp, forall_eq, Bool.or_eq_false_iff,
    decide_eq_false_iff_not, beq_eq_false_iff_ne] at h
  obtain ⟨hs, hmin, hh, ⟨hd, hdate⟩, ⟨hm, hmonth⟩, hy⟩ := h
  rw [Calendar.valid_iff]
  simp only [Calendar.ofRecord]
  omega

theorem State.countSecond_calendarLaw {s : State} (order : SecondOrder) (h : s.calendarLaw) : (s.countSecond order).calendarLaw := by
  unfold State.calendarLaw at *
  rw [State.countSecond_calendar]
  exact Calendar.advance_valid h

theorem State.raiseIfNone_calendarLaw {s : State} (h : s.calendarLaw) :
    (if s.owed.seconds = 0 then s.raiseSecond else s).calendarLaw := by
  split
  · unfold State.calendarLaw; rw [State.raiseSecond_calendar]; exact h
  · exact h

theorem State.finishUnderway_calendarLaw {s : State} (h : s.calendarLaw) : s.finishUnderway.calendarLaw := by
  unfold State.finishUnderway
  split
  · exact h
  · exact State.countSecond_calendarLaw _ (State.raiseIfNone_calendarLaw h)

theorem State.settleEnds_calendarLaw {s : State} (h : s.calendarLaw) : s.settleEnds.calendarLaw := by
  have hcalendar : s.settleEnds.calendar = s.finishUnderway.calendar := by
    unfold State.settleEnds
    simp only
    rw [State.makeWalks_frame, State.deliverLinks_frame]
  unfold State.calendarLaw
  rw [hcalendar]
  exact State.finishUnderway_calendarLaw h

theorem calendarLaw_afterRow (i : Instr) {s : State} (h : s.calendarLaw) : (s.afterRow i).calendarLaw := by
  have hcomplete (x : State) (hx : x.calendarLaw) (r : ResultCode) (d : Byte) (o : Option (List Byte)) : (x.complete r d o).calendarLaw := hx
  cases i
  case setTime =>
    refine afterRow_setTime_of h (hcomplete s h · · none) fun _ hc => ?_
    unfold State.calendarLaw
    rw [State.complete_calendar, State.setTime_calendar]
    exact Calendar.ofRecord_valid hc
  case engineStart =>
    refine afterRow_engineStart_of h (hcomplete s h) fun _ _ _ _ _ => hcomplete _ ?_ _ _ _
    unfold State.goLive State.recheckAll State.calendarLaw
    rw [Arrival.asOne_calendar, Arrival.walkIf_state, State.apply_state_calendar]
    exact State.finishUnderway_calendarLaw h
  case engineSuspend =>
    refine afterRow_engineSuspend_of h (hcomplete s h) fun _ _ _ _ => hcomplete _ ?_ _ _ _
    unfold State.resolveActive State.calendarLaw
    rw [Arrival.asOne_calendar, State.apply_state_calendar]
    exact State.settleEnds_calendarLaw h
  case secondEvent order =>
    refine afterRow_of rfl ?_
    split
    · exact State.countSecond_calendarLaw _ (State.raiseIfNone_calendarLaw h)
    · exact h
  case coldStart =>
    obtain hp | hp := Bool.eq_false_or_eq_true s.powered
    · rw [afterRow_coldStart_of_powered hp]; exact h
    · rw [afterRow_coldStart hp]
      exact show Calendar.cold.valid = true by decide
  all_goals
    unfold State.calendarLaw
    rw [show (s.afterRow _).calendar = s.calendar from afterRow_part (p := .calendar) (by simp [touches]) s]
    exact h

/-! ### The protection boundary (R22) -/

theorem isBoundary_iff (b : Nat) : isBoundary b = true ↔ b = 0 ∨ b = 12 ∨ b = 24 ∨ b = 48 := by
  simp [isBoundary, or_assoc]

theorem boundaryLaw_afterRow (i : Instr) {s : State} (h : s.boundaryLaw) : (s.afterRow i).boundaryLaw := by
  cases i
  case setProtect prg => exact afterRow_setProtect_of h (fun _ _ => h) fun _ hb _ => (isBoundary_iff _).mp hb
  case coldStart =>
    obtain hp | hp := Bool.eq_false_or_eq_true s.powered
    · rw [afterRow_coldStart_of_powered hp]; exact h
    · rw [afterRow_coldStart hp]; exact Or.inl rfl
  all_goals
    unfold State.boundaryLaw
    rw [show (s.afterRow _).boundary = s.boundary from afterRow_part (p := .boundary) (by simp [touches]) s]
    exact h

/-! ### The transfer buffer -/

theorem State.bufferLaw_of_iface {s t : State} (h : t.iface.buffer = s.iface.buffer) (hs : s.bufferLaw) : t.bufferLaw := by
  unfold State.bufferLaw at *
  rw [h, hs]

theorem State.bufferLaw_output (s : State) (r : ResultCode) (d : Byte) (bytes : List Byte) :
    (s.complete r d (some bytes)).bufferLaw := by
  unfold State.bufferLaw
  rw [State.complete_iface]
  exact Memory.wf_ofRecord bytes

theorem State.bufferLaw_refuse {s : State} (hs : s.bufferLaw) (r : ResultCode) (d : Byte) : (s.refuse r d).bufferLaw :=
  State.bufferLaw_of_iface (s.refuse_refuses r d).2.1 hs

theorem State.arrivalFrame.iface {s t : State} (h : s.arrivalFrame t) : t.iface = s.iface := by
  unfold State.arrivalFrame at h
  rw [h]

theorem wakeEvents_iface {first : List SensorIx} {f : State → State} (hf : f ∈ wakeEvents first) (s : State) : (f s).iface = s.iface := by
  rw [wakeEvents, List.mem_cons, List.mem_map] at hf
  rcases hf with rfl | ⟨k, -, rfl⟩
  · exact State.changeEvent_iface _ _
  · change (s.watchPin k).iface = s.iface
    rw [State.watchPin_frame]

theorem State.through_iface {first : List SensorIx} {events : List (State → State)}
    (h : ∀ f, f ∈ events → f ∈ wakeEvents first) (s : State) : (s.through events).iface = s.iface :=
  State.through_of (R := fun s t => t.iface = s.iface) (fun _ => rfl) (fun _ _ _ h h' => h'.trans h) events s
    fun _ hf => wakeEvents_iface (h _ hf)

theorem State.lineAtReturn_iface {s : State} (h : s.iface = Interface.fresh) : s.lineAtReturn.1.iface = Interface.fresh := by
  unfold State.lineAtReturn
  split
  · exact h
  split
  · rfl
  · exact h

theorem State.restoreMode_iface (s : State) (m : Mode) : (s.restoreMode m).iface = s.iface := by
  unfold State.restoreMode
  simp only
  split
  · rw [State.goLive, Arrival.asOne_iface, Arrival.walkIf_state, State.recheckAll, State.apply_state_iface, State.setMode_iface]
  · rfl

/-- R162: the return from BACKUP leaves the interface fresh. -/
theorem State.returned_iface (s : State) (order : ReturnOrder) : (s.returned order).iface = Interface.fresh := by
  unfold State.returned
  rw [State.through_iface (first := order.sensors) fun _ => List.mem_of_mem_drop, State.restoreMode_iface,
    State.through_iface (first := order.sensors) fun _ => List.mem_of_mem_take]
  exact State.lineAtReturn_iface (s := s.leaveBattery.freshInterface) rfl

theorem State.onBus_bufferLaw {s f : State} (hs : s.bufferLaw) (hf : s.busHeard = true → f.bufferLaw) : (s.onBus f).bufferLaw := by
  cases h : s.busHeard with
  | true => rw [State.onBus_heard _ _ h]; exact hf h
  | false => rw [State.onBus_ignored _ _ h]; exact hs

/-- R158: a byte written to the buffer below its size keeps the canonical form. -/
theorem State.bufferByte_bufferLaw {s : State} (b : Byte) (hs : s.bufferLaw) (hp : s.iface.pointer.val < 0x30) :
    (s.bufferByte b).bufferLaw := by
  unfold State.bufferByte
  split
  · exact hs
  · exact Memory.wf_write _ _ _ hs hp

theorem bufferLaw_bus {i : Instr} (hi : isBus i = true) {s : State} (h : s.bufferLaw) : (s.afterRow i).bufferLaw := by
  cases i
  case pointerByte b =>
    refine afterRow_of rfl (State.onBus_bufferLaw h fun _ => ?_)
    split
    · unfold State.pointerByte; split <;> exact h
    all_goals exact h
  case transferBufferWrite b =>
    refine afterRow_of rfl (State.onBus_bufferLaw h fun _ => ?_)
    split
    · split
      · exact State.bufferByte_bufferLaw b h ‹_›
      · exact h
    all_goals exact h
  case commandWrite b =>
    refine afterRow_of rfl (State.onBus_bufferLaw h fun _ => ?_)
    split
    · split
      · unfold State.commandByte; split <;> exact h
      · exact h
    all_goals exact h
  case ignoredRegisterWrite b =>
    refine afterRow_of rfl (State.onBus_bufferLaw h fun _ => ?_)
    split
    · split <;> exact h
    all_goals exact h
  case commandBegin =>
    refine afterRow_of rfl (State.onBus_bufferLaw h fun _ => ?_)
    unfold State.begin; split <;> exact h
  case byteRead =>
    refine afterRow_of rfl (State.onBus_bufferLaw h fun _ => ?_)
    split <;> exact h
  case busStartOrStop c cut =>
    refine afterRow_of rfl (State.onBus_bufferLaw h fun _ => ?_)
    have hbegin : s.begin.bufferLaw := by unfold State.begin; split <;> exact h
    cases c with
    | stop => exact hbegin
    | start adr address read => unfold State.condition; simp only; split <;> exact hbegin
  all_goals cases hi

/-- A command keeps the buffer, or writes a record. -/
theorem bufferLaw_command {i : Instr} (hi : isCommand i = true) {s : State} (h : s.bufferLaw) : (s.afterRow i).bufferLaw := by
  have hrefuse := State.bufferLaw_refuse h
  have hsettled := State.bufferLaw_refuse (State.bufferLaw_of_iface (by rw [s.settleSelf_arrivalFrame.iface]) h : s.settleSelf.bufferLaw)
  have output (code : Byte) (r : State → ResultCode) (d : State → Byte) (o : State → List Byte) :
      (onCompletion code (fun s => s.complete (r s) (d s) (some (o s))) s).bufferLaw :=
    onCompletion_of (fun _ => h) fun _ => s.bufferLaw_output _ _ _
  have complete (r : ResultCode) (d : Byte) (o : Option (List Byte)) : (s.complete r d o).bufferLaw := by
    cases o with
    | none => exact hrefuse r d
    | some bytes => exact s.bufferLaw_output _ _ _
  cases i
  case load => exact afterRow_load_of h hrefuse fun _ _ _ _ _ _ _ => State.bufferLaw_output _ _ _ _
  case modify => exact afterRow_modify_of h hsettled fun _ _ _ _ _ _ _ _ _ => State.bufferLaw_output _ _ _ _
  case fetch =>
    refine afterRow_of rfl (onCompletion_of (fun _ => h) fun _ => State.onNamed_of (fun _ => hrefuse _ _) fun n _ => ?_)
    split <;> exact State.bufferLaw_output _ _ _ _
  case find =>
    refine afterRow_of rfl (onCompletion_of (fun _ => h) fun _ => ?_)
    split
    · exact State.bufferLaw_output _ _ _ _
    · unfold State.findZone
      split
      · exact State.bufferLaw_output _ _ _ _
      · exact hrefuse _ _
    · split
      · exact State.bufferLaw_output _ _ _ _
      · exact hrefuse _ _
    · exact hrefuse _ _
  case retire =>
    refine afterRow_retire_of h hrefuse fun n _ _ _ _ _ _ => State.bufferLaw_refuse (State.bufferLaw_of_iface ?_ h) _ _
    change (s.applyAt n Entry.retired).asOne.iface.buffer = _
    rw [Arrival.asOne_iface, State.applyAt_state_iface]
  case setProtect prg =>
    exact afterRow_setProtect_of h (fun _ _ => State.bufferLaw_refuse (s := s.samplePrg prg) h _ _) fun _ _ _ =>
      State.bufferLaw_refuse (s := { s.samplePrg prg with boundary := s.input 0 }) h _ _
  case hold => exact afterRow_hold_of h hsettled fun _ _ _ _ _ _ _ _ => State.bufferLaw_output _ _ _ _
  case release => exact afterRow_release_of h hsettled fun _ _ _ _ _ _ _ => State.bufferLaw_output _ _ _ _
  case rearm => exact afterRow_rearm_of h hsettled fun _ _ _ _ _ _ _ => State.bufferLaw_output _ _ _ _
  case start => exact afterRow_start_of h hsettled fun _ _ _ _ _ _ _ => State.bufferLaw_output _ _ _ _
  case stop => exact afterRow_stop_of h hsettled fun _ _ _ _ _ _ => State.bufferLaw_output _ _ _ _
  case confirm => exact afterRow_confirm_of h hsettled fun _ _ _ _ _ _ => State.bufferLaw_output _ _ _ _
  case confirmFirst => exact afterRow_confirmFirst_of h (fun _ => hsettled) fun _ _ _ _ => State.bufferLaw_output _ _ _ _
  case setTime => exact afterRow_setTime_of h hrefuse fun _ _ => State.bufferLaw_output _ _ _ _
  case selectClock => exact afterRow_selectClock_of h hrefuse fun _ _ _ => State.bufferLaw_output _ _ _ _
  case setZones => exact afterRow_setZones_of h hrefuse fun _ _ _ _ => State.bufferLaw_output _ _ _ _
  case configure => exact afterRow_configure_of h hrefuse fun _ _ _ _ => State.bufferLaw_output _ _ _ _
  case engineStart => exact afterRow_engineStart_of h complete fun _ _ _ _ _ => State.bufferLaw_output _ _ _ _
  case engineSuspend => exact afterRow_engineSuspend_of h complete fun _ _ _ _ => State.bufferLaw_output _ _ _ _
  case nextNotice =>
    refine afterRow_nextNotice_of h hrefuse (fun _ _ => ?_) fun n e _ _ _ _ _ => ?_
    · unfold State.giveDeviceGroup; exact State.bufferLaw_output _ _ _ _
    · unfold State.giveEntryGroup; exact State.bufferLaw_output _ _ _ _
  case unknownCommand =>
    refine afterRow_of rfl ?_
    split
    · split
      · exact hrefuse _ _
      · exact h
    · exact h
  case setFlags | clearLatches => exact afterRow_of rfl (onCompletion_of (fun _ => h) fun _ => State.bufferLaw_output _ _ _ _)
  case readTime | readClock | readZones | readConfig => exact afterRow_of rfl (output _ _ _ _)
  all_goals cases hi

theorem bufferLaw_afterRow (i : Instr) {s : State} (h : s.bufferLaw) : (s.afterRow i).bufferLaw := by
  by_cases hc : isCommand i = true
  · exact bufferLaw_command hc h
  by_cases hbus : isBus i = true
  · exact bufferLaw_bus hbus h
  by_cases ha : isArrival i = true
  · exact State.bufferLaw_of_iface (by rw [(afterRow_arrivalFrame ha s).iface]) h
  by_cases ht : onTimebaseAlone i = true
  · have hframe := afterRow_timebaseFrame ht s
    unfold State.timebaseFrame at hframe
    rw [hframe]; exact h
  cases i
  case secondEvent order => rw [afterRow_secondEvent_frame]; exact h
  case sensorPinChange k level => rw [afterRow_sensorPinChange_frame]; exact h
  case sensorAcceptance k => rw [afterRow_sensorAcceptance_frame]; exact h
  case supplyDip => rw [afterRow_supplyDip_frame]; exact h
  case retentionMarkLost => exact h
  case resetAssert =>
    refine afterRow_of rfl ?_
    split <;> exact h
  case entryToBackup =>
    refine afterRow_of rfl ?_
    split
    · have hmains := State.loseMains_timebaseFrame (s.enterBattery.dropArrivals.resolveActive .interrupted).state.zonesInBackup
      unfold State.timebaseFrame at hmains
      rw [hmains]
      refine State.bufferLaw_of_iface (s := s) ?_ h
      change (s.enterBattery.dropArrivals.resolveActive .interrupted).state.iface.buffer = _
      rw [State.resolveActive, State.apply_state_iface]
      rfl
    · exact h
  case returnFromBackup order =>
    rw [afterRow_returnFromBackup]
    split
    · unfold State.bufferLaw; rw [State.returned_iface]; rfl
    · exact h
  case resetRelease =>
    rw [afterRow_resetRelease]
    split
    · rfl
    · exact h
  case coldStart =>
    obtain hp | hp := Bool.eq_false_or_eq_true s.powered
    · rw [afterRow_coldStart_of_powered hp]; exact h
    · rw [afterRow_coldStart hp]; rfl
  all_goals first | exact absurd rfl hc | exact absurd rfl hbus | exact absurd rfl ha | exact absurd rfl ht

/-! ### The laws through every step -/

/-- A law of a field that an internal cycle and the model's counter leave alone is kept where every row keeps it. -/
theorem deviceLaw_step {P : State → Prop} (hsame : ∀ s t : State, t.calendar = s.calendar → t.boundary = s.boundary →
    t.iface = s.iface → P s → P t) (hrow : ∀ (i : Instr) {s : State}, P s → P (s.afterRow i)) {s t : State} (hs : P s)
    (h : step s = .next t) : P t :=
  law_of_step (P := P) (fun s _ => hsame s _ rfl rfl rfl) (fun s => hsame s _ rfl rfl rfl) (fun _ i => hrow i)
    (fun s => hsame s _ (by rw [State.tick_frame]) (by rw [State.tick_frame]) (by rw [State.tick_frame])) hs h

/-- Settles O60: every row and every internal cycle moves the Timebase by the clock's own moves, a selection or a check that passes, and
keeps the calendar, the boundary and the buffer by its checks. -/
theorem deviceLawsKept : Obligations.DeviceLawsKept := by
  refine ⟨fun s t h => ⟨(step_clockRow h).active, (step_clockRow h).ready⟩,
    fun s t ⟨hcalendar, hboundary, hbuffer, hcrystal, hcandidate, hprescaler⟩ h => ?_⟩
  obtain ⟨hcrystal', hcandidate', hprescaler'⟩ := (step_clockRow h).lawful ⟨hcrystal, hcandidate, hprescaler⟩
  refine ⟨?_, ?_, ?_, hcrystal', hcandidate', hprescaler'⟩
  · exact deviceLaw_step (P := State.calendarLaw) (fun s t hc _ _ h => by unfold State.calendarLaw at *; rw [hc, h])
      calendarLaw_afterRow hcalendar h
  · exact deviceLaw_step (P := State.boundaryLaw) (fun s t _ hb _ h => by unfold State.boundaryLaw at *; rw [hb]; exact h)
      boundaryLaw_afterRow hboundary h
  · exact deviceLaw_step (P := State.bufferLaw) (fun s t _ _ hi h => State.bufferLaw_of_iface (by rw [hi]) h)
      bufferLaw_afterRow hbuffer h

end Sys2Proof.Machine
end

section
/-! The held engine (R148): nothing is on its way to it, and it takes nothing. -/

namespace Sys2Proof.Machine

/-! ### Nothing on its way -/

/-- Nothing is on its way to an entry or to the arbiter. -/
structure State.NoneOwed (s : State) : Prop where
  triggers : s.owed.triggers = []
  transitions : s.owed.transitions = []
  pulses : s.owed.pulses = []
  links : s.links = []
  walks : s.owed.walks = 0
  underway : s.owed.underway.group.walk = false

/-- What the law of a held engine says of it. -/
structure State.Dormant (s : State) : Prop where
  none : s.NoneOwed
  quiet : s.iface.Quiet

theorem State.heldLaw_iff (s : State) : s.heldLaw ↔ (s.engine.held = true → s.Dormant) := by
  constructor
  · intro h hh
    obtain ⟨htriggers, htransitions, hpulses, hlinks, hwalks, hunder, hbusy, hcode⟩ := h hh
    exact ⟨⟨htriggers, htransitions, hpulses, hlinks, hwalks, hunder⟩, hbusy, hcode⟩
  · intro h hh
    obtain ⟨⟨htriggers, htransitions, hpulses, hlinks, hwalks, hunder⟩, hbusy, hcode⟩ := h hh
    exact ⟨htriggers, htransitions, hpulses, hlinks, hwalks, hunder, hbusy, hcode⟩

theorem State.heldLaw_of_not_held {s : State} (h : s.engine.held = false) : s.heldLaw :=
  s.heldLaw_iff.mpr fun hh => absurd (h.symm.trans hh) (by decide)

theorem State.Dormant.heldLaw {s : State} (h : s.Dormant) : s.heldLaw := s.heldLaw_iff.mpr fun _ => h

theorem State.NoneOwed.of_owed {s t : State} (hs : s.NoneOwed) (h : t.owed = { s.owed with seconds := t.owed.seconds }) : t.NoneOwed := by
  obtain ⟨htriggers, htransitions, hpulses, hlinks, hwalks, hunder⟩ := hs
  unfold State.links at hlinks
  refine ⟨?_, ?_, ?_, ?_, ?_, ?_⟩
  · rw [h]; exact htriggers
  · rw [h]; exact htransitions
  · rw [h]; exact hpulses
  · unfold State.links; rw [h]; exact hlinks
  · rw [h]; exact hwalks
  · rw [h]; exact hunder

theorem State.Dormant.of_same {s t : State} (hs : s.Dormant) (howed : t.owed = { s.owed with seconds := t.owed.seconds })
    (hiface : t.iface = s.iface) : t.Dormant :=
  ⟨hs.none.of_owed howed, hiface ▸ hs.quiet⟩

theorem State.dropArrivals_noneOwed (s : State) : s.dropArrivals.NoneOwed := ⟨rfl, rfl, rfl, rfl, rfl, rfl⟩

theorem State.timebaseFrame.owed {s t : State} (h : s.timebaseFrame t) : t.owed = { s.owed with seconds := t.owed.seconds } := by
  unfold State.timebaseFrame at h
  exact congrArg State.owed h

/-! ### The view of a held engine -/

theorem State.isLive_of_held {s : State} (h : s.engine.held = true) : s.isLive = false := by
  unfold State.isLive; rw [h]; simp

theorem State.takesArrivals_of_held {s : State} (h : s.engine.held = true) : s.takesArrivals = false := by
  unfold State.takesArrivals; rw [h]; simp

theorem State.busHeard_of_held {s : State} (h : s.engine.held = true) : s.busHeard = false := by
  unfold State.busHeard; rw [h]; simp

/-- R25, R148: a change event hands nothing to a held engine. -/
theorem State.changeEvent_owed_of_held {s : State} (before : Levels) (h : s.engine.held = true) :
    (s.changeEvent before).owed = s.owed := by
  delta State.changeEvent
  simp only [s.isLive_of_held h, s.takesArrivals_of_held h, Bool.false_eq_true, if_false, List.append_nil]
  split <;> rfl

theorem State.accept_owed_of_held {s : State} (k : SensorIx) (level : Bool) (h : s.engine.held = true) :
    (s.accept k level).owed = s.owed := by
  unfold State.accept
  simp only [s.takesArrivals_of_held h, Bool.and_false, Bool.false_eq_true, if_false]
  exact State.changeEvent_owed_of_held (s := s.putSensor k _) _ h

theorem State.watchPin_owed_of_held {s : State} (k : SensorIx) (h : s.engine.held = true) : (s.watchPin k).owed = s.owed := by
  unfold State.watchPin
  simp only
  split
  · rfl
  split
  · exact State.accept_owed_of_held k _ h
  split <;> rfl

theorem wakeEvents_owed_of_held {first : List SensorIx} {f : State → State} (hf : f ∈ wakeEvents first) {s : State}
    (h : s.engine.held = true) : (f s).owed = s.owed := by
  rw [wakeEvents, List.mem_cons, List.mem_map] at hf
  rcases hf with rfl | ⟨k, -, rfl⟩
  · exact State.changeEvent_owed_of_held (s := s.clearAllLatches) _ h
  · exact s.watchPin_owed_of_held k h

theorem State.through_owed_of_held {first : List SensorIx} : ∀ {events : List (State → State)}
    (_ : ∀ f, f ∈ events → f ∈ wakeEvents first) {s : State} (_ : s.engine.held = true), (s.through events).owed = s.owed
  | [], _, _, _ => rfl
  | f :: rest, hf, s, h => by
    have hfirst := hf f List.mem_cons_self
    have hengine : (f s).engine = s.engine := by
      have hframe := wakeEvents_signalFrame hfirst s
      unfold State.signalFrame at hframe
      rw [hframe]
    exact (State.through_owed_of_held (fun g hg => hf g (List.mem_cons_of_mem f hg)) (hengine ▸ h)).trans
      (wakeEvents_owed_of_held hfirst h)

/-! ### What a held engine makes of the rows of the engine -/

section
variable {s : State} (h : s.engine.held = true)
include h

theorem State.endingAt_of_held (n : EntryIx) : s.endingAt n = none := by
  unfold State.endingAt
  rw [s.takesArrivals_of_held h]; rfl

theorem afterRow_counter_of_held {i : Instr} {n : EntryIx} (hi : i = .runCompleted n ∨ i = .capped n ∨ i = .waitLimitExpiry n) :
    s.afterRow i = s := by
  have hnone := s.endingAt_of_held h n
  rcases hi with rfl | rfl | rfl
  · refine afterRow_of (P := fun t => t = s) rfl ?_
    simp [hnone, s.takesArrivals_of_held h]
  · refine afterRow_of (P := fun t => t = s) rfl ?_
    simp [hnone]
  · refine afterRow_of (P := fun t => t = s) rfl ?_
    simp [hnone]

theorem afterRow_restEnd_of_held (z : ZoneIx) : s.afterRow (.restEnd z) = s :=
  afterRow_of (P := fun t => t = s) rfl (if_neg (by simp [s.takesArrivals_of_held h]))

theorem afterRow_grantWalk_of_held : s.afterRow .grantWalk = s :=
  afterRow_of (P := fun t => t = s) rfl (if_neg (by simp [s.takesArrivals_of_held h]))

theorem afterRow_secondEvent_of_held (order : SecondOrder) :
    s.afterRow (.secondEvent order) = s ∨ s.afterRow (.secondEvent order) = (if s.owed.seconds = 0 then s.raiseSecond else s).advanced := by
  refine afterRow_of (P := fun t => t = s ∨ t = (if s.owed.seconds = 0 then s.raiseSecond else s).advanced) rfl ?_
  split
  · right
    refine State.countSecond_idle order (State.takesArrivals_of_held ?_)
    change (if s.owed.seconds = 0 then s.raiseSecond else s).engine.held = true
    split
    · rw [State.raiseSecond_frame]; exact h
    · exact h
  · exact Or.inl rfl

end

section
variable {s : State} (hs : s.NoneOwed)
include hs

theorem afterRow_patternTrigger_none (n : EntryIx) : s.afterRow (.patternTrigger n) = s := by
  refine afterRow_of (P := fun t => t = s) rfl ?_
  rw [hs.triggers]; rfl

theorem State.takeTransition_none (n : EntryIx) (value : Bool) : s.takeTransition n value = s := by
  unfold State.takeTransition
  rw [hs.transitions]; rfl

theorem afterRow_pulseEdge_none (k : SensorIx) : s.afterRow (.pulseEdge k) = s := by
  refine afterRow_of (P := fun t => t = s) rfl ?_
  rw [hs.pulses]; rfl

theorem afterRow_followEvent_none (m n : EntryIx) : s.afterRow (.followEvent m n) = s := by
  refine afterRow_of (P := fun t => t = s) rfl (if_neg ?_)
  unfold State.linkOnItsWay
  rw [hs.links]; exact Bool.false_ne_true

end

/-- An arrival that leaves each entry as it is changes nothing. -/
theorem State.applyAt_only {s : State} {n : EntryIx} {f : Entry → Effect} (h : ∀ e, f e = Effect.only e) : (s.applyAt n f).state = s := by
  have htable : (s.applyAt n f).state.table = s.table := by
    apply Vector.ext
    intro i hi
    change (s.applyAt n f).state.table[(⟨i, hi⟩ : EntryIx)] = s.table[(⟨i, hi⟩ : EntryIx)]
    rw [State.applyAt, State.apply_table]
    simp only [h, ite_self, Effect.only_entry, Option.map_id']
  have hzones := State.applyAt_zones_keep s n f fun e _ => by rw [h]; rfl
  rw [State.applyAt_frame, htable, hzones]

theorem Entry.trigger_of_not_live {v : View} (h : v.live = false) (levels : Levels) (x : Option Levels) (e : Entry) :
    e.trigger v levels x = Effect.only e := by
  unfold Entry.trigger; rw [h]; rfl

theorem Entry.patternTrigger_of_not_live {v : View} (h : v.live = false) (levels : Levels) (e : Entry) :
    e.patternTrigger v levels = Effect.only e := by
  unfold Entry.patternTrigger
  simp only [h, Bool.false_and, Bool.false_eq_true, if_false, Entry.trigger_of_not_live h, ite_self]

theorem Entry.followEvent_of_not_live {v : View} (h : v.live = false) (e : Entry) : e.followEvent v = Effect.only e := by
  unfold Entry.followEvent
  rw [Entry.trigger_of_not_live h, ite_self]

/-- From `s` to `t` no entry, no zone and no place in the list changes. -/
def State.Untouched (s t : State) : Prop := t.table = s.table ∧ t.zones = s.zones ∧ t.turn = s.turn

theorem afterRow_patternTrigger_of_held {s : State} (h : s.engine.held = true) (n : EntryIx) :
    s.Untouched (s.afterRow (.patternTrigger n)) := by
  refine afterRow_of rfl ?_
  split
  · next t _ =>
    have hsame : (({ s with owed := { s.owed with triggers := s.owed.triggers.erase t } } : State).applyAt n
        (Entry.patternTrigger s.view t.levels)).state = { s with owed := { s.owed with triggers := s.owed.triggers.erase t } } :=
      State.applyAt_only fun e => e.patternTrigger_of_not_live (s.isLive_of_held h) _
    refine ⟨?_, ?_, ?_⟩
    · rw [Arrival.asOne_table, hsame]
    · rw [Arrival.asOne_zones, hsame]
    · rw [Arrival.asOne_turn, hsame]
  · exact ⟨rfl, rfl, rfl⟩

theorem afterRow_followEvent_of_held {s : State} (h : s.engine.held = true) (m n : EntryIx) :
    s.Untouched (s.afterRow (.followEvent m n)) := by
  refine afterRow_of rfl ?_
  split
  · unfold State.deliverLink
    simp only
    rw [State.takeLink_frame, State.applyAt_only fun e => e.followEvent_of_not_live (s.isLive_of_held h)]
    exact ⟨rfl, rfl, rfl⟩
  · exact ⟨rfl, rfl, rfl⟩

/-! ### The law through every row -/

theorem State.advanced_dormant {s : State} (hs : s.Dormant) : s.advanced.Dormant := by
  obtain ⟨⟨htriggers, htransitions, hpulses, hlinks, hwalks, hunder⟩, hquiet⟩ := hs
  have hfollows : (s.owed.follows.flatMap fun g => g.events) = [] := by
    unfold State.links at hlinks
    rw [List.flatMap_cons] at hlinks
    exact (List.append_eq_nil_iff.mp hlinks).2
  refine ⟨⟨htriggers, htransitions, hpulses, ?_, hwalks, rfl⟩, hquiet⟩
  change ({ walk := false, events := [] } :: s.owed.follows : List FollowGroup).flatMap (fun g => g.events) = []
  rw [List.flatMap_cons, hfollows]; rfl

/-- The rows that leave whether the engine is held. -/
def keepsHeld : Instr → Bool
  | .returnFromBackup _ | .coldStart | .resetAssert | .resetRelease => false
  | _ => true

theorem afterRow_held {i : Instr} (hi : keepsHeld i = true) (s : State) : (s.afterRow i).engine.held = s.engine.held := by
  cases i
  case engineStart =>
    refine afterRow_engineStart_of (P := fun t => t.engine.held = s.engine.held) rfl (fun _ _ _ => rfl) fun _ _ _ _ _ => ?_
    have h := s.finishUnderway_eventFrame
    unfold State.eventFrame at h
    rw [State.complete_engine, State.goLive_engine, h]
    rfl
  case engineSuspend =>
    refine afterRow_engineSuspend_of (P := fun t => t.engine.held = s.engine.held) rfl (fun _ _ _ => rfl) fun _ _ _ _ => ?_
    have h := s.settleEnds_eventFrame
    unfold State.eventFrame at h
    rw [State.complete_engine, Arrival.asOne_engine, State.resolveActive_state_engine, h]
    rfl
  case entryToBackup =>
    refine afterRow_of (P := fun t => t.engine.held = s.engine.held) rfl ?_
    split
    · have hmains := State.loseMains_timebaseFrame (s.enterBattery.dropArrivals.resolveActive .interrupted).state.zonesInBackup
      unfold State.timebaseFrame at hmains
      have hresolved := congrArg Engine.held (s.enterBattery.dropArrivals.resolveActive_state_engine .interrupted)
      rw [hmains]
      exact hresolved
    · rfl
  case returnFromBackup | coldStart | resetAssert | resetRelease => cases hi
  all_goals exact congrArg Engine.held (afterRow_part (p := .engine) (by simp [touches]) s)

/-- R145, R162: the entry to BACKUP leaves nothing on its way and no command in progress. -/
theorem afterRow_entryToBackup_dormant {s : State} (h : (s.powered && s.supply.condition == .main) = true) :
    (s.afterRow .entryToBackup).Dormant := by
  refine afterRow_of (P := State.Dormant) rfl ?_
  rw [if_pos h]
  have hmains := (State.loseMains_timebaseFrame (s.enterBattery.dropArrivals.resolveActive .interrupted).state.zonesInBackup).owed
  have hresolved : (s.enterBattery.dropArrivals.resolveActive .interrupted).state.NoneOwed :=
    State.NoneOwed.of_owed s.enterBattery.dropArrivals_noneOwed (by rw [State.resolveActive, State.apply_state_owed])
  have hzones (x : State) (hx : x.NoneOwed) : x.zonesInBackup.NoneOwed := hx.of_owed rfl
  have hcut (x : State) (hx : x.NoneOwed) : x.abandonFilters.cutInterface.Dormant := ⟨hx.of_owed rfl, rfl, rfl⟩
  exact hcut _ ((hzones _ hresolved).of_owed hmains)

theorem State.lineAtReturn_heldLaw {s : State} (hquiet : s.iface.Quiet) : s.lineAtReturn.1.heldLaw := by
  unfold State.lineAtReturn
  split
  · exact State.Dormant.heldLaw ⟨s.hold.dropArrivals_noneOwed, hquiet⟩
  split
  · exact State.heldLaw_of_not_held (by rw [State.release_engine])
  · next hh => exact State.heldLaw_of_not_held (Bool.eq_false_iff.mpr hh)

theorem State.through_heldLaw {first : List SensorIx} {events : List (State → State)}
    (hf : ∀ f, f ∈ events → f ∈ wakeEvents first) {s : State} (hs : s.heldLaw) : (s.through events).heldLaw := by
  rw [State.heldLaw_iff] at *
  intro hh
  rw [State.through_engine hf] at hh
  exact (hs hh).of_same (by rw [State.through_owed_of_held hf hh]) (State.through_iface hf s)

theorem State.restoreMode_heldLaw {s : State} (m : Mode) (hs : s.heldLaw) : (s.restoreMode m).heldLaw := by
  rw [State.heldLaw_iff] at *
  intro hh
  rw [State.restoreMode_engine] at hh
  have hlive : (s.setMode m).isLive = false := State.isLive_of_held (s := s.setMode m) hh
  unfold State.restoreMode
  simp only [hlive, Bool.false_eq_true, if_false]
  exact (hs hh).of_same rfl rfl

/-- R148: a return that finds the line asserted leaves a held engine with nothing on its way. -/
theorem State.returned_heldLaw (s : State) (order : ReturnOrder) : (s.returned order).heldLaw := by
  have hlined : s.leaveBattery.freshInterface.lineAtReturn.1.heldLaw :=
    State.lineAtReturn_heldLaw (s := s.leaveBattery.freshInterface) ⟨rfl, rfl⟩
  unfold State.returned
  refine State.through_heldLaw (first := order.sensors) (fun _ => List.mem_of_mem_drop) (State.restoreMode_heldLaw _ ?_)
  exact State.through_heldLaw (first := order.sensors) (fun _ => List.mem_of_mem_take) hlined

/-- The rows that come to a held engine find nothing on its way, and leave it so. -/
theorem afterRow_dormant {i : Instr} (hi : keepsHeld i = true) {s : State} (h : s.engine.held = true) (hs : s.Dormant) :
    (s.afterRow i).Dormant := by
  by_cases hc : isCommand i = true
  · rw [afterRow_command_idle hc hs.quiet.1]; exact hs
  by_cases hbus : isBus i = true
  · rw [afterRow_bus_ignored hbus (s.busHeard_of_held h)]
    exact ⟨hs.none.of_owed rfl, hs.quiet⟩
  by_cases ht : onTimebaseAlone i = true
  · have hframe := afterRow_timebaseFrame ht s
    refine hs.of_same hframe.owed ?_
    unfold State.timebaseFrame at hframe
    rw [hframe]
  cases i
  case runCompleted n => rw [afterRow_counter_of_held h (Or.inl rfl)]; exact hs
  case capped n => rw [afterRow_counter_of_held h (Or.inr (Or.inl rfl))]; exact hs
  case waitLimitExpiry n => rw [afterRow_counter_of_held h (Or.inr (Or.inr rfl))]; exact hs
  case restEnd z => rw [afterRow_restEnd_of_held h]; exact hs
  case grantWalk => rw [afterRow_grantWalk_of_held h]; exact hs
  case patternTrigger n => rw [afterRow_patternTrigger_none hs.none]; exact hs
  case permitFalse n => exact afterRow_of rfl ((State.takeTransition_none hs.none n false).symm ▸ hs)
  case permitTrue n => exact afterRow_of rfl ((State.takeTransition_none hs.none n true).symm ▸ hs)
  case pulseEdge k => rw [afterRow_pulseEdge_none hs.none]; exact hs
  case followEvent m n => rw [afterRow_followEvent_none hs.none]; exact hs
  case secondEvent order =>
    rcases afterRow_secondEvent_of_held h order with hsame | hadvanced
    · rw [hsame]; exact hs
    · rw [hadvanced]
      refine State.advanced_dormant ?_
      split
      · exact hs.of_same s.raiseSecond_timebaseFrame.owed (by rw [State.raiseSecond_frame])
      · exact hs
  case sensorPinChange k level =>
    have hmoved : (s.setPin k level).Dormant := hs.of_same rfl rfl
    refine afterRow_of rfl ?_
    split
    · refine hmoved.of_same ?_ (by rw [State.watchPin_frame])
      rw [State.watchPin_owed_of_held (s := s.setPin k level) k h]
    · exact hmoved
  case sensorAcceptance k =>
    refine afterRow_of rfl ?_
    split
    · split
      · exact hs.of_same (by rw [State.accept_owed_of_held k _ h]) (by rw [State.accept_frame])
      · exact hs
    · exact hs
  case entryToBackup =>
    by_cases hmain : (s.powered && s.supply.condition == .main) = true
    · exact afterRow_entryToBackup_dormant hmain
    · rw [afterRow_entryToBackup_idle hmain]; exact hs
  case supplyDip => rw [afterRow_supplyDip_frame]; exact hs.of_same rfl rfl
  case retentionMarkLost => exact ⟨State.NoneOwed.of_owed s.cutInterface.dropArrivals_noneOwed rfl, rfl, rfl⟩
  case returnFromBackup | coldStart | resetAssert | resetRelease => cases hi
  case pointerByte | transferBufferWrite | commandWrite | commandBegin | ignoredRegisterWrite | byteRead | busStartOrStop =>
    exact absurd rfl hbus
  case crystalCheckPass | mainsCheckPass | checkTimeout | readyCandidateFault | clockSwitch | activeSourceFault => exact absurd rfl ht
  all_goals exact absurd rfl hc

theorem heldLaw_afterRow (i : Instr) {s : State} (hs : s.heldLaw) : (s.afterRow i).heldLaw := by
  by_cases hi : keepsHeld i = true
  · rw [State.heldLaw_iff] at *
    intro hh
    rw [afterRow_held hi] at hh
    exact afterRow_dormant hi hh (hs hh)
  cases i
  case returnFromBackup order =>
    rw [afterRow_returnFromBackup]
    split
    · exact s.returned_heldLaw order
    · exact hs
  case coldStart =>
    obtain hp | hp := Bool.eq_false_or_eq_true s.powered
    · rw [afterRow_coldStart_of_powered hp]; exact hs
    · rw [afterRow_coldStart hp]
      exact State.Dormant.heldLaw ⟨⟨rfl, rfl, rfl, rfl, rfl, rfl⟩, rfl, rfl⟩
  case resetAssert =>
    refine afterRow_of rfl ?_
    split
    · exact State.Dormant.heldLaw ⟨State.NoneOwed.of_owed (State.dropArrivals_noneOwed _) rfl, rfl, rfl⟩
    · exact hs
  case resetRelease =>
    rw [afterRow_resetRelease]
    split
    · exact State.heldLaw_of_not_held (by rw [State.release_engine])
    · exact hs
  all_goals exact absurd rfl hi

theorem heldLaw_step {s t : State} (hs : s.heldLaw) (h : step s = .next t) : t.heldLaw :=
  law_of_step (P := State.heldLaw) (fun _ _ => id) (fun _ => id) (fun _ i => heldLaw_afterRow i)
    (fun s hs => by
      rw [State.heldLaw_iff] at *
      intro hh
      have hengine : s.tick.engine = s.engine := by rw [State.tick_frame]
      exact (hs (hengine ▸ hh)).of_same (by rw [State.tick_frame]) (by rw [State.tick_frame])) hs h

/-- Settles O38: a held engine is not LIVE, takes no arrival and hears no bus, so no row puts anything on its way, and every row of the
engine finds nothing to do. -/
theorem heldEngineTakesNothing : Obligations.HeldEngineTakesNothing := by
  refine ⟨fun s t => heldLaw_step, fun s i hh hi => ⟨_, exec_eq_afterRow i s, ?_⟩⟩
  change s.Untouched (s.afterRow i)
  have hself : s.Untouched s := ⟨rfl, rfl, rfl⟩
  rcases hi with ⟨order, rfl⟩ | ⟨n, hcounter⟩ | ⟨z, rfl⟩ | rfl | ⟨n, m, rfl | rfl⟩ | ⟨hlaw, ⟨k, rfl⟩ | ⟨n, rfl | rfl⟩⟩
  · rcases afterRow_secondEvent_of_held hh order with hsame | hadvanced
    · rw [hsame]; exact hself
    · rw [hadvanced]
      change s.Untouched (if s.owed.seconds = 0 then s.raiseSecond else s)
      split
      · rw [State.raiseSecond_frame]; exact hself
      · exact hself
  · rw [afterRow_counter_of_held hh hcounter]; exact hself
  · rw [afterRow_restEnd_of_held hh]; exact hself
  · rw [afterRow_grantWalk_of_held hh]; exact hself
  · exact afterRow_patternTrigger_of_held hh n
  · exact afterRow_followEvent_of_held hh m n
  · rw [afterRow_pulseEdge_none (s.heldLaw_iff.mp hlaw hh).none]; exact hself
  · exact afterRow_of rfl ((State.takeTransition_none (s.heldLaw_iff.mp hlaw hh).none n false).symm ▸ hself)
  · exact afterRow_of rfl ((State.takeTransition_none (s.heldLaw_iff.mp hlaw hh).none n true).symm ▸ hself)

end Sys2Proof.Machine
end

section
/-! What every command does at its completion, the laws of the state after reset, and the rows COLD_START and SET PROTECT. -/

namespace Sys2Proof.Machine

/-! ### The checks that commands share, taken and refused -/

section
variable {s : State} {n : EntryIx}

theorem State.namedEntry_eq_some : s.namedEntry = some n ↔ s.input 0 = n.val := by
  unfold State.namedEntry
  split
  · simp [Fin.ext_iff]
  · exact ⟨fun h => absurd h (by simp), fun h => absurd n.isLt (by omega)⟩

theorem State.namedEntry_eq_none : s.namedEntry = none ↔ 48 ≤ s.input 0 := by
  unfold State.namedEntry
  split
  · exact ⟨fun h => absurd h (by simp), fun h => by omega⟩
  · exact ⟨fun _ => by omega, fun _ => rfl⟩

theorem State.isProtected_iff : s.isProtected n = true ↔ n.val < s.boundary := by
  simp [State.isProtected]

theorem State.onNamed_some (h : s.namedEntry = some n) (f : EntryIx → State) : s.onNamed f = f n := by
  simp only [State.onNamed, h]

theorem State.onNamed_none (h : s.namedEntry = none) (f : EntryIx → State) : s.onNamed f = s.refuse .badIndex 0 := by
  simp only [State.onNamed, h]

theorem State.unlessProtected_taken (h : s.isProtected n = false) (f : State) : s.unlessProtected n f = f := by
  simp [State.unlessProtected, h]

theorem State.unlessProtected_refused (h : s.isProtected n = true) (f : State) :
    s.unlessProtected n f = s.refuse .entryProtected (byteOf s.boundary) := by
  simp [State.unlessProtected, h]

theorem State.onOccupied_taken {e : Entry} (h : s.table[n] = some e) (f : Entry → State) : s.onOccupied n f = f e := by
  simp only [State.onOccupied, h]

theorem State.onOccupied_refused (h : s.table[n] = none) (f : Entry → State) :
    s.onOccupied n f = s.refuse .emptySlot 0 := by
  simp only [State.onOccupied, h]

theorem State.onRecord_fault {k : Nat} (h : definitionFault s.input = some k) (f : Definition → State) :
    s.onRecord n f = s.refuse .invalidField (byteOf k) := by
  simp only [State.onRecord, h]

theorem State.onRecord_badLink (h : definitionFault s.input = none) (hl : s.badLink n (Definition.ofRecord s.input) = true)
    (f : Definition → State) : s.onRecord n f = s.refuse .badLink 0x0B := by
  simp only [State.onRecord, h, hl, if_true]

theorem State.onRecord_taken (h : definitionFault s.input = none) (hl : s.badLink n (Definition.ofRecord s.input) = false)
    (f : Definition → State) : s.onRecord n f = f (Definition.ofRecord s.input) := by
  simp only [State.onRecord, h, hl, Bool.false_eq_true, if_false]

end

/-! ### The completion of the command in progress (R161) -/

/-- A command completes with a result. -/
def State.finishes (s t : State) : Prop := ∃ r d, s.completes t r d ∧ r ≠ .none

theorem State.completes_of_iface {s u : State} (h : u.iface = s.iface) (r : ResultCode) (d : Byte) (o : Option (List Byte)) :
    s.completes (u.complete r d o) r d := by
  unfold State.completes State.complete
  simp [h]

theorem State.finishes_complete {s u : State} (h : u.iface = s.iface) {r : ResultCode} (hr : r ≠ .none) (d : Byte)
    (o : Option (List Byte)) : s.finishes (u.complete r d o) :=
  ⟨r, d, State.completes_of_iface h r d o, hr⟩

theorem State.finishes_refuse {s u : State} (h : u.iface = s.iface) {r : ResultCode} (hr : r ≠ .none) (d : Byte) :
    s.finishes (u.refuse r d) :=
  State.finishes_complete h hr d none

theorem State.finishes_moveEntry {s u : State} (h : u.iface = s.iface) (n : EntryIx) (f : Entry → Effect) :
    s.finishes (u.moveEntry n f) :=
  State.finishes_complete ((u.applyAt_asOne_arrivalFrame n f).iface.trans h) (by simp) 0 _

theorem State.finishes_completeWithImage {s u : State} (h : u.iface = s.iface) (n : EntryIx) :
    s.finishes (u.completeWithImage n) :=
  State.finishes_complete h (r := .ok) (by simp) 0 _

theorem State.finishes_loadEntry (s : State) (n : EntryIx) (d : Definition) : s.finishes (s.loadEntry n d) := by
  unfold State.loadEntry
  refine State.finishes_completeWithImage ?_ n
  rw [Arrival.asOne_iface, State.applyAt_state_iface]
  rfl

theorem State.finishes_modifyEntry {s u : State} (h : u.iface = s.iface) (n : EntryIx) (e : Entry) (d : Definition) :
    s.finishes (u.modifyEntry n e d) := by
  unfold State.modifyEntry
  refine State.finishes_completeWithImage ?_ n
  rw [Arrival.asOne_iface, Arrival.walkIf_state, ← h]
  split
  · rw [State.applyAt_state_iface]; rfl
  · rw [State.applyAt_state_iface]; rfl

theorem State.settleSelf_iface (s : State) : s.settleSelf.iface = s.iface := s.settleSelf_arrivalFrame.iface

theorem State.eventFrame.iface {s t : State} (h : s.eventFrame t) : t.iface = s.iface := by
  rw [h]

theorem State.configure_iface (s : State) (c : SiteConfig) : (s.configure c).iface = s.iface := by
  rw [State.configure_frame]

/-- The checks that a command which names an entry makes first, before what it does at the entry. -/
theorem State.finishes_onNamed {s u : State} (h : u.iface = s.iface) {f : EntryIx → State}
    (hf : ∀ n, u.namedEntry = some n → s.finishes (f n)) : s.finishes (u.onNamed f) :=
  State.onNamed_of (fun _ => State.finishes_refuse h (by simp) _) hf

theorem State.finishes_unlessProtected {s u : State} (h : u.iface = s.iface) {n : EntryIx} {f : State}
    (hf : s.finishes f) : s.finishes (u.unlessProtected n f) :=
  State.unlessProtected_of (fun _ => State.finishes_refuse h (by simp) _) fun _ => hf

theorem State.finishes_onOccupied {s u : State} (h : u.iface = s.iface) {n : EntryIx} {f : Entry → State}
    (hf : ∀ e, s.finishes (f e)) : s.finishes (u.onOccupied n f) :=
  State.onOccupied_of (fun _ => State.finishes_refuse h (by simp) _) fun e _ => hf e

theorem State.finishes_onRecord {s u : State} (h : u.iface = s.iface) {n : EntryIx} {f : Definition → State}
    (hf : ∀ d, s.finishes (f d)) : s.finishes (u.onRecord n f) :=
  State.onRecord_of (fun _ _ => State.finishes_refuse h (by simp) _) (fun _ _ => State.finishes_refuse h (by simp) _)
    fun _ _ => hf _

/-- A row that completes the command with one code, whatever the state, and leaves the state alone for any other code. -/
def Completes (code : Byte) (i : Instr) : Prop :=
  ∃ f : State → State, (∀ s, exec i s = .next (onCompletion code f s)) ∧ ∀ s : State, s.finishes (f s)

theorem load_completes : Completes 0x10 .load :=
  ⟨_, fun _ => rfl, fun s => State.finishes_onNamed rfl fun n _ => State.finishes_unlessProtected rfl (by
    split
    · exact State.finishes_refuse rfl (by simp) _
    · exact State.finishes_onRecord rfl fun d => s.finishes_loadEntry n d)⟩

theorem modify_completes : Completes 0x11 .modify :=
  ⟨_, fun _ => rfl, fun s => State.finishes_onNamed s.settleSelf_iface fun n _ =>
    State.finishes_unlessProtected s.settleSelf_iface (State.finishes_onOccupied s.settleSelf_iface fun e =>
      State.finishes_onRecord s.settleSelf_iface fun d => by
        split
        · exact State.finishes_refuse s.settleSelf_iface (by simp) _
        · exact State.finishes_modifyEntry s.settleSelf_iface n e d)⟩

theorem fetch_completes : Completes 0x12 .fetch :=
  ⟨_, fun _ => rfl, fun s => State.finishes_onNamed rfl fun n _ => by
    split
    · exact State.finishes_complete rfl (by simp) _ _
    · exact State.finishes_complete rfl (by simp) _ _⟩

theorem find_completes : Completes 0x13 .find :=
  ⟨_, fun _ => rfl, fun s => by
    split
    · exact State.finishes_complete rfl (by simp) _ _
    · unfold State.findZone
      split
      · exact State.finishes_complete rfl (by simp) _ _
      · exact State.finishes_refuse rfl (by simp) _
    · split
      · exact State.finishes_complete rfl (by simp) _ _
      · exact State.finishes_refuse rfl (by simp) _
    · exact State.finishes_refuse rfl (by simp) _⟩

theorem retire_completes : Completes 0x14 .retire :=
  ⟨_, fun _ => rfl, fun s => State.finishes_onNamed rfl fun n _ => State.finishes_unlessProtected rfl
    (State.finishes_onOccupied rfl fun e => by
      split
      · exact State.finishes_refuse rfl (by simp) _
      · exact State.finishes_complete (r := .ok) (u := (s.applyAt n Entry.retired).asOne.removeEntry n)
          (s.applyAt_asOne_arrivalFrame n Entry.retired).iface (by simp) _ _)⟩

theorem setProtect_completes (prg : Bool) : Completes 0x18 (.setProtect prg) :=
  ⟨_, fun _ => rfl, fun s => by
    simp only
    split
    · exact State.finishes_refuse rfl (by simp) _
    · split
      · exact State.finishes_complete rfl (by simp) _ _
      · exact State.finishes_refuse rfl (by simp) _⟩

theorem hold_completes : Completes 0x20 .hold :=
  ⟨_, fun _ => rfl, fun s => State.finishes_onNamed s.settleSelf_iface fun n _ =>
    State.finishes_unlessProtected s.settleSelf_iface (State.finishes_onOccupied s.settleSelf_iface fun e => by
      split
      · exact State.finishes_moveEntry s.settleSelf_iface _ _
      · exact State.finishes_refuse s.settleSelf_iface (by simp) _)⟩

theorem release_completes : Completes 0x21 .release :=
  ⟨_, fun _ => rfl, fun s => State.finishes_onNamed s.settleSelf_iface fun n _ =>
    State.finishes_unlessProtected s.settleSelf_iface (State.finishes_onOccupied s.settleSelf_iface fun e => by
      split
      · exact State.finishes_moveEntry (u := s.settleSelf.dropFollowsTo n) s.settleSelf_iface _ _
      · exact State.finishes_refuse s.settleSelf_iface (by simp) _)⟩

theorem rearm_completes : Completes 0x22 .rearm :=
  ⟨_, fun _ => rfl, fun s => State.finishes_onNamed s.settleSelf_iface fun n _ =>
    State.finishes_unlessProtected s.settleSelf_iface (State.finishes_onOccupied s.settleSelf_iface fun e => by
      split
      · exact State.finishes_moveEntry s.settleSelf_iface _ _
      · exact State.finishes_refuse s.settleSelf_iface (by simp) _)⟩

theorem start_completes : Completes 0x23 .start :=
  ⟨_, fun _ => rfl, fun s => State.finishes_onNamed s.settleSelf_iface fun n _ =>
    State.finishes_onOccupied s.settleSelf_iface fun e => by
      split
      · exact State.finishes_refuse s.settleSelf_iface (by simp) _
      · split
        · exact State.finishes_moveEntry s.settleSelf_iface _ _
        · exact State.finishes_refuse s.settleSelf_iface (by simp) _⟩

theorem stop_completes : Completes 0x24 .stop :=
  ⟨_, fun _ => rfl, fun s => State.finishes_onNamed s.settleSelf_iface fun n _ =>
    State.finishes_onOccupied s.settleSelf_iface fun e => by
      split
      · exact State.finishes_moveEntry s.settleSelf_iface _ _
      · exact State.finishes_refuse s.settleSelf_iface (by simp) _⟩

theorem confirm_completes : Completes 0x25 .confirm :=
  ⟨_, fun _ => rfl, fun s => by
    simp only
    split
    · exact State.finishes_refuse s.settleSelf_iface (by simp) _
    · refine State.finishes_complete ?_ (by simp) _ _
      rw [Arrival.asOne_iface, State.apply_state_iface, s.settleSelf_iface]⟩

theorem confirmFirst_completes : Completes 0x26 .confirmFirst :=
  ⟨_, fun _ => rfl, fun s => by
    simp only
    split
    · refine State.finishes_complete ?_ (by simp) _ _
      rw [Arrival.asOne_iface, State.applyAt_state_iface, s.settleSelf_iface]
    · exact State.finishes_refuse s.settleSelf_iface (by simp) _⟩

theorem setTime_completes : Completes 0x30 .setTime :=
  ⟨_, fun _ => rfl, fun s => by
    split
    · exact State.finishes_refuse rfl (by simp) _
    · exact State.finishes_complete (r := .ok) (u := s.secondsCome.setTime (Calendar.ofRecord s.input))
        s.secondsCome_eventFrame.iface (by simp) _ _⟩

theorem selectClock_completes : Completes 0x38 .selectClock :=
  ⟨_, fun _ => rfl, fun s => by
    split
    · exact State.finishes_refuse rfl (by simp) _
    · exact State.finishes_complete rfl (by simp) _ _⟩

theorem setFlags_completes : Completes 0x40 .setFlags :=
  ⟨_, fun _ => rfl, fun s => State.finishes_complete (State.changeEvent_iface _ s.levels) (r := .ok) (by simp) _ _⟩

theorem clearLatches_completes : Completes 0x41 .clearLatches :=
  ⟨_, fun _ => rfl, fun s => State.finishes_complete
    (State.changeEvent_iface (s.clearLatches (byteOf (s.input 0))) s.levels) (r := .ok) (by simp) _ _⟩

theorem setZones_completes : Completes 0x48 .setZones :=
  ⟨_, fun _ => rfl, fun s => by
    split
    · exact State.finishes_refuse rfl (by simp) _
    split
    · exact State.finishes_refuse rfl (by simp) _
    split
    · exact State.finishes_refuse rfl (by simp) _
    · refine State.finishes_complete ?_ (by simp) _ _
      rw [State.setZones, Arrival.asOne_iface, Arrival.walkIf_state, Arrival.quiet]⟩

theorem configure_completes : Completes 0x50 .configure :=
  ⟨_, fun _ => rfl, fun s => by
    split
    · exact State.finishes_refuse rfl (by simp) _
    split
    · exact State.finishes_refuse rfl (by simp) _
    split
    · exact State.finishes_refuse rfl (by simp) _
    · exact State.finishes_complete (s.configure_iface _) (by simp) _ _⟩

theorem State.goLive_iface (s : State) : s.goLive.iface = s.iface := by
  rw [State.goLive, Arrival.asOne_iface, Arrival.walkIf_state, State.recheckAll, State.apply_state_iface]

theorem engineStart_completes : Completes 0x52 .engineStart :=
  ⟨_, fun _ => rfl, fun s => by
    split
    · exact State.finishes_complete rfl (by simp) _ _
    split
    · exact State.finishes_complete ((State.goLive_iface (s.finishUnderway.setMode .live)).trans
        s.finishUnderway_eventFrame.iface) (r := .ok) (by simp) _ _
    · exact State.finishes_refuse rfl (by simp) _⟩

theorem State.stopAll_iface (s : State) :
    ((s.setMode .suspended).dropArrivals.resolveActive .stopped).asOne.iface = s.iface := by
  rw [Arrival.asOne_iface, State.resolveActive, State.apply_state_iface]
  rfl

theorem engineSuspend_completes : Completes 0x53 .engineSuspend :=
  ⟨_, fun _ => rfl, fun s => by
    split
    · exact State.finishes_complete ((State.stopAll_iface _).trans s.settleEnds_eventFrame.iface) (r := .ok) (by simp) _ _
    · exact State.finishes_complete rfl (by simp) _ _⟩

theorem nextNotice_completes : Completes 0x60 .nextNotice :=
  ⟨_, fun _ => rfl, fun s => by
    split
    · exact State.finishes_complete rfl (by simp) _ _
    split
    · split
      · exact State.finishes_complete rfl (by simp) _ _
      · exact State.finishes_refuse rfl (by simp) _
    · exact State.finishes_refuse rfl (by simp) _⟩

theorem read_completes {code : Byte} {i : Instr} {image : State → List Byte}
    (h : ∀ s, exec i s = .next (onCompletion code (fun s => s.complete .ok 0 (some (image s))) s)) : Completes code i :=
  ⟨_, h, fun _ => State.finishes_complete rfl (by simp) _ _⟩

/-- R168: an assigned code is completed by its own row. -/
theorem rowOf_completes (prg : Bool) {code : Byte} (h : assignedCodes.contains code = true) : Completes code (rowOf prg code) := by
  simp only [assignedCodes, List.contains_iff_mem, List.mem_cons, List.not_mem_nil, or_false] at h
  rcases h with rfl | rfl | rfl | rfl | rfl | rfl | rfl | rfl | rfl | rfl | rfl | rfl | rfl | rfl | rfl | rfl | rfl | rfl | rfl | rfl
    | rfl | rfl | rfl | rfl | rfl | rfl
  · exact load_completes
  · exact modify_completes
  · exact fetch_completes
  · exact find_completes
  · exact retire_completes
  · exact setProtect_completes prg
  · exact hold_completes
  · exact release_completes
  · exact rearm_completes
  · exact start_completes
  · exact stop_completes
  · exact confirm_completes
  · exact confirmFirst_completes
  · exact setTime_completes
  · exact read_completes fun _ => rfl
  · exact selectClock_completes
  · exact read_completes fun _ => rfl
  · exact setFlags_completes
  · exact clearLatches_completes
  · exact setZones_completes
  · exact read_completes fun _ => rfl
  · exact configure_completes
  · exact read_completes fun _ => rfl
  · exact engineStart_completes
  · exact engineSuspend_completes
  · exact nextNotice_completes

/-- R168: an unassigned code has no row of its own. -/
theorem rowOf_unassigned (prg : Bool) {code : Byte} (h : assignedCodes.contains code = false) :
    rowOf prg code = .unknownCommand := by
  have hne : ∀ b : Byte, b ∈ assignedCodes → code.toNat ≠ b.toNat := fun b hb he =>
    Bool.false_ne_true (h.symm.trans (List.contains_iff_mem.mpr (BitVec.eq_of_toNat_eq he ▸ hb)))
  simp only [assignedCodes, List.forall_mem_cons, List.not_mem_nil, false_imp_iff, implies_true, and_true,
    BitVec.reduceToNat] at hne
  unfold rowOf
  split
  case h_27 => rfl
  all_goals exact absurd ‹code.toNat = _› (by omega)

theorem exec_unknownCommand {s : State} {code : Byte} (hb : s.iface.busy = true) (hc : s.iface.code = some code)
    (h : assignedCodes.contains code = false) : exec .unknownCommand s = .next (s.refuse .unknownCommand code) := by
  show execUnknownCommand s = _
  simp only [execUnknownCommand, hc, hb, h, done, Bool.not_false, Bool.and_true, if_true]

theorem State.inProgress_iff (s : State) (code : Byte) :
    s.inProgress code = true ↔ s.iface.busy = true ∧ s.iface.code = some code := by
  simp [State.inProgress]

/-- Settles O3: an assigned code is completed by its own row, and any other code by UNKNOWN_COMMAND. -/
theorem commandInProgressCompletes : Obligations.CommandInProgressCompletes := by
  refine ⟨State.inProgress_iff, fun _ _ => rfl, fun s prg code hb hc => ⟨?_, fun h => ?_, fun other ho hne => ?_⟩⟩
  · cases h : assignedCodes.contains code with
    | false =>
      obtain ⟨r, d, hd, hr⟩ := State.finishes_refuse (s := s) rfl (r := .unknownCommand) (by simp) code
      exact ⟨_, r, d, rowOf_unassigned prg h ▸ exec_unknownCommand hb hc h, hd, hr⟩
    | true =>
      obtain ⟨f, hf, hfin⟩ := rowOf_completes prg h
      obtain ⟨r, d, hd, hr⟩ := hfin s
      exact ⟨_, r, d, (hf s).trans (by rw [onCompletion_taken _ _ _ ((s.inProgress_iff code).mpr ⟨hb, hc⟩)]), hd, hr⟩
  · exact ⟨_, exec_unknownCommand hb hc h, s.refuse_refuses _ _⟩
  · obtain ⟨f, hf, -⟩ := rowOf_completes prg ho
    rw [hf s, onCompletion_other]
    simp [State.inProgress, hc, Ne.symm hne]

/-! ### The state after reset and after a cold start -/

theorem State.reset_zone (z : ZoneIx) : State.reset.zones[z] = .free := by
  simp [State.reset]

theorem State.everyEntry_of_empty {s : State} (h : ∀ n : EntryIx, s.table[n] = none) (p : EntryIx → Entry → Prop) :
    s.everyEntry p := by
  intro n e he
  simp [h n] at he

/-- Settles O4: the table is empty, every zone is FREE, and the rest is read off the cold values. -/
theorem resetIsLawful : Obligations.ResetIsLawful where
  turn := ⟨List.nodup_nil, fun n => by rw [State.reset_slot]; simp [State.reset]⟩
  link := State.everyEntry_of_empty State.reset_slot _
  mode := fun _ => State.everyEntry_of_empty State.reset_slot _
  counter := State.everyEntry_of_empty State.reset_slot _
  budget := by unfold State.budgetLaw; decide
  owner := fun n z => by rw [State.reset_zone, State.reset_slot]; simp [Zone.owner, slotOwns]
  energy := fun n z h => by rw [State.reset_zone] at h; cases h
  calendar := by unfold State.calendarLaw; decide
  boundary := Or.inl rfl
  buffer := rfl
  crystal := by simp [State.crystalLaw, State.reset, Timebase.cold, Selector.candidate]
  candidate := by simp [State.candidateLaw, State.reset, Timebase.cold, Selector.candidate]
  prescaler := by simp [State.prescalerLaw, State.reset, Timebase.cold, Source.divisor]
  supply := by simp [State.supplyLaw, State.reset]
  dark := by simp [State.darkLaw, State.reset]
  held := State.heldLaw_of_not_held rfl

/-- Settles O5: after the loss of the retention mark COLD_START leaves the state after reset but for the pins. -/
theorem coldStartRow : Obligations.ColdStartRow := by
  intro s h
  refine ⟨_, exec_eq_afterRow _ s, afterRow_coldStart_slot h, ?_⟩
  rw [afterRow_coldStart h]
  refine ⟨rfl, rfl, rfl, rfl, show weekday Calendar.cold = 6 by decide, rfl, rfl, rfl, rfl, rfl, fun k => ?_,
    fun z => State.reset_zone z, rfl, rfl, rfl, rfl, rfl, rfl, rfl⟩
  simp [Sensor.coldStart]

/-! ### SET PROTECT -/

theorem exec_setProtect {s : State} (prg : Bool) (h : s.inProgress 0x18 = true) :
    exec (.setProtect prg) s = .next (if isBoundary (s.input 0) = false then (s.samplePrg prg).refuse .invalidField 0
      else if s.boundary ≤ s.input 0 ∨ prg = true then
        ({ s.samplePrg prg with boundary := s.input 0 } : State).complete .ok (byteOf (s.input 0)) none
      else (s.samplePrg prg).refuse .entryProtected (byteOf s.boundary)) := by
  show done (onCompletion 0x18 _ s) = _
  rw [onCompletion_taken _ _ _ h]
  simp only [done, Bool.not_eq_true', Bool.or_eq_true, decide_eq_true_eq]
  rfl

/-- Settles O13: a case for each of the three answers. -/
theorem setProtectMovesBoundary : Obligations.SetProtectMovesBoundary := by
  rintro s prg b hp rfl
  refine ⟨_, exec_setProtect prg hp, ?_⟩
  simp only [← isBoundary_iff, Bool.not_eq_true]
  cases hb : isBoundary (s.input 0) with
  | false => simp [State.completes, State.refuse, State.complete, State.samplePrg]
  | true =>
    by_cases hm : s.boundary ≤ s.input 0 ∨ prg = true
    · have hlow : s.input 0 < s.boundary → prg = false → False := fun hlt hprg => by
        rcases hm with hm | hm
        · omega
        · exact Bool.false_ne_true (hprg.symm.trans hm)
      simp [hm, State.completes, State.complete, State.samplePrg]
      exact fun h => (Bool.eq_false_or_eq_true prg).elim id fun h' => (hlow h h').elim
    · simp [hm, State.completes, State.refuse, State.complete, State.samplePrg]

end Sys2Proof.Machine
end

section
/-! One arrival at one entry: what it leaves of the entry, the zones and what is on its way; and the rows of HOLD, RELEASE, REARM,
START and STOP. -/

namespace Sys2Proof.Machine

/-! ### What an effect does to the part -/

/-- From `s` to `t` the effect `x` has been made at entry `n`, and nothing else of the table, the zones and what is on its way has moved. -/
structure State.Moved (s t : State) (n : EntryIx) (x : Effect) : Prop where
  slot : t.table[n] = some x.entry
  others : s.otherSlotsKept t n
  turn : t.turn = s.turn
  zones : s.zonesMoved t x.entry.defn.claim x.zones
  owed : s.handsOn t (s.effectGroup n x)

theorem State.oweGroup_handsOn (s : State) (g : FollowGroup) : s.handsOn (s.oweGroup g) g := by
  constructor
  · rintro h
    obtain ⟨walk, events⟩ := g
    obtain rfl : events = [] := h
    rw [State.oweGroup_none, State.oweWalks_owed]
  · intro h
    rw [State.oweGroup_some s g h]

theorem State.handsOn.of_owed {s t s' t' : State} {g : FollowGroup} (h : s.handsOn t g) (hs : s'.owed = s.owed)
    (ht : t'.owed = t.owed) : s'.handsOn t' g := by
  unfold State.handsOn at *
  rw [hs, ht]
  exact h

theorem State.applyAt_moved {s : State} {n : EntryIx} {e : Entry} (f : Entry → Effect) (he : s.table[n] = some e) :
    s.Moved (s.applyAt n f).asOne n (f e) where
  slot := by rw [Arrival.asOne_table, State.applyAt_table_same, he]; rfl
  others := fun m hm => by rw [Arrival.asOne_table, State.applyAt_table_other s n m f hm]
  turn := by rw [Arrival.asOne_turn, State.applyAt_state_turn]
  zones := fun z => by rw [Arrival.asOne_zones, State.applyAt_zones s n f e he]
  owed := by
    rw [State.applyAt_asOne s n f e he]
    exact (State.oweGroup_handsOn _ _).of_owed (s.applyAt_state_owed n f).symm rfl

section
variable {s t : State} {n : EntryIx} {x : Effect}

theorem State.Moved.complete (h : s.Moved t n x) (r : ResultCode) (d : Byte) (o : Option (List Byte)) :
    s.Moved (t.complete r d o) n x where
  slot := h.slot
  others := h.others
  turn := h.turn
  zones := h.zones
  owed := h.owed.of_owed rfl rfl

theorem State.Moved.zones_eq (h : s.Moved t n x) (hx : x.zones = .keep) : t.zones = s.zones := by
  ext z hz
  have := h.zones ⟨z, hz⟩
  simpa [hx, ZoneEffect.apply] using this

theorem State.Moved.owed_eq (h : s.Moved t n x) (hx : x.ended = none) :
    t.owed = { s.owed with walks := s.owed.walks + if x.causesWalk then 1 else 0 } :=
  h.owed.1 (by simp [State.effectGroup, hx])

/-- An effect that ends nothing, and moves no zone. -/
theorem State.Moved.owed_of_keep (h : s.Moved t n x) (hx : x.ended = none) (hz : x.zones = .keep) :
    t.owed = { s.owed with walks := s.owed.walks + if x.walk then 1 else 0 } := by
  rw [h.owed_eq hx]
  simp [Effect.causesWalk, hz]

theorem State.Moved.owed_of_only {e : Entry} (h : s.Moved t n (Effect.only e)) : t.owed = s.owed := by
  rw [h.owed_of_keep rfl rfl]
  simp

end

theorem State.moveEntry_moved {s : State} {n : EntryIx} {e : Entry} (f : Entry → Effect) (he : s.table[n] = some e) :
    s.Moved (s.moveEntry n f) n (f e) := by
  unfold State.moveEntry State.completeWithImage
  exact (State.applyAt_moved f he).complete _ _ _

theorem State.moveEntry_completes (s : State) (n : EntryIx) (f : Entry → Effect) : s.completes (s.moveEntry n f) .ok 0 :=
  State.completes_of_iface (s.applyAt_asOne_arrivalFrame n f).iface _ _ _

theorem State.completeWithImage_shows (s : State) (n : EntryIx) :
    (s.completeWithImage n).shows ((s.completeWithImage n).entryImage n) :=
  s.complete_shows _ _ _

theorem State.moveEntry_shows (s : State) (n : EntryIx) (f : Entry → Effect) :
    (s.moveEntry n f).shows ((s.moveEntry n f).entryImage n) :=
  State.completeWithImage_shows _ _

section
variable {s t : State}

theorem State.tableFrame.of_turn (h : s.tableFrame t) (hturn : t.turn = s.turn) :
    t = { s with table := t.table, zones := t.zones, owed := t.owed, iface := t.iface } := by
  unfold State.tableFrame at h
  rw [hturn] at h
  exact h

theorem State.tableFrame.of_zones (h : s.tableFrame t) (hzones : t.zones = s.zones) :
    t = { s with table := t.table, turn := t.turn, owed := t.owed, iface := t.iface } := by
  unfold State.tableFrame at h
  rw [hzones] at h
  exact h

theorem State.tableFrame.of_turn_zones (h : s.tableFrame t) (hturn : t.turn = s.turn) (hzones : t.zones = s.zones) :
    t = { s with table := t.table, owed := t.owed, iface := t.iface } := by
  unfold State.tableFrame at h
  rw [hturn, hzones] at h
  exact h

theorem State.arrivalFrame.of_turn (h : s.arrivalFrame t) (hturn : t.turn = s.turn) :
    t = { s with table := t.table, zones := t.zones, owed := t.owed } := by
  unfold State.arrivalFrame at h
  rw [hturn] at h
  exact h

theorem State.arrivalFrame.of_turn_zones (h : s.arrivalFrame t) (hturn : t.turn = s.turn) (hzones : t.zones = s.zones) :
    t = { s with table := t.table, owed := t.owed } := by
  unfold State.arrivalFrame at h
  rw [hturn, hzones] at h
  exact h

end

/-! ### The LEVEL re-check (R47, R48) -/

section
variable {s : State} {e : Entry}

theorem Definition.isLevel_iff (d : Definition) : d.isLevel = true ↔ d.kind = .pattern ∧ d.pattern.sense = .level := by
  simp [Definition.isLevel]

theorem Phase.isArmed_iff {p : Phase} : p.isArmed = true ↔ p = .armed := by
  cases p <;> simp [Phase.isArmed]

theorem Entry.recheckTakes_iff : e.recheckTakes s.view = true ↔ e.phase = .armed ∧ s.levelHolds e.defn := by
  simp only [Entry.recheckTakes, State.levelHolds, State.view, Bool.and_eq_true, Phase.isArmed_iff, Definition.isLevel_iff]
  tauto

theorem Entry.recheck_taken (hp : e.phase = .armed) (h : s.levelHolds e.defn) :
    e.recheck s.view = { Effect.only { e with phase := .due freshWait, snapshot := some s.levels } with walk := true } := by
  rw [Entry.recheck, if_pos (Entry.recheckTakes_iff.mpr ⟨hp, h⟩)]
  rfl

theorem Entry.recheck_passed (h : ¬ (e.phase = .armed ∧ s.levelHolds e.defn)) : e.recheck s.view = Effect.only e := by
  rw [Entry.recheck, if_neg (fun ht => h (Entry.recheckTakes_iff.mp ht))]

theorem Entry.arm_taken (h : s.levelHolds e.defn) :
    e.arm s.view = { Effect.only { e with phase := .due freshWait, snapshot := some s.levels } with walk := true } :=
  Entry.recheck_taken (e := { e with phase := .armed }) rfl h

theorem Entry.arm_passed (h : ¬ s.levelHolds e.defn) : e.arm s.view = Effect.only { e with phase := .armed } :=
  Entry.recheck_passed fun h' => h h'.2

end

/-! ### The resolution (R32) -/

/-- What a resolution makes of an entry before the re-check. -/
def Entry.settled (e : Entry) (o : EntryOutcome) (next : Phase) : Entry :=
  { e.noteOutcome o with phase := next, lastOutcome := some o }

section
variable {s : State} {e : Entry} {o : EntryOutcome} {next : Phase}

theorem Entry.settled_of_end (h : o.isEnd = true) (next : Phase) :
    e.settled o next = { e with phase := next, lastOutcome := some o, pending := e.noted .ending } := by
  cases o with
  | completed | aborted | capped | stopped => rfl
  | skipped | blocked | interrupted => cases h

theorem Entry.settled_of_skip (h : o = .skipped ∨ o = .blocked) (next : Phase) :
    e.settled o next = { e with phase := next, lastOutcome := some o, pending := e.noted .skip } := by
  rcases h with rfl | rfl <;> rfl

@[simp] theorem Entry.settled_defn (o : EntryOutcome) (next : Phase) : (e.settled o next).defn = e.defn := e.noteOutcome_defn o

theorem Entry.settle_entry (v : View) : (e.settle v o next).entry = ((e.settled o next).recheck v).entry := rfl

theorem Entry.settle_walk (v : View) : (e.settle v o next).walk = ((e.settled o next).recheck v).walk := rfl

/-- An entry that the re-check passes over. -/
theorem Entry.settle_passed (h : ¬ (next = .armed ∧ s.levelHolds e.defn)) :
    (e.settle s.view o next).entry = e.settled o next ∧ (e.settle s.view o next).walk = false := by
  rw [Entry.settle_entry, Entry.settle_walk, Entry.recheck_passed (e := e.settled o next) (by simpa [Entry.settled] using h)]
  exact ⟨rfl, rfl⟩

/-- An entry that the re-check makes DUE. -/
theorem Entry.settle_taken (hn : next = .armed) (h : s.levelHolds e.defn) :
    (e.settle s.view o next).entry = { e.settled o next with phase := .due freshWait, snapshot := some s.levels }
      ∧ (e.settle s.view o next).walk = true := by
  rw [Entry.settle_entry, Entry.settle_walk, Entry.recheck_taken (e := e.settled o next) hn (by simpa using h)]
  exact ⟨rfl, rfl⟩

/-- A resolution that is no end of a run, of an entry that owns no zones and that the re-check passes over. -/
theorem Entry.settle_eq_only (hzones : e.phase.ownsZones = false) (ho : o.isEnd = false)
    (h : ¬ (next = .armed ∧ s.levelHolds e.defn)) : e.settle s.view o next = Effect.only (e.settled o next) := by
  obtain ⟨hentry, hwalk⟩ := Entry.settle_passed (o := o) h
  have hz := Entry.settle_zones s.view o next e
  have hended := Entry.settle_ended s.view o next e
  rw [hzones] at hz
  rw [ho, Bool.and_false] at hended
  generalize e.settle s.view o next = x at *
  cases x
  cases hentry; cases hwalk; cases hz; cases hended
  rfl

/-- The walk and the follow events that a resolution leaves. -/
theorem State.effectGroup_settle (n : EntryIx) : s.effectGroup n (e.settle s.view o next) = s.endGroup n e o next := by
  have hwalk : (e.settle s.view o next).walk
      = (next == .armed && s.isLive && e.defn.isLevel && e.defn.pattern.satisfied s.levels 0) := by
    by_cases h : next = .armed ∧ s.levelHolds e.defn
    · obtain ⟨hn, hl⟩ := h
      rw [(Entry.settle_taken hn hl).2]
      obtain ⟨hlive, hk, hsense, hsat⟩ := hl
      rw [hn, hlive, hsat, (Definition.isLevel_iff e.defn).mpr ⟨hk, hsense⟩]
      rfl
    · rw [(Entry.settle_passed h).2, eq_comm, Bool.eq_false_iff]
      simp only [State.levelHolds] at h
      simpa [Definition.isLevel_iff, and_assoc] using h
  have hzones : ((e.settle s.view o next).zones == .release) = e.phase.ownsZones := by
    rw [Entry.settle_zones]; cases e.phase.ownsZones <;> rfl
  simp only [State.effectGroup, Effect.causesWalk, State.endGroup, hwalk, hzones, Entry.settle_defn, Entry.settle_ended]
  rw [Bool.or_comm]
  congr 1
  show (match (if s.isLive && o.isEnd then some o else none) with | some o => s.followLinks n o | none => []) = _
  cases s.isLive && o.isEnd <;> rfl

end

/-! ### The refusals of the lifecycle commands (R39) -/

/-- What HOLD does at the entry it names. -/
def State.holdAt (x : State) (n : EntryIx) (e : Entry) : State :=
  match e.held? x.view with
  | some y => x.moveEntry n fun _ => y
  | none => x.wrongState e

/-- What RELEASE does at the entry it names. -/
def State.releaseAt (x : State) (n : EntryIx) (e : Entry) : State :=
  if e.phase = .held then (x.dropFollowsTo n).moveEntry n (Entry.arm x.view) else x.wrongState e

/-- What REARM does at the entry it names. -/
def State.rearmAt (x : State) (n : EntryIx) (e : Entry) : State :=
  if e.phase = .spent then x.moveEntry n (Entry.arm x.view) else x.wrongState e

/-- What START does at the entry it names. -/
def State.startAt (x : State) (n : EntryIx) (e : Entry) : State :=
  if !x.isLive then x.refuse .engineNotLive 0
  else if e.phase = .armed then x.moveEntry n (Entry.trigger x.view x.levels none)
  else x.wrongState e

/-- What STOP does at the entry it names. -/
def State.stopAt (x : State) (n : EntryIx) (e : Entry) : State :=
  if e.phase.isActive then x.moveEntry n (Entry.resolve x.view .stopped) else x.wrongState e

section
variable {s : State}

theorem exec_hold (h : s.inProgress 0x20 = true) : exec .hold s = .next (s.settleSelf.onNamed fun n =>
    s.settleSelf.unlessProtected n (s.settleSelf.onOccupied n (s.settleSelf.holdAt n))) := by
  show done (onCompletion 0x20 _ s) = _
  rw [onCompletion_taken _ _ _ h]; rfl

theorem exec_release (h : s.inProgress 0x21 = true) : exec .release s = .next (s.settleSelf.onNamed fun n =>
    s.settleSelf.unlessProtected n (s.settleSelf.onOccupied n (s.settleSelf.releaseAt n))) := by
  show done (onCompletion 0x21 _ s) = _
  rw [onCompletion_taken _ _ _ h]; rfl

theorem exec_rearm (h : s.inProgress 0x22 = true) : exec .rearm s = .next (s.settleSelf.onNamed fun n =>
    s.settleSelf.unlessProtected n (s.settleSelf.onOccupied n (s.settleSelf.rearmAt n))) := by
  show done (onCompletion 0x22 _ s) = _
  rw [onCompletion_taken _ _ _ h]; rfl

theorem exec_start (h : s.inProgress 0x23 = true) : exec .start s = .next (s.settleSelf.onNamed fun n =>
    s.settleSelf.onOccupied n (s.settleSelf.startAt n)) := by
  show done (onCompletion 0x23 _ s) = _
  rw [onCompletion_taken _ _ _ h]; rfl

theorem exec_stop (h : s.inProgress 0x24 = true) : exec .stop s = .next (s.settleSelf.onNamed fun n =>
    s.settleSelf.onOccupied n (s.settleSelf.stopAt n)) := by
  show done (onCompletion 0x24 _ s) = _
  rw [onCompletion_taken _ _ _ h]; rfl

/-- The refusals of a command that names an entry, makes no protection check where `free` holds, needs LIVE where `live` holds, and acts
on an entry in a state that `accepts` holds of. -/
theorem State.lifecycle_refusals {x t : State} {free live : Prop} {accepts : Phase → Bool} {f : EntryIx → Entry → State}
    (hguarded : ¬ free → t = x.onNamed fun n => x.unlessProtected n (x.onOccupied n (f n)))
    (hfree : free → t = x.onNamed fun n => x.onOccupied n (f n))
    (hlive : ∀ n e, live → x.isLive = false → f n e = x.refuse .engineNotLive 0)
    (hwrong : ∀ n e, (live → x.isLive = true) → accepts e.phase = false → f n e = x.wrongState e) :
    (x.namedEntry = none → x.refuses t .badIndex 0)
      ∧ ∀ n : EntryIx, x.namedEntry = some n →
        (¬ free → x.isProtected n = true → x.refuses t .entryProtected (byteOf x.boundary))
        ∧ (free ∨ x.isProtected n = false →
          (x.table[n] = none → x.refuses t .emptySlot 0)
          ∧ ∀ e, x.table[n] = some e →
            (live → x.isLive = false → x.refuses t .engineNotLive 0)
            ∧ ((live → x.isLive = true) → accepts e.phase = false → x.refuses t .wrongState (byteOf e.phase.code))) := by
  have ht : ∀ n, x.namedEntry = some n → (free ∨ x.isProtected n = false) → t = x.onOccupied n (f n) := fun n hn h => by
    by_cases hf : free
    · rw [hfree hf, State.onNamed_some hn]
    · rw [hguarded hf, State.onNamed_some hn, State.unlessProtected_taken (h.resolve_left hf)]
  refine ⟨fun hn => ?_, fun n hn => ⟨fun hf hp => ?_, fun h => ⟨fun he => ?_, fun e he => ⟨fun hl hnl => ?_, fun hl ha => ?_⟩⟩⟩⟩
  · have : t = x.refuse .badIndex 0 := by
      by_cases hf : free
      · rw [hfree hf, State.onNamed_none hn]
      · rw [hguarded hf, State.onNamed_none hn]
    exact this ▸ x.refuse_refuses _ _
  · rw [hguarded hf, State.onNamed_some hn, State.unlessProtected_refused hp]
    exact x.refuse_refuses _ _
  · rw [ht n hn h, State.onOccupied_refused he]
    exact x.refuse_refuses _ _
  · rw [ht n hn h, State.onOccupied_taken he, hlive n e hl hnl]
    exact x.refuse_refuses _ _
  · rw [ht n hn h, State.onOccupied_taken he, hwrong n e hl ha]
    exact x.refuse_refuses _ _

theorem Entry.held?_eq_none {v : View} {e : Entry} (h : (e.phase != .held && e.phase != .spent) = false) : e.held? v = none := by
  unfold Entry.held?
  cases hp : e.phase <;> simp [hp] at h ⊢

/-- Settles O18: the five commands make their checks in one order. -/
theorem lifecycleRefusals : Obligations.LifecycleRefusals := by
  rintro s x c accepts rfl (⟨rfl, hp, rfl⟩ | ⟨rfl, hp, rfl⟩ | ⟨rfl, hp, rfl⟩ | ⟨rfl, hp, rfl⟩ | ⟨rfl, hp, rfl⟩)
  · refine ⟨_, exec_hold hp, ?_⟩
    simpa using State.lifecycle_refusals (f := s.settleSelf.holdAt) (free := False) (live := False)
      (accepts := fun p => p != .held && p != .spent) (fun _ => rfl) False.elim (fun _ _ h => h.elim)
      (fun n e _ ha => by rw [State.holdAt, Entry.held?_eq_none ha])
  · refine ⟨_, exec_release hp, ?_⟩
    simpa using State.lifecycle_refusals (f := s.settleSelf.releaseAt) (free := False) (live := False)
      (accepts := fun p => p == .held) (fun _ => rfl) False.elim
      (fun _ _ h => h.elim) (fun n e _ ha => by rw [State.releaseAt, if_neg (by simpa using ha)])
  · refine ⟨_, exec_rearm hp, ?_⟩
    simpa using State.lifecycle_refusals (f := s.settleSelf.rearmAt) (free := False) (live := False)
      (accepts := fun p => p == .spent) (fun _ => rfl) False.elim
      (fun _ _ h => h.elim) (fun n e _ ha => by rw [State.rearmAt, if_neg (by simpa using ha)])
  · refine ⟨_, exec_start hp, ?_⟩
    simpa using State.lifecycle_refusals (f := s.settleSelf.startAt) (free := True) (live := True)
      (accepts := fun p => p == .armed) (fun h => (h trivial).elim) (fun _ => rfl) (fun _ _ _ hl => by simp [State.startAt, hl])
      (fun n e hl ha => by rw [State.startAt, hl trivial, if_neg (by simp), if_neg (by simpa using ha)])
  · refine ⟨_, exec_stop hp, ?_⟩
    simpa using State.lifecycle_refusals (f := s.settleSelf.stopAt) (free := True) (live := False) (accepts := Phase.isActive)
      (fun h => (h trivial).elim) (fun _ => rfl) (fun _ _ h => h.elim)
      (fun n e _ ha => by rw [State.stopAt, if_neg (by simp [ha])])

end

/-! ### The lifecycle commands taken -/

theorem Entry.held?_of_inactive {v : View} {e : Entry} (hh : e.phase ≠ .held) (hs : e.phase ≠ .spent)
    (h : e.phase.isActive = false) : e.held? v = some (Effect.only { e with phase := .held }) := by
  unfold Entry.held?
  cases hp : e.phase <;> simp_all [Phase.isActive]

theorem Entry.held?_of_active {v : View} {e : Entry} (h : e.phase.isActive = true) : e.held? v = some (e.holdActive v) := by
  unfold Entry.held?
  cases hp : e.phase <;> simp_all [Phase.isActive]

/-- What a command at one entry leaves beside its entry, the zones and what is on its way. -/
theorem State.moveEntry_row {x : State} {n : EntryIx} {e : Entry} (f : Entry → Effect) (he : x.table[n] = some e) :
    x.otherSlotsKept (x.moveEntry n f) n ∧ x.completes (x.moveEntry n f) .ok 0
      ∧ (x.moveEntry n f).shows ((x.moveEntry n f).entryImage n)
      ∧ x.moveEntry n f = { x with
          table := (x.moveEntry n f).table, zones := (x.moveEntry n f).zones, owed := (x.moveEntry n f).owed
          iface := (x.moveEntry n f).iface } :=
  ⟨(State.moveEntry_moved f he).others, x.moveEntry_completes n f, x.moveEntry_shows n f,
    (x.moveEntry_tableFrame n f).of_turn (State.moveEntry_moved f he).turn⟩

/-- Settles O19: an inactive entry is moved by itself, an active one by a resolution into HELD. -/
theorem holdRow : Obligations.HoldRow := by
  rintro s x n e hp rfl hn hb he hh hs
  generalize hx : s.settleSelf = x at *
  have hexec : ∀ y, e.held? x.view = some y → exec .hold s = .next (x.moveEntry n fun _ => y) := fun y hy => by
    rw [exec_hold hp, hx, State.onNamed_some hn, State.unlessProtected_taken hb, State.onOccupied_taken he, State.holdAt, hy]
  cases ha : e.phase.isActive with
  | false =>
    have hm := State.moveEntry_moved (fun _ => Effect.only { e with phase := .held }) he
    refine ⟨_, _, hexec _ (Entry.held?_of_inactive hh hs ha), hm.slot, rfl, fun _ => ⟨rfl, hm.owed_of_only, fun z => ?_⟩,
      fun h => (Bool.false_ne_true h).elim, State.moveEntry_row _ he⟩
    rw [hm.zones_eq rfl]
  | true =>
    have hm := State.moveEntry_moved (fun _ => e.holdActive x.view) he
    have hentry : (e.holdActive x.view).entry = e.settled .stopped .held := (Entry.settle_passed (by simp)).1
    refine ⟨_, _, hexec _ (Entry.held?_of_active ha), hm.slot, by rw [hentry]; rfl, fun h => (Bool.false_ne_true h.symm).elim,
      fun _ => ⟨by rw [hentry, Entry.settled_of_end rfl], ?_, ?_⟩, State.moveEntry_row _ he⟩
    · simpa [Entry.holdActive] using hm.zones
    · have := hm.owed
      rw [Entry.holdActive, State.effectGroup_settle] at this
      simpa [Entry.holdActive, State.endGroup, EntryOutcome.isEnd, show (Phase.held == Phase.armed) = false from rfl] using this

/-- What RELEASE and REARM make of an entry, from the state `y` in which it is reached. -/
theorem State.moveEntry_arm {x y : State} {n : EntryIx} {e : Entry} (hview : y.view = x.view) (he : y.table[n] = some e) :
    ∃ e', (y.moveEntry n (Entry.arm x.view)).table[n] = some e'
      ∧ (¬ x.levelHolds e.defn → e' = { e with phase := .armed } ∧ (y.moveEntry n (Entry.arm x.view)).owed = y.owed)
      ∧ (x.levelHolds e.defn →
          e' = { e with phase := .due freshWait, snapshot := some x.levels }
            ∧ (y.moveEntry n (Entry.arm x.view)).owed = { y.owed with walks := y.owed.walks + 1 }) := by
  have hm := State.moveEntry_moved (Entry.arm x.view) he
  refine ⟨_, hm.slot, fun hl => ?_, fun hl => ?_⟩
  · rw [Entry.arm_passed hl] at hm ⊢
    exact ⟨rfl, hm.owed_of_only⟩
  · rw [Entry.arm_taken hl] at hm ⊢
    exact ⟨rfl, hm.owed_of_keep rfl rfl⟩

theorem State.moveEntry_arm_zones {v : View} {y : State} {n : EntryIx} {e : Entry} (he : y.table[n] = some e) :
    (y.moveEntry n (Entry.arm v)).zones = y.zones :=
  (State.moveEntry_moved (Entry.arm v) he).zones_eq (Entry.recheck_zones _ _)

theorem State.links_of_owed {s t : State} (h : t.owed = s.owed) : t.links = s.links := by
  unfold State.links; rw [h]

/-- Settles O20: both commands arm the entry; RELEASE drops the follow events to it first. -/
theorem releaseAndRearmRows : Obligations.ReleaseAndRearmRows := by
  rintro s x y c n e rfl (⟨rfl, hp, hphase, rfl⟩ | ⟨rfl, hp, hphase, rfl⟩) hn hb he
  · generalize hx : s.settleSelf = x at *
    have hexec : exec .release s = .next ((x.dropFollowsTo n).moveEntry n (Entry.arm x.view)) := by
      rw [exec_release hp, hx, State.onNamed_some hn, State.unlessProtected_taken hb, State.onOccupied_taken he,
        State.releaseAt, if_pos hphase]
    have hm := State.moveEntry_moved (s := x.dropFollowsTo n) (Entry.arm x.view) he
    obtain ⟨e', hslot, hpassed, htaken⟩ := State.moveEntry_arm (x := x) (y := x.dropFollowsTo n) (n := n) rfl he
    refine ⟨_, e', hexec, hslot, hpassed, htaken, fun _ l => ?_, hm.others, State.moveEntry_completes _ _ _,
      State.moveEntry_shows _ _ _, ?_⟩
    · have hl : ((x.dropFollowsTo n).moveEntry n (Entry.arm x.view)).links = (x.dropFollowsTo n).links := by
        by_cases h : x.levelHolds e.defn
        · exact (State.links_of_owed (s := ({ x.dropFollowsTo n with
            owed := { (x.dropFollowsTo n).owed with walks := (x.dropFollowsTo n).owed.walks + 1 } } : State)) (htaken h).2).trans rfl
        · exact State.links_of_owed (hpassed h).2
      rw [hl, State.dropFollowsTo_links]
      simp
    · exact ((x.dropFollowsTo_tableFrame n).trans (State.moveEntry_tableFrame _ _ _)).of_turn_zones hm.turn
        (State.moveEntry_arm_zones (y := x.dropFollowsTo n) he)
  · generalize hx : s.settleSelf = x at *
    have hexec : exec .rearm s = .next (x.moveEntry n (Entry.arm x.view)) := by
      rw [exec_rearm hp, hx, State.onNamed_some hn, State.unlessProtected_taken hb, State.onOccupied_taken he,
        State.rearmAt, if_pos hphase]
    have hm := State.moveEntry_moved (Entry.arm x.view) he
    obtain ⟨e', hslot, hpassed, htaken⟩ := State.moveEntry_arm (x := x) rfl he
    exact ⟨_, e', hexec, hslot, hpassed, htaken, nofun, hm.others, State.moveEntry_completes _ _ _, State.moveEntry_shows _ _ _,
      (State.moveEntry_tableFrame _ _ _).of_turn_zones hm.turn (State.moveEntry_arm_zones he)⟩

theorem Definition.afterUse_eq (d : Definition) : d.afterUse = if d.rep = .once then .spent else .armed := by
  unfold Definition.afterUse
  cases d.rep <;> rfl

/-- A trigger at an ARMED entry. -/
theorem Entry.trigger_armed {v : View} {e : Entry} {levels : Levels} {snapshot : Option Levels} (hl : v.live = true)
    (hp : e.phase = .armed) :
    e.trigger v levels snapshot
      = if e.defn.permitHolds levels = true then
          { Effect.only { e with phase := .due freshWait, snapshot := snapshot } with walk := true }
        else ({ e with snapshot := snapshot } : Entry).resolve v .blocked := by
  obtain ⟨defn, phase, _, _, _, _, _, _⟩ := e
  obtain rfl : phase = .armed := hp
  rw [Entry.trigger, if_pos hl]
  rfl

/-- A trigger at an ARMED entry whose permit holds. -/
theorem Entry.trigger_due {v : View} {e : Entry} {levels : Levels} {snapshot : Option Levels} (hl : v.live = true)
    (hp : e.phase = .armed) (h : e.defn.permitHolds levels = true) :
    e.trigger v levels snapshot
      = { Effect.only { e with phase := .due freshWait, snapshot := snapshot } with walk := true } := by
  rw [Entry.trigger_armed hl hp, if_pos h]

/-- An entry whose permit is false at the current levels is not re-checked into DUE. -/
theorem Entry.not_levelHolds_of_permit {s : State} {d : Definition} (h : d.permitHolds s.levels = false) : ¬ s.levelHolds d := by
  rintro ⟨-, -, -, hsat⟩
  rw [Definition.permitHolds, hsat, Bool.or_true] at h
  cases h

/-- A trigger at an ARMED entry whose permit is false at the current levels. -/
theorem Entry.trigger_blocked {s : State} {e : Entry} {snapshot : Option Levels} (hl : s.isLive = true)
    (hp : e.phase = .armed) (h : e.defn.permitHolds s.levels = false) :
    e.trigger s.view s.levels snapshot = Effect.only { e with
      phase := if e.defn.rep = .once then .spent else .armed
      snapshot := snapshot
      lastOutcome := some .blocked
      pending := e.noted .skip } := by
  rw [Entry.trigger_armed hl hp, if_neg (by simp [h]), Entry.resolve,
    Entry.settle_eq_only (e := { e with snapshot := snapshot }) (by rw [hp]; rfl) rfl
      fun h' => Entry.not_levelHolds_of_permit h h'.2,
    Entry.settled_of_skip (Or.inr rfl), Definition.nextPhase_of_unconfirmed _ (Or.inr (Or.inr rfl)), Definition.afterUse_eq]
  rfl

/-- Settles O21: START is a trigger at an ARMED entry, with the permit read at the current levels. -/
theorem startRow : Obligations.StartRow := by
  rintro s x n e hp rfl hn hl he ha
  generalize hx : s.settleSelf = x at *
  have hexec : exec .start s = .next (x.moveEntry n (Entry.trigger x.view x.levels none)) := by
    rw [exec_start hp, hx, State.onNamed_some hn, State.onOccupied_taken he, State.startAt, hl, if_neg (by simp),
      if_pos ha]
  have hm := State.moveEntry_moved (Entry.trigger x.view x.levels none) he
  refine ⟨_, _, hexec, hm.slot, ?_, fun h => ?_, fun h => ?_, hm.others, State.moveEntry_completes _ _ _,
    State.moveEntry_shows _ _ _,
    (State.moveEntry_tableFrame _ _ _).of_turn_zones hm.turn (hm.zones_eq (Entry.trigger_zones _ _ _ _))⟩
  · cases h : e.defn.permitHolds x.levels with
    | true => rw [Entry.trigger_due hl ha h]; rfl
    | false => rw [Entry.trigger_blocked hl ha h]; rfl
  · rw [Entry.trigger_due hl ha h] at hm ⊢
    exact ⟨rfl, hm.owed_of_keep rfl rfl⟩
  · rw [Entry.trigger_blocked hl ha h] at hm ⊢
    exact ⟨rfl, hm.owed_of_only⟩

/-- Settles O22: STOP is a resolution STOPPED, and its re-check is that of an entry that enters ARMED. -/
theorem stopRow : Obligations.StopRow := by
  rintro s x n e hp rfl hn he ha
  generalize hx : s.settleSelf = x at *
  have hexec : exec .stop s = .next (x.moveEntry n (Entry.resolve x.view .stopped)) := by
    rw [exec_stop hp, hx, State.onNamed_some hn, State.onOccupied_taken he, State.stopAt, if_pos ha]
  have hm := State.moveEntry_moved (Entry.resolve x.view .stopped) he
  have hnext : e.defn.nextPhase .stopped = if e.defn.rep = .once then .spent else .armed :=
    (Definition.nextPhase_of_unconfirmed _ (Or.inl rfl)).trans (Definition.afterUse_eq _)
  have hsettled := Entry.settled_of_end (e := e) (o := .stopped) rfl (e.defn.nextPhase .stopped)
  simp only [Entry.resolve] at hm
  refine ⟨_, _, hexec, hm.slot, Entry.settle_lastOutcome _ _ _ _, ?_, ?_, Entry.settle_defn _ _ _ _, fun h => ?_, fun h hl => ?_,
    fun h hl => ?_, ?_, ?_, State.moveEntry_row _ he⟩
  · rw [Entry.settle_entry, Entry.recheck_pending, hsettled]
  · by_cases h : e.defn.nextPhase .stopped = .armed ∧ x.levelHolds e.defn
    · rw [(Entry.settle_taken h.1 h.2).1, hsettled]
    · rw [(Entry.settle_passed h).1, hsettled]
  · rw [hnext, if_pos h, (Entry.settle_passed (by simp)).1]
    exact ⟨rfl, rfl⟩
  · rw [hnext, if_neg (by simp [h]), (Entry.settle_passed fun h' => hl h'.2).1]
    exact ⟨rfl, rfl⟩
  · rw [hnext, if_neg (by simp [h]), (Entry.settle_taken rfl hl).1]
    exact ⟨rfl, rfl⟩
  · simpa using hm.zones
  · rw [← hnext, ← State.effectGroup_settle]
    exact hm.owed

end Sys2Proof.Machine
end

section
/-! Arrivals at every entry, orders by priority, and the rows of LOAD, RETIRE, CONFIRM and CONFIRM FIRST. -/

namespace Sys2Proof.Machine

/-! ### The lowest index of which something holds -/

theorem find?_finRange_eq_some {k : Nat} {p : Fin k → Bool} {m : Fin k} :
    (List.finRange k).find? p = some m ↔ p m = true ∧ ∀ j, j < m → p j = false := by
  rw [List.find?_eq_some_iff_getElem]
  refine and_congr_right fun _ => ⟨?_, fun h => ⟨m.val, by simp, by simp, fun j hj => ?_⟩⟩
  · rintro ⟨i, hi, rfl, h⟩ j hj
    have := h j.val (by simpa [Fin.lt_def] using hj)
    simpa using this
  · simpa using h ⟨j, hj.trans m.isLt⟩ hj

theorem find?_finRange_eq_none {k : Nat} {p : Fin k → Bool} : (List.finRange k).find? p = none ↔ ∀ m, p m = false := by
  simp [List.find?_eq_none]

/-! ### One arrival at every entry -/

section
variable {s : State} {f : EntryIx → Entry → Effect}

theorem State.mem_apply_groups {g : FollowGroup} :
    g ∈ (s.apply f).groups ↔ ∃ n e, s.table[n] = some e ∧ g = s.effectGroup n (f n e) ∧ (g.walk || g.events != []) = true := by
  simp only [State.apply, List.mem_filter, List.mem_map, List.mem_filterMap, State.effectAt, Option.map_map, Option.map_eq_some_iff,
    List.mem_finRange, true_and]
  constructor
  · rintro ⟨⟨x, ⟨n, e, he, rfl⟩, rfl⟩, hg⟩
    exact ⟨n, e, he, rfl, hg⟩
  · rintro ⟨n, e, he, rfl, hg⟩
    exact ⟨⟨_, ⟨n, e, he, rfl⟩, rfl⟩, hg⟩

theorem State.apply_zones_keep (h : ∀ (n : EntryIx) e, s.table[n] = some e → (f n e).zones = .keep) :
    (s.apply f).state.zones = s.zones := by
  ext z hz
  have hmoving : ((List.finRange 48).filterMap fun n => (s.effectAt f n).map fun x => (n, x)).filter
      (fun x => x.2.zones != .keep) = [] := by
    simp only [List.filter_eq_nil_iff, List.mem_filterMap, State.effectAt, Option.map_map, Option.map_eq_some_iff]
    rintro _ ⟨n, -, e, he, rfl⟩
    simp [h n e he]
  have := s.apply_zones f ⟨z, hz⟩
  rw [hmoving] at this
  simpa [zoneEffectOf, ZoneEffect.apply] using this

/-- An arrival that ends nothing and moves no zone causes one walk where it causes one at some entry, and hands on nothing else. -/
theorem State.apply_asOne_owed (h : ∀ (n : EntryIx) e, s.table[n] = some e → (f n e).zones = .keep ∧ (f n e).ended = none)
    {walks : Bool} (hw : walks = true ↔ ∃ (n : EntryIx) (e : Entry), s.table[n] = some e ∧ (f n e).walk = true) :
    (s.apply f).asOne.owed = { s.owed with walks := s.owed.walks + if walks then 1 else 0 } := by
  have hgroup : ∀ (n : EntryIx) (e : Entry), s.table[n] = some e → s.effectGroup n (f n e) = { walk := (f n e).walk, events := [] } :=
    fun n e he => by simp [State.effectGroup, Effect.causesWalk, (h n e he).1, (h n e he).2]
  have hevents : ((s.apply f).groups.flatMap fun g => g.events) = [] := by
    rw [List.flatMap_eq_nil_iff]
    intro g hg
    obtain ⟨n, e, he, rfl, -⟩ := State.mem_apply_groups.mp hg
    rw [hgroup n e he]
  have hwalk : ((s.apply f).groups.any fun g => g.walk) = walks := by
    rw [Bool.eq_iff_iff, List.any_eq_true, hw]
    constructor
    · rintro ⟨g, hg, hgw⟩
      obtain ⟨n, e, he, rfl, -⟩ := State.mem_apply_groups.mp hg
      rw [hgroup n e he] at hgw
      exact ⟨n, e, he, hgw⟩
    · rintro ⟨n, e, he, hfw⟩
      exact ⟨_, State.mem_apply_groups.mpr ⟨n, e, he, rfl, by rw [hgroup n e he]; simp [hfw]⟩, by rw [hgroup n e he]; exact hfw⟩
  rw [Arrival.asOne, hevents, hwalk, State.oweGroup_none, State.oweWalks_owed, State.apply_state_owed]

theorem State.apply_asOne_slot (n : EntryIx) :
    (s.apply f).asOne.table[n] = (s.table[n]).map fun e => (f n e).entry := by
  rw [Arrival.asOne_table, State.apply_table]

end

/-! ### Orders by priority (R37, R129, R151) -/

/-- The members of a list of which `q` holds at some priority, highest priority first and in the order of the list among equals. -/
def byPriority (l : List EntryIx) (q : EntryIx → Fin 8 → Bool) : List EntryIx :=
  (List.finRange 8).reverse.flatMap fun p => l.filter fun n => q n p

section
variable {l : List EntryIx} {q : EntryIx → Fin 8 → Bool} {R : EntryIx → EntryIx → Prop}

theorem mem_byPriority {n : EntryIx} : n ∈ byPriority l q ↔ n ∈ l ∧ ∃ p, q n p = true := by
  simp [byPriority, List.mem_flatMap]

theorem pairwise_byPriority (hl : l.Pairwise R) (hq : ∀ n p p', q n p = true → q n p' = true → p = p') :
    (byPriority l q).Pairwise fun a b => ∀ p p', q a p = true → q b p' = true → p' < p ∨ (p' = p ∧ R a b) := by
  refine List.pairwise_flatMap.mpr ⟨fun p _ => ?_, List.pairwise_reverse.mpr ((List.pairwise_lt_finRange 8).imp fun {p p'} h => ?_)⟩
  · refine (hl.filter _).imp_of_mem fun {a b} ha hb hab p₁ p₂ h₁ h₂ => Or.inr ⟨?_, hab⟩
    rw [hq a p₁ p h₁ (List.mem_filter.mp ha).2, hq b p₂ p h₂ (List.mem_filter.mp hb).2]
  · intro a ha b hb p₁ p₂ h₁ h₂
    rw [hq a p₁ p' h₁ (List.mem_filter.mp ha).2, hq b p₂ p h₂ (List.mem_filter.mp hb).2]
    exact Or.inl h

/-- The first of the order is the member that no other comes before. -/
theorem head_byPriority (hl : l.Pairwise R) (hq : ∀ n p p', q n p = true → q n p' = true → p = p') {n : EntryIx} {p : Fin 8}
    (hn : n ∈ l) (hp : q n p = true) (hbest : ∀ m p', m ∈ l → q m p' = true → p' < p ∨ (p' = p ∧ ¬ R m n)) :
    ∃ rest, byPriority l q = n :: rest := by
  have hmem : n ∈ byPriority l q := mem_byPriority.mpr ⟨hn, p, hp⟩
  have hpairs := pairwise_byPriority hl hq
  cases horder : byPriority l q with
  | nil => simp [horder] at hmem
  | cons m rest =>
    rw [horder] at hmem hpairs
    rcases List.mem_cons.mp hmem with rfl | hrest
    · exact ⟨rest, rfl⟩
    · obtain ⟨hm, p', hp'⟩ := mem_byPriority.mp (horder ▸ List.mem_cons_self : m ∈ byPriority l q)
      have hbefore := (List.pairwise_cons.mp hpairs).1 n hrest p' p hp' hp
      rcases hbest m p' hm hp' with h | ⟨h, hR⟩
      · rcases hbefore with h' | ⟨h', -⟩
        · exact absurd (h.trans h') (lt_irrefl _)
        · exact absurd h (h' ▸ lt_irrefl _)
      · rcases hbefore with h' | ⟨-, h'⟩
        · exact absurd h' (h ▸ lt_irrefl _)
        · exact absurd h' hR

end

theorem pairwise_idxOf {l : List EntryIx} (h : l.Nodup) : l.Pairwise fun a b => l.idxOf a < l.idxOf b :=
  List.pairwise_iff_getElem.mpr fun i j hi hj hij => by rwa [h.idxOf_getElem i hi, h.idxOf_getElem j hj]

/-! ### LOAD -/

section
variable {s : State} {n : EntryIx}

/-- What LOAD does at the slot it names. -/
def State.loadAt (s : State) (n : EntryIx) : State :=
  match s.table[n] with
  | some _ => s.refuse .occupied 0
  | none => s.onRecord n (s.loadEntry n)

theorem State.loadAt_empty (h : s.table[n] = none) : s.loadAt n = s.onRecord n (s.loadEntry n) := by
  simp only [State.loadAt, h]

theorem State.loadAt_occupied (h : s.table[n].isSome = true) : s.loadAt n = s.refuse .occupied 0 := by
  obtain ⟨e, he⟩ := Option.isSome_iff_exists.mp h
  simp only [State.loadAt, he]

theorem exec_load (h : s.inProgress 0x10 = true) :
    exec .load s = .next (s.onNamed fun n => s.unlessProtected n (s.loadAt n)) := by
  show done (onCompletion 0x10 _ s) = _
  rw [onCompletion_taken _ _ _ h]; rfl

/-- The state in which LOAD has placed its entry. -/
def State.loaded (s : State) (n : EntryIx) (d : Definition) : State := s.place n (Entry.fresh d (heldBit s.input) s.levels)

theorem State.loadEntry_eq (d : Definition) : s.loadEntry n d = (s.loaded n d).moveEntry n (Entry.recheck s.view) := rfl

theorem State.loaded_slot (d : Definition) : (s.loaded n d).table[n] = some (Entry.fresh d (heldBit s.input) s.levels) :=
  s.putEntry_slot_same n _

theorem State.loadEntry_others (d : Definition) : s.otherSlotsKept (s.loadEntry n d) n := fun m hm =>
  ((State.moveEntry_moved (Entry.recheck s.view) (State.loaded_slot d)).others m hm).trans (s.putEntry_slot_other _ hm)

end

theorem Definition.patternValue_eq (d : Definition) (levels changed : Levels) :
    d.patternValue levels changed = if d.kind = .pattern then some (d.pattern.satisfied levels changed) else none := by
  unfold Definition.patternValue
  cases d.kind <;> rfl

/-- Settles O6: the fresh entry takes the LEVEL re-check in the state in which it has been placed. -/
theorem loadPlacesEntry : Obligations.LoadPlacesEntry := by
  refine ⟨fun _ => rfl, fun s n hp hn hb he hd hl => ?_⟩
  have hexec : exec .load s = .next (s.loadEntry n (Definition.ofRecord s.input)) := by
    rw [exec_load hp, State.onNamed_some hn, State.unlessProtected_taken hb, State.loadAt_empty he, State.onRecord_taken hd hl]
  generalize Definition.ofRecord s.input = d at hexec
  have hm := State.moveEntry_moved (s := s.loaded n d) (Entry.recheck s.view) (State.loaded_slot d)
  rw [← State.loadEntry_eq] at hm
  have hzones : (s.loadEntry n d).zones = s.zones := hm.zones_eq (Entry.recheck_zones _ _)
  have hframe := (s.loadEntry_tableFrame n d).of_zones hzones
  have hshows : (s.loadEntry n d).shows ((s.loadEntry n d).entryImage n) := State.moveEntry_shows _ _ _
  have hcompletes : s.completes (s.loadEntry n d) .ok 0 := State.moveEntry_completes (s.loaded n d) _ _
  have hothers := State.loadEntry_others (s := s) (n := n) d
  by_cases h : heldBit s.input = false ∧ s.levelHolds d
  · have he := Entry.recheck_taken (s := s) (e := Entry.fresh d (heldBit s.input) s.levels) (by simp [Entry.fresh, h.1]) h.2
    rw [he] at hm
    exact ⟨_, _, hexec, hm.slot, rfl, rfl, rfl, rfl, Definition.patternValue_eq _ _ _, rfl,
      fun hh => absurd (h.1.symm.trans hh) Bool.false_ne_true, fun _ hnl => absurd h.2 hnl,
      fun _ _ => ⟨rfl, rfl, hm.owed_of_keep rfl rfl⟩, hm.turn, hothers, hcompletes, hshows, hframe⟩
  · have he := Entry.recheck_passed (s := s) (e := Entry.fresh d (heldBit s.input) s.levels) fun h' => h ⟨by
      cases hh : heldBit s.input with
      | false => rfl
      | true => simp [Entry.fresh, hh] at h', h'.2⟩
    rw [he] at hm
    exact ⟨_, _, hexec, hm.slot, rfl, rfl, rfl, rfl, Definition.patternValue_eq _ _ _, rfl,
      fun hh => ⟨by simp [Effect.only, Entry.fresh, hh], rfl, hm.owed_of_only⟩,
      fun hh _ => ⟨by simp [Effect.only, Entry.fresh, hh], rfl, hm.owed_of_only⟩,
      fun hh hl => absurd ⟨hh, hl⟩ h, hm.turn, hothers, hcompletes, hshows, hframe⟩

/-! ### RETIRE -/

section
variable {s : State} {n : EntryIx}

theorem slotNames_iff {slot : Option Entry} :
    slotNames slot n = true ↔ ∃ e, slot = some e ∧ e.defn.kind = .follow ∧ e.defn.source = n := by
  cases slot <;> simp [slotNames]

/-- What RETIRE does at an occupied slot. -/
def State.retireAt (s : State) (n : EntryIx) : State :=
  match s.firstFollower n with
  | some m => s.refuse .inUse (byteOf m.val)
  | none => ((s.applyAt n Entry.retired).asOne.removeEntry n).complete .ok 0 none

theorem exec_retire (h : s.inProgress 0x14 = true) :
    exec .retire s = .next (s.onNamed fun n => s.unlessProtected n (s.onOccupied n fun _ => s.retireAt n)) := by
  show done (onCompletion 0x14 _ s) = _
  rw [onCompletion_taken _ _ _ h]; rfl

theorem State.removeEntry_owed (s : State) (n : EntryIx) : (s.removeEntry n).owed = {
    seconds := s.owed.seconds
    triggers := s.owed.triggers.filter fun y => y.entry != n
    transitions := s.owed.transitions.filter fun y => y.entry != n
    pulses := s.owed.pulses.map fun p => { p with reached := p.reached ||| entryBit n }
    follows := (s.owed.follows.map fun g => g.without n).filter fun g => g.events != []
    walks := s.owed.walks + ((s.owed.follows.map fun g => g.without n).filter fun g => g.events == [] && g.walk).length
    underway := {
      entries := s.owed.underway.entries &&& ~~~(entryBit n)
      zones := s.owed.underway.zones
      group := s.owed.underway.group.without n } } := rfl

theorem State.removeEntry_links (s : State) (n : EntryIx) :
    (s.removeEntry n).links = s.links.filter fun l => l.follower != n :=
  s.dropFollowsTo_links n

theorem Entry.retired_causesWalk (e : Entry) : e.retired.causesWalk = (e.phase.ownsZones && e.defn.claim != 0) := by
  rw [Effect.causesWalk, Entry.retired]
  cases e.phase.ownsZones <;> rfl

end

/-- Settles O12: the release of the zones is an arrival at the entry, and the slot is emptied after it. -/
theorem retireEmptiesSlot : Obligations.RetireEmptiesSlot := by
  refine ⟨fun s n names hnames => ?_, fun s hp => ⟨_, exec_retire hp, fun h => ?_, fun n hn => ?_⟩⟩
  · have hat : ∀ m, names m ↔ (m != n && slotNames s.table[m] n) = true := fun m => by
      rw [hnames, Bool.and_eq_true, bne_iff_ne, slotNames_iff]
    simp only [hat, State.firstFollower, find?_finRange_eq_none, find?_finRange_eq_some, Bool.not_eq_true, implies_true, and_self]
  · rw [State.onNamed_none (State.namedEntry_eq_none.mpr h)]
    exact s.refuse_refuses _ _
  · rw [State.onNamed_some (State.namedEntry_eq_some.mpr hn)]
    refine ⟨fun hb => ?_, fun hb he => ?_, fun e m hb he hm => ?_, fun e hb he hm => ?_⟩
    · rw [State.unlessProtected_refused hb]
      exact s.refuse_refuses _ _
    · rw [State.unlessProtected_taken hb, State.onOccupied_refused he]
      exact s.refuse_refuses _ _
    · rw [State.unlessProtected_taken hb, State.onOccupied_taken he, State.retireAt, hm]
      exact s.refuse_refuses _ _
    · rw [State.unlessProtected_taken hb, State.onOccupied_taken he, State.retireAt, hm]
      have hmoved := State.applyAt_moved Entry.retired he
      have howed := hmoved.owed_eq rfl
      rw [Entry.retired_causesWalk] at howed
      have hframe := (s.applyAt_asOne_tableFrame n Entry.retired).trans (State.removeEntry_tableFrame _ n)
      have hiface : (s.applyAt n Entry.retired).asOne.iface = s.iface := (s.applyAt_asOne_arrivalFrame n _).iface
      generalize (s.applyAt n Entry.retired).asOne = a at hmoved howed hframe hiface
      refine ⟨a.removeEntry_slot_same n, fun m hm => (a.removeEntry_slot_other hm).trans (hmoved.others m hm), ?_, hmoved.zones,
        fun l => ?_, ?_, State.completes_of_iface (u := a.removeEntry n) hiface _ _ _, ?_, ?_⟩
      · show (a.removeEntry n).turn = _
        rw [State.removeEntry_turn, hmoved.turn]
      · show l ∈ (a.removeEntry n).links ↔ _
        rw [State.removeEntry_links, show a.links = s.links by rw [State.links, howed]; rfl]
        simp
      · show (a.removeEntry n).owed = _
        rw [State.removeEntry_owed, howed]
      · show a.iface.buffer = _
        rw [hiface]
      · exact hframe.trans (State.complete_tableFrame _ _ _ _)

/-! ### CONFIRM and CONFIRM FIRST -/

section
variable {s : State} {e : Entry}

theorem Entry.confirmed_once (h : e.defn.rep = .once) : e.confirmed s.view = Effect.only { e with phase := .spent } := by
  rw [Entry.confirmed, Definition.afterUse_of_once h]
  exact Entry.recheck_passed (by simp)

theorem Entry.confirmed_passed (h : e.defn.rep = .recurring) (hl : ¬ s.levelHolds e.defn) :
    e.confirmed s.view = Effect.only { e with phase := .armed } := by
  rw [Entry.confirmed, Definition.afterUse_of_recurring h]
  exact Entry.recheck_passed fun h' => hl h'.2

theorem Entry.confirmed_taken (h : e.defn.rep = .recurring) (hl : s.levelHolds e.defn) :
    e.confirmed s.view
      = { Effect.only { e with phase := .due freshWait, snapshot := some s.levels } with walk := true } := by
  rw [Entry.confirmed, Definition.afterUse_of_recurring h]
  exact Entry.recheck_taken (e := { e with phase := .armed }) rfl hl

theorem Entry.confirmed_walk : (e.confirmed s.view).walk = true ↔ e.defn.rep = .recurring ∧ s.levelHolds e.defn := by
  cases h : e.defn.rep with
  | once => simp [Entry.confirmed_once h]
  | recurring =>
    by_cases hl : s.levelHolds e.defn
    · simp [Entry.confirmed_taken h hl, hl]
    · simp [Entry.confirmed_passed h hl, hl]

theorem Entry.confirmed_zones (v : View) : (e.confirmed v).zones = .keep := Entry.recheck_zones _ _

theorem Entry.confirmed_ended (v : View) : (e.confirmed v).ended = none := Entry.recheck_ended _ _

theorem Entry.confirmedBy_iff {tag : Byte} : e.confirmedBy tag = true ↔ e.phase = .confirming ∧ e.defn.tag = tag := by
  simp [Entry.confirmedBy]

theorem Entry.confirmBy_taken {v : View} {tag : Byte} (h : e.phase = .confirming ∧ e.defn.tag = tag) :
    Entry.confirmBy v tag e = e.confirmed v := by
  rw [Entry.confirmBy, if_pos (Entry.confirmedBy_iff.mpr h)]

theorem Entry.confirmBy_other {v : View} {tag : Byte} (h : ¬ (e.phase = .confirming ∧ e.defn.tag = tag)) :
    Entry.confirmBy v tag e = Effect.only e := by
  rw [Entry.confirmBy, if_neg (fun h' => h (Entry.confirmedBy_iff.mp h'))]

theorem Entry.confirmBy_quiet (v : View) (tag : Byte) :
    (Entry.confirmBy v tag e).zones = .keep ∧ (Entry.confirmBy v tag e).ended = none := by
  by_cases h : e.phase = .confirming ∧ e.defn.tag = tag
  · rw [Entry.confirmBy_taken h]
    exact ⟨Entry.confirmed_zones v, Entry.confirmed_ended v⟩
  · rw [Entry.confirmBy_other h]
    exact ⟨rfl, rfl⟩

theorem Entry.confirmBy_walk {tag : Byte} : (Entry.confirmBy s.view tag e).walk = true ↔
    e.phase = .confirming ∧ e.defn.tag = tag ∧ e.defn.rep = .recurring ∧ s.levelHolds e.defn := by
  by_cases h : e.phase = .confirming ∧ e.defn.tag = tag
  · rw [Entry.confirmBy_taken h, Entry.confirmed_walk]
    simp [h]
  · rw [Entry.confirmBy_other h]
    simp only [Effect.only_walk, Bool.false_eq_true, false_iff]
    exact fun h' => h ⟨h'.1, h'.2.1⟩

end

/-- The arrival that CONFIRM makes at every entry. -/
def State.confirmAll (x : State) (tag : Byte) : State := (x.apply fun _ => Entry.confirmBy x.view tag).asOne

section
variable {x : State} {tag : Byte}

theorem State.confirmAll_slot (n : EntryIx) :
    (x.confirmAll tag).table[n] = (x.table[n]).map fun e => (Entry.confirmBy x.view tag e).entry :=
  State.apply_asOne_slot n

theorem State.confirmAll_owed {walks : Bool} (hw : walks = true ↔ ∃ (n : EntryIx) (e : Entry), x.table[n] = some e
    ∧ e.phase = .confirming ∧ e.defn.tag = tag ∧ e.defn.rep = .recurring ∧ x.levelHolds e.defn) :
    (x.confirmAll tag).owed = { x.owed with walks := x.owed.walks + if walks then 1 else 0 } :=
  State.apply_asOne_owed (fun _ _ _ => Entry.confirmBy_quiet _ _) (by simpa only [Entry.confirmBy_walk] using hw)

theorem State.confirmAll_arrivalFrame : x.arrivalFrame (x.confirmAll tag) :=
  (State.apply_arrivalFrame x _).trans (Arrival.asOne_arrivalFrame _)

theorem State.confirmAll_turn : (x.confirmAll tag).turn = x.turn := by
  rw [State.confirmAll, Arrival.asOne_turn, State.apply_state_turn]

theorem State.confirmAll_zones : (x.confirmAll tag).zones = x.zones := by
  rw [State.confirmAll, Arrival.asOne_zones, State.apply_zones_keep fun _ _ _ => (Entry.confirmBy_quiet _ _).1]

/-- Where no entry is CONFIRMING with the tag, the arrival is none. -/
theorem State.confirmAll_none (h : ∀ (n : EntryIx) (e : Entry), x.table[n] = some e → ¬ (e.phase = .confirming ∧ e.defn.tag = tag)) :
    (x.confirmAll tag).table = x.table ∧ (x.confirmAll tag).owed = x.owed := by
  constructor
  · ext n hn : 1
    have := State.confirmAll_slot (x := x) (tag := tag) ⟨n, hn⟩
    refine this.trans ?_
    cases he : x.table[(⟨n, hn⟩ : EntryIx)] with
    | none => rfl
    | some e => rw [Option.map_some, Entry.confirmBy_other (h _ e he)]; rfl
  · rw [State.confirmAll_owed (walks := false)]
    · rfl
    · simp only [Bool.false_eq_true, false_iff]
      rintro ⟨n, e, he, hc, ht, -⟩
      exact h n e he ⟨hc, ht⟩

end

/-- The answer of CONFIRM after its arrival. -/
def State.confirmAnswer (x : State) : State :=
  let set := x.entriesWhere (Entry.confirmedBy (byteOf (x.input 0)))
  if set = 0 then x.refuse .nothing 0
  else (x.confirmAll (byteOf (x.input 0))).complete .ok (byteOf (setSize set)) (some (findResult set none))

theorem exec_confirm {s : State} (h : s.inProgress 0x25 = true) : exec .confirm s = .next s.settleSelf.confirmAnswer := by
  show done (onCompletion 0x25 _ s) = _
  rw [onCompletion_taken _ _ _ h]; rfl

theorem State.mem_entriesWhere_confirmed {x : State} {tag : Byte} (n : EntryIx) :
    (x.entriesWhere (Entry.confirmedBy tag)).getLsbD n.val = true
      ↔ ∃ e, x.table[n] = some e ∧ e.phase = .confirming ∧ e.defn.tag = tag := by
  simp only [State.getLsbD_entriesWhere, Entry.confirmedBy_iff]

/-- CONFIRM leaves the part as its arrival does, whether it answers OK or NOTHING. -/
theorem State.confirmAnswer_core (x : State) : x.confirmAnswer.table = (x.confirmAll (byteOf (x.input 0))).table
    ∧ x.confirmAnswer.owed = (x.confirmAll (byteOf (x.input 0))).owed
    ∧ x.confirmAnswer = { x with
        table := x.confirmAnswer.table, owed := x.confirmAnswer.owed, iface := x.confirmAnswer.iface } := by
  unfold State.confirmAnswer
  simp only
  split
  · next h =>
    have hnone : ∀ (n : EntryIx) (e : Entry), x.table[n] = some e → ¬ (e.phase = .confirming ∧ e.defn.tag = byteOf (x.input 0)) := by
      intro n e he hc
      have := (State.mem_entriesWhere_confirmed n).mpr ⟨e, he, hc⟩
      simp [h] at this
    exact ⟨(State.confirmAll_none hnone).1.symm, (State.confirmAll_none hnone).2.symm, x.refuse_frame _ _⟩
  · exact ⟨rfl, rfl, (State.confirmAll_arrivalFrame.tableFrame.trans (State.complete_tableFrame _ _ _ _)).of_turn_zones
      State.confirmAll_turn State.confirmAll_zones⟩

/-- Settles O23: CONFIRM is one arrival at every entry, which moves the CONFIRMING ones with the tag. -/
theorem confirmRow : Obligations.ConfirmRow := by
  rintro s x hp rfl
  refine ⟨_, exec_confirm hp, ?_⟩
  generalize s.settleSelf = x
  obtain ⟨htable, howed, hframe⟩ := x.confirmAnswer_core
  have hslot : ∀ n : EntryIx, x.confirmAnswer.table[n]
      = (x.table[n]).map fun e => (Entry.confirmBy x.view (byteOf (x.input 0)) e).entry := fun n => by
    rw [htable]; exact State.confirmAll_slot n
  refine ⟨hframe, fun n => by rw [hslot, Option.isSome_map], fun n e he hc => ?_, fun n e he hc => ?_, fun hw => ?_, fun hw => ?_,
    x.entriesWhere (Entry.confirmedBy (byteOf (x.input 0))), State.mem_entriesWhere_confirmed, fun h => ?_, fun h => ?_⟩
  · rw [hslot, he, Option.map_some, Entry.confirmBy_taken hc]
    exact ⟨_, rfl, Entry.confirmed_defn _ _, Entry.recheck_pending _ _, Entry.recheck_lastOutcome _ _,
      fun h => by rw [Entry.confirmed_once h]; rfl, fun h hl => by rw [Entry.confirmed_passed h hl]; rfl,
      fun h hl => by rw [Entry.confirmed_taken h hl]; rfl⟩
  · rw [hslot, he, Option.map_some, Entry.confirmBy_other hc]; rfl
  · rw [howed, State.confirmAll_owed (walks := true) (by simpa using hw)]; rfl
  · rw [howed, State.confirmAll_owed (walks := false)]
    · rfl
    · simp only [Bool.false_eq_true, false_iff]
      rintro ⟨n, e, he, hc, ht, hr, hl⟩
      exact hw n e he hc ht hr hl
  · rw [State.confirmAnswer, if_neg h]
    exact ⟨State.completes_of_iface State.confirmAll_arrivalFrame.iface _ _ _, State.complete_shows _ _ _ _⟩
  · rw [State.confirmAnswer, if_pos h]
    exact x.refuse_refuses _ _

theorem State.confirmOrder_eq (x : State) : x.confirmOrder = byPriority x.turn fun n p => slotConfirmingAt x.table[n] p := rfl

theorem slotConfirmingAt_iff {slot : Option Entry} {p : Fin 8} :
    slotConfirmingAt slot p = true ↔ ∃ e, slot = some e ∧ e.phase = .confirming ∧ e.defn.priority = p := by
  cases slot <;> simp [slotConfirmingAt]

/-- The answer of CONFIRM FIRST. -/
def State.confirmFirstAnswer (x : State) : State :=
  match x.confirmOrder with
  | n :: _ => ((x.applyAt n (Entry.confirmed x.view)).asOne).complete .ok (byteOf n.val)
      (some ((x.applyAt n (Entry.confirmed x.view)).asOne.entryImage n))
  | [] => x.refuse .nothing 0

theorem exec_confirmFirst {s : State} (h : s.inProgress 0x26 = true) :
    exec .confirmFirst s = .next s.settleSelf.confirmFirstAnswer := by
  show done (onCompletion 0x26 _ s) = _
  rw [onCompletion_taken _ _ _ h]; rfl

theorem State.confirmFirstAnswer_frame (x : State) : x.confirmFirstAnswer = { x with
    table := x.confirmFirstAnswer.table, owed := x.confirmFirstAnswer.owed, iface := x.confirmFirstAnswer.iface } := by
  unfold State.confirmFirstAnswer
  split
  · next n _ _ =>
    have hframe : x.arrivalFrame (x.applyAt n (Entry.confirmed x.view)).asOne := x.applyAt_asOne_arrivalFrame n _
    refine (hframe.tableFrame.trans (State.complete_tableFrame _ _ _ _)).of_turn_zones ?_ ?_
    · show (x.applyAt n (Entry.confirmed x.view)).asOne.turn = _
      rw [Arrival.asOne_turn, State.applyAt_state_turn]
    · show (x.applyAt n (Entry.confirmed x.view)).asOne.zones = _
      rw [Arrival.asOne_zones, State.applyAt_zones_keep _ _ _ fun e _ => Entry.confirmed_zones _]
  · exact x.refuse_frame _ _

/-- Settles O24: the first of the CONFIRMING entries by priority and turn is confirmed alone. -/
theorem confirmFirstRow : Obligations.ConfirmFirstRow := by
  rintro s x hp rfl hturn
  refine ⟨_, exec_confirmFirst hp, ?_⟩
  generalize s.settleSelf = x at *
  refine ⟨x.confirmFirstAnswer_frame, fun hnone => ?_, fun n e he hc hbest => ?_⟩
  · have horder : x.confirmOrder = [] := by
      rw [State.confirmOrder_eq, List.eq_nil_iff_forall_not_mem]
      intro n hn
      obtain ⟨-, p, hp⟩ := mem_byPriority.mp hn
      obtain ⟨e, he, hc, -⟩ := slotConfirmingAt_iff.mp hp
      exact hnone n e he hc
    rw [State.confirmFirstAnswer, horder]
    exact x.refuse_refuses _ _
  · obtain ⟨rest, horder⟩ := head_byPriority (l := x.turn) (q := fun n p => slotConfirmingAt x.table[n] p)
      (R := fun a b => x.turn.idxOf a < x.turn.idxOf b) (n := n) (p := e.defn.priority) (pairwise_idxOf hturn.1)
      (fun m p p' h h' => by
        obtain ⟨e₁, he₁, -, rfl⟩ := slotConfirmingAt_iff.mp h
        obtain ⟨e₂, he₂, -, rfl⟩ := slotConfirmingAt_iff.mp h'
        rw [Option.some.inj (he₁.symm.trans he₂)])
      ((hturn.2 n).mpr (by rw [he]; rfl)) (slotConfirmingAt_iff.mpr ⟨e, he, hc, rfl⟩)
      (fun m p' _ hm => by
        obtain ⟨e', he', hc', rfl⟩ := slotConfirmingAt_iff.mp hm
        exact (hbest m e' he' hc').imp id fun h => ⟨h.1, Nat.not_lt.mpr h.2⟩)
    rw [State.confirmFirstAnswer, State.confirmOrder_eq, horder]
    have hm := State.applyAt_moved (Entry.confirmed x.view) he
    refine ⟨hm.others, State.completes_of_iface (x.applyAt_asOne_arrivalFrame n _).iface _ _ _, State.complete_shows _ _ _ _,
      fun h => ?_, fun h hl => ?_, fun h hl => ?_⟩
    · rw [Entry.confirmed_once h] at hm
      exact ⟨hm.slot, hm.owed_of_only⟩
    · rw [Entry.confirmed_passed h hl] at hm
      exact ⟨hm.slot, hm.owed_of_only⟩
    · rw [Entry.confirmed_taken h hl] at hm
      exact ⟨hm.slot, hm.owed_of_keep rfl rfl⟩

end Sys2Proof.Machine
end

section
/-! The entry record: its checks (R11, R165), and its way through the table and back (R166). -/

namespace Sys2Proof.Machine

/-! ### The lowest offending byte (R165) -/

theorem firstBad_cons (k : Nat) (b : Bool) (rest : List (Nat × Bool)) :
    firstBad ((k, b) :: rest) = if b then some k else firstBad rest := by
  cases b <;> rfl

/-- Of checks listed in rising order the first that finds something is the one of the lowest offset. -/
theorem firstBad_of_sorted {checks : List (Nat × Bool)} (h : checks.Pairwise fun a b => a.1 < b.1) (k : Nat) :
    firstBad checks = some k ↔ (k, true) ∈ checks ∧ ∀ j, j < k → (j, true) ∉ checks := by
  induction checks with
  | nil => simp [firstBad]
  | cons c rest ih =>
    obtain ⟨k₀, b⟩ := c
    obtain ⟨hlow, hrest⟩ := List.pairwise_cons.mp h
    rw [firstBad_cons]
    cases b with
    | false => simpa using ih hrest
    | true =>
      simp only [if_true, Option.some.injEq, List.mem_cons, Prod.mk.injEq, and_true]
      constructor
      · rintro rfl
        refine ⟨Or.inl rfl, fun j hj hmem => ?_⟩
        rcases hmem with rfl | hmem
        · exact lt_irrefl _ hj
        · exact lt_asymm hj (hlow _ hmem)
      · rintro ⟨rfl | hmem, hlowest⟩
        · rfl
        · exact absurd (Or.inl rfl) (hlowest k₀ (hlow _ hmem))

/-- The lowest offending byte, of checks that find exactly the bytes that offend. -/
theorem firstBad_spec {checks : List (Nat × Bool)} {P : Nat → Prop} (h : checks.Pairwise fun a b => a.1 < b.1)
    (hP : ∀ k, P k ↔ (k, true) ∈ checks) :
    (firstBad checks = none ↔ ∀ k, ¬ P k) ∧ ∀ k, firstBad checks = some k ↔ P k ∧ ∀ j, j < k → ¬ P j := by
  refine ⟨?_, fun k => by simp only [hP, firstBad_of_sorted h]⟩
  rw [firstBad_eq_none]
  constructor
  · exact fun hall k hk => Bool.false_ne_true (hall _ ((hP k).mp hk)).symm
  · rintro hnone ⟨k, b⟩ hc
    cases b with
    | false => rfl
    | true => exact absurd ((hP k).mpr hc) (hnone k)

/-! ### The checks of an entry record (R11) -/

section
variable {r : Nat → Nat}

theorem specCode_eq (r : Nat → Nat) (i : Nat) : specCode r i = specNibble r i := by
  simp [specCode, specNibble, Nat.shiftRight_eq_div_pow, Nat.pow_mul]

theorem Kind.ofCode_calendar (c : Nat) : Kind.ofCode c = .calendar ↔ c % 4 = 0 := by
  unfold Kind.ofCode
  split <;> simp_all

theorem Kind.ofCode_pattern (c : Nat) : Kind.ofCode c = .pattern ↔ c % 4 = 1 := by
  unfold Kind.ofCode
  split <;> simp_all

theorem fieldOutOfRange_iff (v lo hi : Nat) : fieldOutOfRange v lo hi = true ↔ v ≠ 0xFF ∧ (v < lo ∨ hi < v) := by
  simp only [fieldOutOfRange, Bool.and_eq_true, bne_iff_ne, Bool.not_eq_true', Bool.and_eq_false_iff, decide_eq_false_iff_not,
    Nat.not_le]

theorem impossibleDate_iff (date month : Nat) : impossibleDate date month = true ↔
    (date = 31 ∧ (month = 2 ∨ month = 4 ∨ month = 6 ∨ month = 9 ∨ month = 11)) ∨ (date = 30 ∧ month = 2) := by
  simp only [impossibleDate, Bool.and_eq_true, Bool.or_eq_true, bne_iff_ne, beq_iff_eq]
  omega

theorem bitOf_iff (v k : Nat) : bitOf v k = true ↔ v / 2 ^ k % 2 = 1 := by
  simp [bitOf, Nat.testBit_eq_decide_div_mod_eq]

/-- Whether spec byte `j` offends, by its two signals. -/
theorem specByteBad_iff (j : Fin 8) : specByteBad r j.val = true ↔ ∃ i : Fin 16, i.val / 2 = j.val
    ∧ (5 < specNibble r i ∨ (2 < specNibble r i ∧ r 0x12 % 2 = 1 ∧ (r 0x03 % 4 ≠ 1 ∨ r 0x12 / 4 % 2 = 1))) := by
  have hforbidden : transitionsForbidden r = true ↔ r 0x12 % 2 = 1 ∧ (r 0x03 % 4 ≠ 1 ∨ r 0x12 / 4 % 2 = 1) := by
    simp [transitionsForbidden, bitOf_iff, Kind.ofCode_pattern]
  simp only [specByteBad, List.any_cons, List.any_nil, Bool.or_false, Bool.or_eq_true, Bool.and_eq_true, decide_eq_true_eq, hforbidden,
    specCode_eq]
  constructor
  · rintro (h | h)
    · exact ⟨⟨2 * j.val, by omega⟩, by simp, h.imp id fun h => ⟨h.2, h.1⟩⟩
    · exact ⟨⟨2 * j.val + 1, by omega⟩, by simp; omega, h.imp id fun h => ⟨h.2, h.1⟩⟩
  · rintro ⟨i, hi, h⟩
    have h' := h.imp id fun h => And.intro h.2 h.1
    rcases (show i.val = 2 * j.val ∨ i.val = 2 * j.val + 1 by omega) with heven | hodd
    · rw [← heven]; exact Or.inl h'
    · rw [← hodd]; exact Or.inr h'

/-- The checks of the fields before the specs. -/
theorem mem_fieldChecks (k : Nat) : (k, true) ∈ (definitionChecks r).take 11 ↔
    (k = 0x04 ∧ r 0x04 / 8 % 4 = 3)
    ∨ ((k = 0x05 ∨ k = 0x06) ∧ r k ≠ 0xFF ∧ (59 < r k ∨ r 0x03 % 4 ≠ 0))
    ∨ (k = 0x07 ∧ r k ≠ 0xFF ∧ (23 < r k ∨ r 0x03 % 4 ≠ 0))
    ∨ (k = 0x08 ∧ r k ≠ 0xFF ∧ (r k = 0 ∨ 31 < r k ∨ r 0x03 % 4 ≠ 0
        ∨ (r k = 31 ∧ (r 0x09 = 2 ∨ r 0x09 = 4 ∨ r 0x09 = 6 ∨ r 0x09 = 9 ∨ r 0x09 = 11)) ∨ (r k = 30 ∧ r 0x09 = 2)))
    ∨ (k = 0x09 ∧ r k ≠ 0xFF ∧ (r k = 0 ∨ 12 < r k ∨ r 0x03 % 4 ≠ 0))
    ∨ (k = 0x0A ∧ (r k % 128 = 0 ∨ (r 0x03 % 4 ≠ 0 ∧ r k % 128 ≠ 127)))
    ∨ (k = 0x0B ∧ 47 < r k % 64)
    ∨ (k = 0x0E ∧ r 0x0E = 0 ∧ r 0x0F = 0)
    ∨ (k = 0x11 ∧ r k ≠ 0 ∧ r 0x04 / 8 % 4 ≠ 2)
    ∨ (k = 0x12 ∧ ((r 0x03 % 4 = 1 ∧ r k % 2 = 0) ∨ (r k % 2 = 1 ∧ ∀ i : Fin 16, specNibble r i = 0))) := by
  have hspecs : ((List.range 16).all fun i => specCode r i == 0) = true ↔ ∀ i : Fin 16, specNibble r i = 0 := by
    simp [specCode_eq, Fin.forall_iff]
  simp only [definitionChecks, List.take_succ_cons, List.take_zero, List.mem_cons, List.not_mem_nil, or_false, Prod.mk.injEq,
    eq_comm (a := true), Bool.or_eq_true, Bool.and_eq_true, beq_iff_eq, bne_iff_ne, decide_eq_true_eq, fieldOutOfRange_iff,
    impossibleDate_iff, Kind.ofCode_calendar, Kind.ofCode_pattern, bitOf_iff, hspecs, Bool.not_eq_true', Bool.eq_false_iff, ne_eq]
  generalize (∀ i : Fin 16, specNibble r i = 0) = allIgnore
  constructor
  · rintro (⟨rfl, h⟩ | ⟨rfl, h⟩ | ⟨rfl, h⟩ | ⟨rfl, h⟩ | ⟨rfl, h⟩ | ⟨rfl, h⟩ | ⟨rfl, h⟩ | ⟨rfl, h⟩
      | ⟨rfl, h⟩ | ⟨rfl, h⟩ | ⟨rfl, h⟩) <;> grind
  · rintro (⟨rfl, h⟩ | ⟨rfl | rfl, h⟩ | ⟨rfl, h⟩ | ⟨rfl, h⟩ | ⟨rfl, h⟩ | ⟨rfl, h⟩ | ⟨rfl, h⟩ | ⟨rfl, h⟩
      | ⟨rfl, h⟩ | ⟨rfl, h⟩) <;> grind

theorem definitionChecks_eq (r : Nat → Nat) : definitionChecks r
    = (definitionChecks r).take 11 ++ (List.finRange 8).map fun j => (0x13 + j.val, specByteBad r j.val) := rfl

theorem mem_definitionChecks (k : Nat) : recordOffends r k ↔ (k, true) ∈ definitionChecks r := by
  rw [definitionChecks_eq, List.mem_append, mem_fieldChecks]
  have hspecs : (k, true) ∈ ((List.finRange 8).map fun j => (0x13 + j.val, specByteBad r j.val)) ↔
      ∃ i : Fin 16, k = 0x13 + i.val / 2
        ∧ (5 < specNibble r i ∨ (2 < specNibble r i ∧ r 0x12 % 2 = 1 ∧ (r 0x03 % 4 ≠ 1 ∨ r 0x12 / 4 % 2 = 1))) := by
    simp only [List.mem_map, List.mem_finRange, true_and, Prod.mk.injEq, specByteBad_iff]
    constructor
    · rintro ⟨j, rfl, i, hi, h⟩
      exact ⟨i, by rw [hi], h⟩
    · rintro ⟨i, rfl, h⟩
      exact ⟨⟨i.val / 2, by omega⟩, rfl, i, rfl, h⟩
  rw [hspecs, recordOffends]
  simp only [or_assoc]

theorem definitionChecks_sorted (r : Nat → Nat) : (definitionChecks r).Pairwise fun a b => a.1 < b.1 := by
  have : ((definitionChecks r).map Prod.fst).Pairwise (· < ·) := by
    show ([0x04, 0x05, 0x06, 0x07, 0x08, 0x09, 0x0A, 0x0B, 0x0E, 0x11, 0x12, 0x13, 0x14, 0x15, 0x16, 0x17, 0x18, 0x19, 0x1A] :
      List Nat).Pairwise (· < ·)
    decide
  exact List.pairwise_map.mp this

theorem definitionFault_spec (r : Nat → Nat) :
    (definitionFault r = none ↔ ∀ k, ¬ recordOffends r k)
      ∧ ∀ k, definitionFault r = some k ↔ recordOffends r k ∧ ∀ j, j < k → ¬ recordOffends r j :=
  firstBad_spec (definitionChecks_sorted r) mem_definitionChecks

end

/-! ### The definition part of a record (R166) -/

section
variable {r : Nat → Nat}

theorem definitionFault_none (h : definitionFault r = none) (k : Nat) : ¬ recordOffends r k :=
  (definitionFault_spec r).1.mp h k

theorem unit_lt_of_record (h : definitionFault r = none) : r 0x04 / 8 % 4 < 3 := by
  by_contra hu
  exact definitionFault_none h 0x04 (Or.inl ⟨rfl, by omega⟩)

theorem source_lt_of_record (h : definitionFault r = none) : r 0x0B % 64 < 48 := by
  by_contra hs
  exact definitionFault_none h 0x0B (by unfold recordOffends; omega)

theorem specNibble_lt_of_record (h : definitionFault r = none) (i : Fin 16) : specNibble r i < 6 := by
  by_contra hs
  exact definitionFault_none h (0x13 + i.val / 2)
    (Or.inr (Or.inr (Or.inr (Or.inr (Or.inr (Or.inr (Or.inr (Or.inr (Or.inr (Or.inr ⟨i, rfl, Or.inl (by omega)⟩))))))))))

theorem Definition.ofRecord_reads (hr : ∀ k, r k < 256) (h : definitionFault r = none) : (Definition.ofRecord r).reads r := by
  have hsource := source_lt_of_record h
  refine ⟨?_, rfl, rfl, rfl, rfl, rfl, rfl, rfl, rfl, ?_, rfl, rfl, rfl, rfl, rfl, ?_, ?_, rfl, ?_, rfl, rfl, rfl, rfl, rfl, rfl,
    fun i => ?_, ?_⟩
  · have := hr 2
    simp only [Definition.ofRecord, byteOf_toNat]
    omega
  · have := hr 4
    simp only [Definition.ofRecord, Fin.val_ofNat]
    omega
  · simp [Definition.ofRecord]
  · simp only [Definition.ofRecord, Fin.val_ofNat]
    omega
  · have h₁ := hr 0x0C
    have h₂ := hr 0x0D
    simp only [Definition.ofRecord, BitVec.toNat_ofNat]
    omega
  · simp only [Definition.ofRecord, Vector.getElem_ofFn, Fin.getElem_fin, specCode_eq]
    rfl
  · simp [Definition.ofRecord]

theorem bitAt_bitOf (n k : Nat) : bitAt (bitOf n k) k = 2 ^ k * (n / 2 ^ k % 2) := by
  rw [bitOf, bitAt_eq, Nat.testBit_eq_decide_div_mod_eq]
  rcases Nat.mod_two_eq_zero_or_one (n / 2 ^ k) with h | h <;> simp [h]

theorem Kind.code_ofCode (c : Nat) : (Kind.ofCode c).code = c % 4 := by
  unfold Kind.ofCode
  split <;> simp_all [Kind.code] <;> omega

theorem RunUnit.code_ofCode {c : Nat} (h : c < 3) : (RunUnit.ofCode c).code = c := by
  interval_cases c <;> rfl

theorem Spec.code_ofCode {c : Nat} (h : c < 6) : (Spec.ofCode c).code = c := by
  interval_cases c <;> rfl

theorem byteOfField_fieldOfByte (v : Nat) : byteOfField (fieldOfByte v) = byteOf v := by
  unfold byteOfField fieldOfByte
  split <;> simp_all

/-- A setting of two values that is one bit of a byte. -/
theorem ite_beq_true {α : Type} [DecidableEq α] {x y : α} (h : x ≠ y) (b : Bool) : ((if b then x else y) == x) = b := by
  cases b <;> simp [h.symm]

theorem byteAt_zero_of_pair {lo hi : Nat} (h : lo < 256) : (byteAt (lo + 256 * hi) 0).toNat = lo := by
  simp only [byteAt, BitVec.toNat_ofNat, Nat.mul_zero, Nat.shiftRight_zero]
  omega

theorem byteAt_one_of_pair {lo hi : Nat} (h : lo < 256) (h' : hi < 256) : (byteAt (lo + 256 * hi) 1).toNat = hi := by
  simp only [byteAt, BitVec.toNat_ofNat, Nat.mul_one, Nat.shiftRight_eq_div_pow]
  omega

/-- The byte of two specs. -/
theorem specByte_of_nibbles (hr : ∀ k, r k < 256) (j : Fin 8) :
    specNibble r (2 * j.val) + 16 * specNibble r (2 * j.val + 1) = r (0x13 + j.val) := by
  have h₁ : (2 * j.val) / 2 = j.val := by omega
  have h₂ : (2 * j.val + 1) / 2 = j.val := by omega
  have h₃ : (2 * j.val) % 2 = 0 := by omega
  have h₄ : (2 * j.val + 1) % 2 = 1 := by omega
  have := hr (0x13 + j.val)
  simp only [specNibble, h₁, h₂, h₃, h₄, Nat.pow_zero, Nat.pow_one, Nat.div_one]
  omega

theorem byteAt_zero_eq {lo hi : Nat} (h : lo < 256) : byteAt (lo + 256 * hi) 0 = byteOf lo :=
  BitVec.eq_of_toNat_eq ((byteAt_zero_of_pair h).trans (by rw [byteOf_toNat, Nat.mod_eq_of_lt h]))

theorem byteAt_one_eq {lo hi : Nat} (h : lo < 256) (h' : hi < 256) : byteAt (lo + 256 * hi) 1 = byteOf hi :=
  BitVec.eq_of_toNat_eq ((byteAt_one_of_pair h h').trans (by rw [byteOf_toNat, Nat.mod_eq_of_lt h']))

/-- The image of a definition is the record it was read from, with 0 in the held bit and in the bits that Table 2 marks 0. -/
theorem Definition.bytes_ofRecord (hr : ∀ k, r k < 256) (h : definitionFault r = none) : (Definition.ofRecord r).bytes =
    [byteOf (r 0x02), byteOf (r 0x03 % 128), byteOf (r 0x04), byteOf (r 0x05), byteOf (r 0x06), byteOf (r 0x07), byteOf (r 0x08),
      byteOf (r 0x09), byteOf (r 0x0A % 128), byteOf (r 0x0B % 128), byteOf (r 0x0C), byteOf (r 0x0D), byteOf (r 0x0E),
      byteOf (r 0x0F), byteOf (r 0x10), byteOf (r 0x11), byteOf (r 0x12 % 8)]
    ++ (List.finRange 8).map (fun j => byteOf (r (0x13 + j.val))) ++ [byteOf (r 0x1B % 32)] := by
  have hunit := unit_lt_of_record h
  have hsource := source_lt_of_record h
  refine congrArg₂ (· ++ ·) (congrArg₂ (· ++ ·) ?_ ?_) ?_
  · have hclaim : (Definition.ofRecord r).claim.toNat = r 0x0C + 256 * r 0x0D := by
      have h₁ := hr 0x0C
      have h₂ := hr 0x0D
      simp only [Definition.ofRecord, BitVec.toNat_ofNat]
      omega
    simp only [List.cons.injEq, and_true, hclaim]
    refine ⟨rfl, congrArg byteOf ?_, congrArg byteOf ?_, byteOfField_fieldOfByte _, byteOfField_fieldOfByte _,
      byteOfField_fieldOfByte _, byteOfField_fieldOfByte _, byteOfField_fieldOfByte _, congrArg byteOf ?_, congrArg byteOf ?_,
      byteAt_zero_eq (hr _), byteAt_one_eq (hr _) (hr _), byteAt_zero_eq (hr _), byteAt_one_eq (hr _) (hr _), rfl, rfl,
      congrArg byteOf ?_⟩
    · simp only [Definition.ofRecord, Kind.code_ofCode, ite_beq_true (show Repeat.recurring ≠ .once by decide),
        ite_beq_true (show Confirm.required ≠ .notNeeded by decide), ite_beq_true (show Retrigger.restart ≠ .ignore by decide),
        ite_beq_true (show PermitMode.abort ≠ .gate by decide), bitAt_bitOf]
      omega
    · have := hr 4
      simp only [Definition.ofRecord, RunUnit.code_ofCode hunit, Fin.val_ofNat]
      omega
    · simp [Definition.ofRecord]
    · simp only [Definition.ofRecord, ite_beq_true (show FollowOn.anyEnd ≠ .completedOnly by decide), bitAt_bitOf,
        Fin.val_ofNat]
      omega
    · simp only [Definition.ofRecord, ite_beq_true (show Combine.any ≠ .all by decide),
        ite_beq_true (show Sense.level ≠ .edge by decide), bitAt_bitOf]
      omega
  · refine List.map_congr_left fun j _ => congrArg byteOf ?_
    have h₁ := specNibble_lt_of_record h ⟨2 * j.val, by omega⟩
    have h₂ := specNibble_lt_of_record h ⟨2 * j.val + 1, by omega⟩
    simp only [Definition.ofRecord, Vector.getElem_ofFn, specCode_eq, Spec.code_ofCode h₁, Spec.code_ofCode h₂]
    exact specByte_of_nibbles hr j
  · simp [Definition.ofRecord]

/-- The bits of the byte at offset `k` of a record that its image shows again. -/
def shownBits (r : Nat → Nat) (k : Nat) : Nat :=
  if k = 0x03 ∨ k = 0x0A ∨ k = 0x0B then r k % 128
  else if k = 0x12 then r k % 8
  else if k = 0x1B then r k % 32
  else r k

theorem Definition.byte_ofRecord (hr : ∀ k, r k < 256) (h : definitionFault r = none) {k : Nat} (hlo : 0x02 ≤ k) (hhi : k ≤ 0x1B) :
    ((Definition.ofRecord r).bytes.getD (k - 2) 0).toNat = shownBits r k := by
  have hlt : shownBits r k < 256 := by
    have := hr k
    unfold shownBits
    split_ifs <;> omega
  have hbyte : (Definition.ofRecord r).bytes.getD (k - 2) 0 = byteOf (shownBits r k) := by
    rw [Definition.bytes_ofRecord hr h]
    interval_cases k <;> rfl
  rw [hbyte, byteOf_toNat, Nat.mod_eq_of_lt hlt]

theorem bitOf_mod_128 (v : Nat) {k : Nat} (h : k < 7) : bitOf (v % 128) k = bitOf v k := by
  rw [bitOf, show (128 : Nat) = 2 ^ 7 from rfl, Nat.testBit_mod_two_pow, decide_eq_true h, Bool.true_and, bitOf]

theorem bitOf_mod_8 (v : Nat) {k : Nat} (h : k < 3) : bitOf (v % 8) k = bitOf v k := by
  rw [bitOf, show (8 : Nat) = 2 ^ 3 from rfl, Nat.testBit_mod_two_pow, decide_eq_true h, Bool.true_and, bitOf]

theorem Kind.ofCode_mod (c : Nat) : Kind.ofCode (c % 128) = Kind.ofCode c := by
  unfold Kind.ofCode
  rw [Nat.mod_mod_of_dvd c (by decide : 4 ∣ 128)]

/-- Only the bits that an image shows are read. -/
theorem Definition.ofRecord_congr {r' : Nat → Nat} (h : ∀ k, 0x02 ≤ k → k ≤ 0x1B → r' k = shownBits r k) :
    Definition.ofRecord r' = Definition.ofRecord r := by
  have hspec : ∀ i : Fin 16, specCode r' i = specCode r i := fun i => by
    rw [specCode, specCode, h _ (by omega) (by omega), shownBits, if_neg (by omega), if_neg (by omega), if_neg (by omega)]
  have hat : ∀ k, 0x02 ≤ k → k ≤ 0x1B → k ≠ 0x03 → k ≠ 0x0A → k ≠ 0x0B → k ≠ 0x12 → k ≠ 0x1B → r' k = r k :=
      fun k h₁ h₂ _ _ _ _ _ => by
    rw [h k h₁ h₂, shownBits, if_neg (by omega), if_neg (by omega), if_neg (by omega)]
  have h03 : r' 0x03 = r 0x03 % 128 := h 0x03 (by omega) (by omega)
  have h0A : r' 0x0A = r 0x0A % 128 := h 0x0A (by omega) (by omega)
  have h0B : r' 0x0B = r 0x0B % 128 := h 0x0B (by omega) (by omega)
  have h12 : r' 0x12 = r 0x12 % 8 := h 0x12 (by omega) (by omega)
  have h1B : r' 0x1B = r 0x1B % 32 := h 0x1B (by omega) (by omega)
  have hweek : BitVec.ofNat 7 (r 0x0A % 128) = BitVec.ofNat 7 (r 0x0A) := BitVec.eq_of_toNat_eq (by simp)
  have hnotify : BitVec.ofNat 5 (r 0x1B % 32) = BitVec.ofNat 5 (r 0x1B) := BitVec.eq_of_toNat_eq (by simp)
  simp only [Definition.ofRecord, hspec, h03, h0A, h0B, h12, h1B, Kind.ofCode_mod, hweek, hnotify,
    bitOf_mod_128 _ (show 2 < 7 by omega), bitOf_mod_128 _ (show 3 < 7 by omega), bitOf_mod_128 _ (show 4 < 7 by omega),
    bitOf_mod_128 _ (show 5 < 7 by omega), bitOf_mod_128 _ (show 6 < 7 by omega), bitOf_mod_8 _ (show 0 < 3 by omega),
    bitOf_mod_8 _ (show 1 < 3 by omega), bitOf_mod_8 _ (show 2 < 3 by omega), Nat.mod_mod_of_dvd _ (by decide : 64 ∣ 128),
    hat 0x02 (by omega) (by omega) (by omega) (by omega) (by omega) (by omega) (by omega),
    hat 0x04 (by omega) (by omega) (by omega) (by omega) (by omega) (by omega) (by omega),
    hat 0x05 (by omega) (by omega) (by omega) (by omega) (by omega) (by omega) (by omega),
    hat 0x06 (by omega) (by omega) (by omega) (by omega) (by omega) (by omega) (by omega),
    hat 0x07 (by omega) (by omega) (by omega) (by omega) (by omega) (by omega) (by omega),
    hat 0x08 (by omega) (by omega) (by omega) (by omega) (by omega) (by omega) (by omega),
    hat 0x09 (by omega) (by omega) (by omega) (by omega) (by omega) (by omega) (by omega),
    hat 0x0C (by omega) (by omega) (by omega) (by omega) (by omega) (by omega) (by omega),
    hat 0x0D (by omega) (by omega) (by omega) (by omega) (by omega) (by omega) (by omega),
    hat 0x0E (by omega) (by omega) (by omega) (by omega) (by omega) (by omega) (by omega),
    hat 0x0F (by omega) (by omega) (by omega) (by omega) (by omega) (by omega) (by omega),
    hat 0x10 (by omega) (by omega) (by omega) (by omega) (by omega) (by omega) (by omega),
    hat 0x11 (by omega) (by omega) (by omega) (by omega) (by omega) (by omega) (by omega)]

end

/-- Settles O15: the image shows the bits that the definition is read from. -/
theorem definitionRoundTrip : Obligations.DefinitionRoundTrip := by
  intro r hr h
  refine ⟨Definition.ofRecord_reads hr h, Definition.length_bytes _, fun k => Definition.byte_ofRecord hr h, ?_⟩
  refine Definition.ofRecord_congr fun k hlo hhi => ?_
  rw [if_pos hlo, Definition.byte_ofRecord hr h hlo hhi]

end Sys2Proof.Machine
end

section
/-! LOAD and MODIFY: their refusals, and what a MODIFY does at an entry that is not active and at one that is. -/

namespace Sys2Proof.Machine

/-! ### A walk beside that of an arrival's entry -/

section
variable {s : State} {n : EntryIx} {e : Entry}

/-- An effect that causes a walk besides, where `b` holds. -/
def Effect.walkingIf (x : Effect) (b : Bool) : Effect := { x with walk := x.walk || b }

theorem Effect.walkingIf_causesWalk (x : Effect) (b : Bool) : (x.walkingIf b).causesWalk = (x.causesWalk || b) := by
  simp only [Effect.causesWalk, Effect.walkingIf]
  cases x.walk <;> cases b <;> simp

theorem State.effectGroup_walkingIf (x : Effect) (b : Bool) :
    s.effectGroup n (x.walkingIf b) = { s.effectGroup n x with walk := (s.effectGroup n x).walk || b } := by
  simp only [State.effectGroup, Effect.walkingIf_causesWalk]
  rfl

theorem State.applyAt_walkingIf_state (f : Entry → Effect) (b : Bool) (he : s.table[n] = some e) :
    (s.applyAt n fun x => (f x).walkingIf b).state = (s.applyAt n f).state := by
  have htable : (s.applyAt n fun x => (f x).walkingIf b).state.table = (s.applyAt n f).state.table := by
    have hat : ∀ m : EntryIx, (s.applyAt n fun x => (f x).walkingIf b).state.table[m] = (s.applyAt n f).state.table[m] := fun m => by
      by_cases h : m = n
      · subst h
        rw [State.applyAt_table_same, State.applyAt_table_same]; rfl
      · rw [State.applyAt_table_other _ _ _ _ h, State.applyAt_table_other _ _ _ _ h]
    exact Vector.ext fun m hm => hat ⟨m, hm⟩
  have hzones : (s.applyAt n fun x => (f x).walkingIf b).state.zones = (s.applyAt n f).state.zones := by
    ext z hz : 1
    show (s.applyAt n fun x => (f x).walkingIf b).state.zones[(⟨z, hz⟩ : ZoneIx)] = (s.applyAt n f).state.zones[(⟨z, hz⟩ : ZoneIx)]
    rw [State.applyAt_zones _ _ _ _ he, State.applyAt_zones _ _ _ _ he]; rfl
  rw [State.applyAt_frame, htable, hzones, ← State.applyAt_frame]

/-- A walk caused beside that of the entry joins it. -/
theorem State.applyAt_walkIf_moved (f : Entry → Effect) (b : Bool) (he : s.table[n] = some e) :
    s.Moved ((s.applyAt n f).walkIf b).asOne n ((f e).walkingIf b) := by
  have hsame : ((s.applyAt n f).walkIf b).asOne = (s.applyAt n fun x => (f x).walkingIf b).asOne := by
    rw [State.applyAt_asOne s n _ e he, State.applyAt_walkingIf_state f b he, State.effectGroup_walkingIf]
    rw [Arrival.asOne, Arrival.walkIf_state]
    congr 1
    have hone := State.applyAt_groups s n f e he
    cases b with
    | false =>
      simp only [Arrival.walkIf, Bool.false_eq_true, if_false, hone, Bool.or_false]
      generalize s.effectGroup n (f e) = g
      obtain ⟨walk, events⟩ := g
      cases walk <;> by_cases h : events = [] <;> simp [h]
    | true =>
      simp only [Arrival.walkIf, if_true, hone, Bool.or_true]
      generalize s.effectGroup n (f e) = g
      obtain ⟨walk, events⟩ := g
      cases walk <;> by_cases h : events = [] <;> simp [h]
  rw [hsame]
  exact State.applyAt_moved (fun x => (f x).walkingIf b) he

theorem State.Moved.transitions {t : State} {x : Effect} (h : s.Moved t n x) : t.owed.transitions = s.owed.transitions := by
  by_cases hg : (s.effectGroup n x).events = []
  · rw [h.owed.1 hg]
  · rw [h.owed.2 hg]

end

theorem Effect.only_andThen (e : Entry) (f : Entry → Effect) : (Effect.only e).andThen f = f e := by
  rcases h : f e with ⟨entry, zones, ended, walk⟩
  cases zones <;> cases ended <;> simp [Effect.andThen, Effect.only, h]

theorem Effect.andThen_only {a : Effect} {f : Entry → Effect} (h : f a.entry = Effect.only a.entry) : a.andThen f = a := by
  rw [Effect.andThen, h]
  obtain ⟨entry, zones, ended, walk⟩ := a
  simp [Effect.only]

/-! ### The restricted fields (R16) -/

theorem Entry.activeFault_iff {e : Entry} {d : Definition} {k : Nat} : e.activeFault d = some k ↔ e.phase.isActive = true
    ∧ ((k = 0x03 ∧ e.defn.kind ≠ d.kind)
      ∨ (k = 0x04 ∧ e.defn.kind = d.kind
        ∧ (e.defn.unit ≠ d.unit ∨ (e.defn.unit = .pulses ∧ e.defn.pulseSource ≠ d.pulseSource)))
      ∨ (k = 0x0C ∧ e.defn.kind = d.kind ∧ ¬ (e.defn.unit ≠ d.unit ∨ (e.defn.unit = .pulses ∧ e.defn.pulseSource ≠ d.pulseSource))
        ∧ e.defn.claim ≠ d.claim)) := by
  have hkind : (e.defn.kind != d.kind) = true ↔ e.defn.kind ≠ d.kind := bne_iff_ne
  have hclaim : (e.defn.claim != d.claim) = true ↔ e.defn.claim ≠ d.claim := bne_iff_ne
  have hunit : (e.defn.unit != d.unit || (e.defn.unit == .pulses && e.defn.pulseSource != d.pulseSource)) = true
      ↔ (e.defn.unit ≠ d.unit ∨ (e.defn.unit = .pulses ∧ e.defn.pulseSource ≠ d.pulseSource)) := by simp
  unfold Entry.activeFault
  rw [← hunit, ← hclaim, ← not_ne_iff (a := e.defn.kind), ← hkind, firstBad_cons, firstBad_cons, firstBad_cons]
  generalize (e.defn.kind != d.kind) = kind
  generalize (e.defn.unit != d.unit || (e.defn.unit == .pulses && e.defn.pulseSource != d.pulseSource)) = unit
  generalize (e.defn.claim != d.claim) = claim
  cases e.phase.isActive <;> cases kind <;> cases unit <;> cases claim <;> simp [firstBad, eq_comm (a := k)]

theorem Entry.activeFault_none {e : Entry} {d : Definition} (ha : e.phase.isActive = true) : e.activeFault d = none ↔
    e.defn.kind = d.kind ∧ e.defn.unit = d.unit ∧ (e.defn.unit = .pulses → e.defn.pulseSource = d.pulseSource)
      ∧ e.defn.claim = d.claim := by
  rw [Option.eq_none_iff_forall_ne_some]
  simp only [ne_eq, Entry.activeFault_iff, ha, true_and]
  constructor
  · intro h
    have h₃ := h 0x03
    have h₄ := h 0x04
    have h₅ := h 0x0C
    simp only [true_and, Nat.reduceEqDiff, false_and, false_or, or_false] at h₃ h₄ h₅
    tauto
  · rintro ⟨hk, hu, hp, hc⟩ k (⟨-, h⟩ | ⟨-, -, h⟩ | ⟨-, -, -, h⟩)
    · exact h hk
    · exact h.elim (· hu) fun h => h.2 (hp h.1)
    · exact h hc

theorem Entry.activeFault_of_inactive {e : Entry} {d : Definition} (h : e.phase.isActive = false) : e.activeFault d = none := by
  simp [Entry.activeFault, h]

/-! ### The refusals of LOAD and MODIFY (R13) -/

theorem State.badLink_iff {s : State} {n : EntryIx} {d : Definition} :
    s.badLink n d = true ↔ d.kind = .follow ∧ d.source ≠ n ∧ s.table[d.source] = none := by
  simp [State.badLink, and_assoc]

/-- What MODIFY does at an occupied slot. -/
def State.modifyAt (x : State) (n : EntryIx) (e : Entry) : State :=
  x.onRecord n fun d =>
    match e.activeFault d with
    | some offset => x.refuse .active (byteOf offset)
    | none => x.modifyEntry n e d

theorem exec_modify {s : State} (h : s.inProgress 0x11 = true) : exec .modify s = .next (s.settleSelf.onNamed fun n =>
    s.settleSelf.unlessProtected n (s.settleSelf.onOccupied n (s.settleSelf.modifyAt n))) := by
  show done (onCompletion 0x11 _ s) = _
  rw [onCompletion_taken _ _ _ h]; rfl

/-- The refusals of a record. -/
theorem State.onRecord_refusals (x : State) (n : EntryIx) (f : Definition → State) :
    (∀ k, definitionFault x.input = some k → x.refuses (x.onRecord n f) .invalidField (byteOf k))
      ∧ (definitionFault x.input = none → x.badLink n (Definition.ofRecord x.input) = true →
          x.refuses (x.onRecord n f) .badLink 0x0B) := by
  refine ⟨fun k hk => ?_, fun hd hl => ?_⟩
  · rw [State.onRecord_fault hk]
    exact x.refuse_refuses _ _
  · rw [State.onRecord_badLink hd hl]
    exact x.refuse_refuses _ _

theorem State.load_refusals (x : State) {n : EntryIx} (hn : x.namedEntry = some n) :
    (x.isProtected n = true →
        x.refuses (x.onNamed fun n => x.unlessProtected n (x.loadAt n)) .entryProtected (byteOf x.boundary))
      ∧ (x.isProtected n = false →
        (x.table[n].isSome = true → x.refuses (x.onNamed fun n => x.unlessProtected n (x.loadAt n)) .occupied 0)
        ∧ (x.table[n] = none → (x.onNamed fun n => x.unlessProtected n (x.loadAt n)) = x.onRecord n (x.loadEntry n))) := by
  rw [State.onNamed_some hn]
  refine ⟨fun hb => ?_, fun hb => ⟨fun he => ?_, fun he => ?_⟩⟩
  · rw [State.unlessProtected_refused hb]
    exact x.refuse_refuses _ _
  · rw [State.unlessProtected_taken hb, State.loadAt_occupied he]
    exact x.refuse_refuses _ _
  · rw [State.unlessProtected_taken hb, State.loadAt_empty he]

theorem State.modify_refusals (x : State) {n : EntryIx} (hn : x.namedEntry = some n) :
    (x.isProtected n = true →
        x.refuses (x.onNamed fun n => x.unlessProtected n (x.onOccupied n (x.modifyAt n))) .entryProtected (byteOf x.boundary))
      ∧ (x.isProtected n = false →
        (x.table[n] = none → x.refuses (x.onNamed fun n => x.unlessProtected n (x.onOccupied n (x.modifyAt n))) .emptySlot 0)
        ∧ ∀ e, x.table[n] = some e →
          (x.onNamed fun n => x.unlessProtected n (x.onOccupied n (x.modifyAt n))) = x.modifyAt n e) := by
  rw [State.onNamed_some hn]
  refine ⟨fun hb => ?_, fun hb => ⟨fun he => ?_, fun e he => ?_⟩⟩
  · rw [State.unlessProtected_refused hb]
    exact x.refuse_refuses _ _
  · rw [State.unlessProtected_taken hb, State.onOccupied_refused he]
    exact x.refuse_refuses _ _
  · rw [State.unlessProtected_taken hb, State.onOccupied_taken he]

theorem State.input_lt (s : State) (k : Nat) : s.input k < 256 := (s.iface.buffer.read k).isLt

/-- Settles O7: the shared checks of a record, and the check of the restricted fields that MODIFY alone makes. -/
theorem recordCommandRefusals : Obligations.RecordCommandRefusals := by
  refine ⟨fun s n => ⟨State.namedEntry_eq_some, State.namedEntry_eq_none, State.isProtected_iff⟩, fun s n d => State.badLink_iff,
    fun e d kind unit claim hkind hunit hclaim k => ?_, fun r _ => definitionFault_spec r, ?_⟩
  · rw [Entry.activeFault_iff, hkind, hunit, hclaim]
    simp only [ne_eq, not_not]
  · rintro s x c (⟨rfl, hp, rfl⟩ | ⟨rfl, hp, rfl⟩)
    · refine ⟨_, exec_load hp, fun hn => ?_, fun n hn => ⟨(x.load_refusals hn).1, fun hb => ?_⟩⟩
      · rw [State.onNamed_none hn]
        exact x.refuse_refuses _ _
      · obtain ⟨hoccupied, hempty⟩ := (x.load_refusals hn).2 hb
        refine ⟨fun _ => hoccupied, nofun, fun he => ?_⟩
        rw [hempty (he.mp rfl)]
        exact ⟨(x.onRecord_refusals n _).1, fun hd => ⟨(x.onRecord_refusals n _).2 hd, nofun⟩⟩
    · refine ⟨_, exec_modify hp, fun hn => ?_, fun n hn => ⟨(s.settleSelf.modify_refusals hn).1, fun hb => ?_⟩⟩
      · rw [State.onNamed_none hn]
        exact s.settleSelf.refuse_refuses _ _
      · obtain ⟨hempty, hoccupied⟩ := (s.settleSelf.modify_refusals hn).2 hb
        refine ⟨nofun, fun _ => hempty, fun he => ?_⟩
        obtain ⟨e, he⟩ := Option.ne_none_iff_exists'.mp fun h => absurd (he.mpr h) (by simp)
        rw [hoccupied e he]
        refine ⟨(s.settleSelf.onRecord_refusals n _).1, fun hd => ⟨(s.settleSelf.onRecord_refusals n _).2 hd,
          fun hl _ e' k he' hk => ?_⟩⟩
        obtain rfl := Option.some.inj (he.symm.trans he')
        rw [State.modifyAt, State.onRecord_taken hd hl, hk]
        exact s.settleSelf.refuse_refuses _ _

/-! ### MODIFY as one arrival -/

/-- What a MODIFY does at the entry once the definition is replaced. -/
def Entry.modified (v : View) (old new : Entry) : Effect :=
  match old.modifyTransition new with
  | none => new.recheck v
  | some value => (new.permitTransition v value).andThen (Entry.recheck v)

/-- The state in which the definition is replaced, and the older transitions dropped where one is delivered. -/
def State.redefinedAt (x : State) (n : EntryIx) (e : Entry) (d : Definition) : State :=
  match e.modifyTransition (e.redefined d x.levels) with
  | none => x.putEntry n (some (e.redefined d x.levels))
  | some _ => (x.putEntry n (some (e.redefined d x.levels))).dropTransitionsTo n

section
variable {x : State} {n : EntryIx} {e : Entry} {d : Definition}

theorem State.redefinedAt_eq : x.redefinedAt n e d = { x.putEntry n (some (e.redefined d x.levels)) with
    owed := { x.owed with transitions := if e.modifyTransition (e.redefined d x.levels) = none then x.owed.transitions
      else x.owed.transitions.filter fun y => y.entry != n } } := by
  unfold State.redefinedAt
  cases e.modifyTransition (e.redefined d x.levels) <;> rfl

theorem State.redefinedAt_slot : (x.redefinedAt n e d).table[n] = some (e.redefined d x.levels) := by
  rw [State.redefinedAt_eq]
  exact x.putEntry_slot_same n _

/-- MODIFY is an arrival at the redefined entry. -/
theorem State.modifyEntry_moved : (x.redefinedAt n e d).Moved (x.modifyEntry n e d) n
    ((Entry.modified x.view e (e.redefined d x.levels)).walkingIf (e.modifyWalks d)) := by
  have hslot := State.redefinedAt_slot (x := x) (n := n) (e := e) (d := d)
  unfold State.modifyEntry Entry.modified
  unfold State.redefinedAt at hslot ⊢
  simp only at hslot ⊢
  cases h : e.modifyTransition (e.redefined d x.levels) with
  | none =>
    simp only [h] at hslot ⊢
    exact (State.applyAt_walkIf_moved (Entry.recheck x.view) (e.modifyWalks d) hslot).complete _ _ _
  | some value =>
    simp only [h] at hslot ⊢
    exact (State.applyAt_walkIf_moved (fun y => (y.permitTransition x.view value).andThen (Entry.recheck x.view))
      (e.modifyWalks d) hslot).complete _ _ _

theorem State.modifyEntry_completes : x.completes (x.modifyEntry n e d) .ok 0 := by
  have hiface : ∀ a : Arrival, a.state.iface = x.iface → x.completes ((a.walkIf (e.modifyWalks d)).asOne.completeWithImage n) .ok 0 :=
    fun a ha => State.completes_of_iface (by rw [Arrival.asOne_iface, Arrival.walkIf_state, ha]) _ _ _
  unfold State.modifyEntry
  refine hiface _ ?_
  split
  · rw [State.applyAt_state_iface]; rfl
  · rw [State.applyAt_state_iface]; rfl

theorem State.modifyEntry_shows : (x.modifyEntry n e d).shows ((x.modifyEntry n e d).entryImage n) :=
  State.completeWithImage_shows _ _

theorem State.modifyEntry_others : x.otherSlotsKept (x.modifyEntry n e d) n := fun m hm => by
  rw [State.modifyEntry_moved.others m hm, State.redefinedAt_eq]
  exact x.putEntry_slot_other _ hm

theorem State.modifyEntry_frame : x.modifyEntry n e d = { x with
    table := (x.modifyEntry n e d).table, zones := (x.modifyEntry n e d).zones, owed := (x.modifyEntry n e d).owed
    iface := (x.modifyEntry n e d).iface } :=
  (x.modifyEntry_tableFrame n e d).of_turn (by rw [State.modifyEntry_moved.turn, State.redefinedAt_eq]; rfl)

theorem State.modifyEntry_zonesMoved {y : Effect} (hy : Entry.modified x.view e (e.redefined d x.levels) = y)
    (hd : y.entry.defn = d) : x.zonesMoved (x.modifyEntry n e d) d.claim y.zones := by
  intro z
  rw [State.modifyEntry_moved.zones z, hy, State.redefinedAt_eq, ← hd]
  rfl

/-- What is on its way after a MODIFY that ends nothing. -/
theorem State.modifyEntry_owed {y : Effect} (hy : Entry.modified x.view e (e.redefined d x.levels) = y) (hended : y.ended = none) :
    (x.modifyEntry n e d).owed = { x.owed with
      transitions := if e.modifyTransition (e.redefined d x.levels) = none then x.owed.transitions
        else x.owed.transitions.filter fun z => z.entry != n
      walks := x.owed.walks + if y.causesWalk || e.modifyWalks d then 1 else 0 } := by
  rw [State.modifyEntry_moved.owed_eq (by rw [hy]; exact hended), hy, Effect.walkingIf_causesWalk, State.redefinedAt_eq]

theorem State.modifyEntry_transitions : (x.modifyEntry n e d).owed.transitions =
    if e.modifyTransition (e.redefined d x.levels) = none then x.owed.transitions
    else x.owed.transitions.filter fun z => z.entry != n := by
  rw [State.modifyEntry_moved.transitions, State.redefinedAt_eq]

theorem exec_modify_taken {s : State} (hp : s.inProgress 0x11 = true) (hx : s.settleSelf = x) (hn : x.namedEntry = some n)
    (hb : x.isProtected n = false) (he : x.table[n] = some e) (hfault : definitionFault x.input = none)
    (hd : d = Definition.ofRecord x.input) (hl : x.badLink n d = false) (ha : e.activeFault d = none) :
    exec .modify s = .next (x.modifyEntry n e d) := by
  subst hd
  rw [exec_modify hp, hx, (x.modify_refusals hn).2 hb |>.2 e he, State.modifyAt, State.onRecord_taken hfault hl, ha]

end

/-! ### The effect of a MODIFY, by the state of its entry (Table 4 of Chapter 1) -/

theorem Entry.permitTransition_of_inactive {v : View} {value : Bool} {e : Entry} (h : e.phase.isActive = false) :
    e.permitTransition v value = Effect.only e := by
  unfold Entry.permitTransition
  split
  · simp_all [Phase.isActive]
  · simp_all [Phase.isActive]
  · simp_all [Phase.isActive]
  · rfl

theorem Entry.modified_of_inactive {v : View} {e new : Entry} (h : new.phase.isActive = false) :
    Entry.modified v e new = new.recheck v := by
  unfold Entry.modified
  split
  · rfl
  · rw [Entry.permitTransition_of_inactive h, Effect.only_andThen]

theorem Entry.modifyTransition_congr {e new new' : Entry} (h : new'.storedPermit = new.storedPermit) :
    e.modifyTransition new' = e.modifyTransition new := by
  unfold Entry.modifyTransition; rw [h]

theorem Entry.modifyWalks_of_inactive {e : Entry} {d : Definition} (h : e.phase.isActive = false) : e.modifyWalks d = false := by
  unfold Entry.modifyWalks
  cases hp : e.phase <;> simp_all [Phase.isActive]

/-- Settles O8: an inactive entry takes the LEVEL re-check alone. -/
theorem modifyReplacesDefinition : Obligations.ModifyReplacesDefinition := by
  rintro s x n e hp rfl hn hb he ha hfault hl
  generalize hx : s.settleSelf = x at *
  have hexec := exec_modify_taken hp hx hn hb he hfault rfl hl (Entry.activeFault_of_inactive ha)
  generalize Definition.ofRecord x.input = d at *
  have heffect : Entry.modified x.view e (e.redefined d x.levels) = (e.redefined d x.levels).recheck x.view :=
    Entry.modified_of_inactive ha
  have hslot := State.modifyEntry_moved (x := x) (n := n) (e := e) (d := d).slot
  have howed := State.modifyEntry_owed (n := n) heffect (Entry.recheck_ended _ _)
  rw [heffect] at hslot
  rw [Entry.modifyWalks_of_inactive ha, Bool.or_false] at howed
  have hzones : (x.modifyEntry n e d).zones = x.zones := by
    ext z hz : 1
    have := State.modifyEntry_zonesMoved (n := n) heffect (Entry.recheck_defn _ _) ⟨z, hz⟩
    rw [Entry.recheck_zones] at this
    simpa [ZoneEffect.apply] using this
  have hframe : x.modifyEntry n e d = { x with
      table := (x.modifyEntry n e d).table, owed := (x.modifyEntry n e d).owed, iface := (x.modifyEntry n e d).iface } := by
    have := State.modifyEntry_frame (x := x) (n := n) (e := e) (d := d)
    rwa [hzones] at this
  have hrest : x.otherSlotsKept (x.modifyEntry n e d) n ∧ x.completes (x.modifyEntry n e d) .ok 0
      ∧ (x.modifyEntry n e d).shows ((x.modifyEntry n e d).entryImage n)
      ∧ x.modifyEntry n e d = { x with
          table := (x.modifyEntry n e d).table, owed := (x.modifyEntry n e d).owed, iface := (x.modifyEntry n e d).iface } :=
    ⟨State.modifyEntry_others, State.modifyEntry_completes, State.modifyEntry_shows, hframe⟩
  have hwaiting : (x.modifyEntry n e d).owed = { x.owed with
      walks := (x.modifyEntry n e d).owed.walks, transitions := (x.modifyEntry n e d).owed.transitions } := by
    rw [howed]
  have htransitions := State.modifyEntry_transitions (x := x) (n := n) (e := e) (d := d)
  by_cases h : e.phase = .armed ∧ x.levelHolds d
  · rw [Entry.recheck_taken (e := e.redefined d x.levels) h.1 h.2] at hslot howed
    refine ⟨_, _, hexec, hslot, rfl, rfl, rfl, rfl, rfl, rfl, fun hn => absurd h hn, fun _ _ => ⟨rfl, rfl, by rw [howed]; rfl⟩,
      fun ht => ?_, fun ht => ?_, hwaiting, hrest⟩
    · exact htransitions.trans
        (if_pos ((Entry.modifyTransition_congr (new := e.redefined d x.levels) rfl).symm.trans ht))
    · exact htransitions.trans
        (if_neg fun h' => ht ((Entry.modifyTransition_congr (new := e.redefined d x.levels) rfl).trans h'))
  · rw [Entry.recheck_passed (e := e.redefined d x.levels) h] at hslot howed
    refine ⟨_, _, hexec, hslot, rfl, rfl, rfl, rfl, rfl, rfl, fun _ => ⟨rfl, rfl, by rw [howed]; rfl⟩,
      fun hp hl => absurd ⟨hp, hl⟩ h, fun ht => ?_, fun ht => ?_, hwaiting, hrest⟩
    · exact htransitions.trans
        (if_pos ((Entry.modifyTransition_congr (new := e.redefined d x.levels) rfl).symm.trans ht))
    · exact htransitions.trans
        (if_neg fun h' => ht ((Entry.modifyTransition_congr (new := e.redefined d x.levels) rfl).trans h'))

/-- A permit value that has become false belongs to a permit. -/
theorem Entry.hasPermit_of_transition {e : Entry} {d : Definition} {levels : Levels}
    (h : e.modifyTransition (e.redefined d levels) = some false) : d.hasPermit = true := by
  by_contra hp
  have hnone : (e.redefined d levels).storedPermit = none := by
    simp only [Entry.redefined, Definition.permitValue, if_neg hp]
  unfold Entry.modifyTransition at h
  rw [hnone] at h
  split at h <;> simp at h

theorem Entry.modified_of_transition {v : View} {e new : Entry} {value : Bool} (h : e.modifyTransition new = some value) :
    Entry.modified v e new = (new.permitTransition v value).andThen (Entry.recheck v) := by
  unfold Entry.modified
  rw [h]

theorem Entry.modified_of_none {v : View} {e new : Entry} (h : e.modifyTransition new = none) :
    Entry.modified v e new = new.recheck v := by
  unfold Entry.modified
  rw [h]

/-- A resolution has made its re-check; a second one finds nothing to do. -/
theorem Entry.resolve_andThen_recheck {s : State} (o : EntryOutcome) (e : Entry) :
    (e.resolve s.view o).andThen (Entry.recheck s.view) = e.resolve s.view o := by
  refine Effect.andThen_only (Entry.recheck_passed fun h => ?_)
  rw [Entry.resolve_defn] at h
  by_cases h' : e.defn.nextPhase o = .armed ∧ s.levelHolds e.defn
  · rw [Entry.resolve, (Entry.settle_taken h'.1 h'.2).1] at h
    simp at h
  · rw [Entry.resolve, (Entry.settle_passed h').1] at h
    exact h' ⟨h.1, h.2⟩

section
variable {s : State} {e : Entry} {r : RunState}

theorem Entry.permitTransition_gate {v : View} (hp : e.phase = .running r) (hd : e.defn.hasPermit = true)
    (hm : e.defn.permitMode = .gate) :
    e.permitTransition v false = { Effect.only { e with phase := .paused r } with zones := .pause } := by
  unfold Entry.permitTransition
  simp only [hp, hd, hm, if_true]

theorem Entry.permitTransition_abort {v : View} (hp : e.phase = .running r) (hd : e.defn.hasPermit = true)
    (hm : e.defn.permitMode = .abort) : e.permitTransition v false = e.resolve v .aborted := by
  unfold Entry.permitTransition
  split
  · rw [if_pos hd, hm]
  · simp_all
  · simp_all
  · simp_all

theorem Entry.permitTransition_resume {v : View} (hp : e.phase = .paused r) :
    e.permitTransition v true = { Effect.only { e with phase := .running r } with zones := .resume } := by
  unfold Entry.permitTransition
  simp only [hp]

theorem Entry.permitTransition_due {v : View} {w : WaitState} (hp : e.phase = .due w) :
    e.permitTransition v true = { Effect.only e with walk := true } := by
  unfold Entry.permitTransition
  split
  · simp_all
  · simp_all
  · rfl
  · simp_all

theorem Entry.permitTransition_idle {v : View} {value : Bool}
    (h : (value = false ∧ ((∀ r, e.phase ≠ .running r) ∨ e.defn.hasPermit = false))
      ∨ (value = true ∧ (∀ r, e.phase ≠ .paused r) ∧ ∀ w, e.phase ≠ .due w)) :
    e.permitTransition v value = Effect.only e := by
  unfold Entry.permitTransition
  split
  · next r hp =>
    rcases h with ⟨-, hr | hd⟩ | ⟨h, -⟩
    · exact absurd hp (hr r)
    · rw [if_neg (by simp [hd])]
    · cases h
  · next r hp =>
    rcases h with ⟨h, -⟩ | ⟨-, hr, -⟩
    · cases h
    · exact absurd hp (hr r)
  · next w hp =>
    rcases h with ⟨h, -⟩ | ⟨-, -, hw⟩
    · cases h
    · exact absurd hp (hw w)
  · rfl

end

/-- A re-check after an effect that leaves the entry in a state other than ARMED. -/
theorem Effect.andThen_recheck {s : State} {a : Effect} (h : a.entry.phase ≠ .armed) : a.andThen (Entry.recheck s.view) = a :=
  Effect.andThen_only (Entry.recheck_passed fun h' => h h'.1)

theorem Entry.modifyTransition_iff {e e' : Entry} {value : Bool} : e.modifyTransition e' = some value ↔
    e.storedPermit.getD true ≠ value ∧ e'.storedPermit.getD true = value := by
  unfold Entry.modifyTransition
  split
  · next h => exact ⟨nofun, fun h' => absurd (h.trans h'.2) h'.1⟩
  · next h =>
    rw [Option.some.injEq]
    exact ⟨fun h' => ⟨fun h'' => h (h''.trans h'.symm), h'⟩, fun h' => h'.2⟩

theorem Entry.modifyWalks_iff {e : Entry} {d : Definition} : e.modifyWalks d = true ↔
    ((∃ w, e.phase = .due w) ∧ (e.defn.priority ≠ d.priority ∨ e.defn.preempt ≠ d.preempt))
      ∨ (e.phase.ownsZones = true ∧ e.defn.priority ≠ d.priority) := by
  unfold Entry.modifyWalks
  cases e.phase <;> simp [Phase.ownsZones]

theorem Entry.not_armed_of_active {e : Entry} (h : e.phase.isActive = true) : e.phase ≠ .armed := fun hp => by
  rw [hp] at h; cases h

@[simp] theorem Entry.recheck_storedPermit (v : View) (e : Entry) : (e.recheck v).entry.storedPermit = e.storedPermit := by
  unfold Entry.recheck; split <;> rfl

@[simp] theorem Entry.recheck_lastStart (v : View) (e : Entry) : (e.recheck v).entry.lastStart = e.lastStart := by
  unfold Entry.recheck; split <;> rfl

theorem Entry.resolve_storedPermit (v : View) (o : EntryOutcome) (e : Entry) :
    (e.resolve v o).entry.storedPermit = e.storedPermit := by
  rw [Entry.resolve, Entry.settle_entry, Entry.recheck_storedPermit]
  cases o <;> rfl

theorem Entry.permitTransition_storedPermit (v : View) (value : Bool) (e : Entry) :
    (e.permitTransition v value).entry.storedPermit = e.storedPermit := by
  unfold Entry.permitTransition
  split
  · split
    · split
      · rfl
      · exact Entry.resolve_storedPermit _ _ _
    · rfl
  all_goals rfl

theorem Entry.modified_defn {v : View} (old new : Entry) : (Entry.modified v old new).entry.defn = new.defn := by
  unfold Entry.modified
  split
  · exact Entry.recheck_defn _ _
  · exact (Entry.recheck_defn _ _).trans (Entry.permitTransition_defn _ _ _)

theorem Entry.modified_storedPermit {v : View} (old new : Entry) :
    (Entry.modified v old new).entry.storedPermit = new.storedPermit := by
  unfold Entry.modified
  split
  · exact Entry.recheck_storedPermit _ _
  · exact (Entry.recheck_storedPermit _ _).trans (Entry.permitTransition_storedPermit _ _ _)

/-- A DUE entry keeps its status; its permit's becoming true causes a walk. -/
theorem Entry.modified_of_due {s : State} {e : Entry} {d : Definition} {w : WaitState} (hw : e.phase = .due w) :
    ∃ y, Entry.modified s.view e (e.redefined d s.levels) = y ∧ y.entry = e.redefined d s.levels ∧ y.zones = .keep
      ∧ y.ended = none ∧ (y.causesWalk = true ↔ e.modifyTransition (e.redefined d s.levels) = some true) := by
  have harmed : (e.redefined d s.levels).phase ≠ .armed := by simp [Entry.redefined, hw]
  cases ht : e.modifyTransition (e.redefined d s.levels) with
  | none =>
    exact ⟨_, (Entry.modified_of_none ht).trans (Entry.recheck_passed fun h => harmed h.1), rfl, rfl, rfl, by
      simp [Effect.causesWalk, Effect.only]⟩
  | some value =>
    cases value with
    | false =>
      refine ⟨Effect.only (e.redefined d s.levels), (Entry.modified_of_transition ht).trans ?_, rfl, rfl, rfl, by
        simp [Effect.causesWalk, Effect.only]⟩
      rw [Entry.permitTransition_idle (e := e.redefined d s.levels)
        (Or.inl ⟨rfl, Or.inl fun _ h => by simp [Entry.redefined, hw] at h⟩)]
      exact Effect.andThen_recheck harmed
    | true =>
      refine ⟨{ Effect.only (e.redefined d s.levels) with walk := true }, (Entry.modified_of_transition ht).trans ?_, rfl, rfl, rfl,
        by simp [Effect.causesWalk]⟩
      rw [Entry.permitTransition_due (e := e.redefined d s.levels) hw]
      exact Effect.andThen_recheck harmed

section
variable {x : State} {n : EntryIx} {e : Entry} {d : Definition}

/-- A MODIFY whose effect leaves the redefined entry as it is. -/
theorem State.modifyEntry_only (h : Entry.modified x.view e (e.redefined d x.levels) = Effect.only (e.redefined d x.levels)) :
    (x.modifyEntry n e d).table[n] = some (e.redefined d x.levels) ∧ x.zonesMoved (x.modifyEntry n e d) d.claim .keep
      ∧ (x.modifyEntry n e d).owed = { x.owed with
          transitions := (x.modifyEntry n e d).owed.transitions
          walks := x.owed.walks + if e.modifyWalks d then 1 else 0 } := by
  have howed := State.modifyEntry_owed (n := n) h rfl
  refine ⟨?_, State.modifyEntry_zonesMoved h rfl, ?_⟩
  · rw [State.modifyEntry_moved.slot, h]
    rfl
  · rw [howed]
    rfl

/-- A MODIFY whose effect ends nothing. -/
theorem State.modifyEntry_effect {y : Effect} (h : Entry.modified x.view e (e.redefined d x.levels) = y) (hended : y.ended = none)
    (hd : y.entry.defn = d) :
    (x.modifyEntry n e d).table[n] = some y.entry ∧ x.zonesMoved (x.modifyEntry n e d) d.claim y.zones
      ∧ (x.modifyEntry n e d).owed.walks = x.owed.walks + if y.causesWalk || e.modifyWalks d then 1 else 0 := by
  refine ⟨?_, State.modifyEntry_zonesMoved h hd, ?_⟩
  · rw [State.modifyEntry_moved.slot, h]
    rfl
  · rw [State.modifyEntry_owed h hended]

/-- R17: a RUNNING entry under ABORT whose permit a MODIFY makes false. -/
theorem State.modifyEntry_aborts
    (h : Entry.modified x.view e (e.redefined d x.levels) = (e.redefined d x.levels).resolve x.view .aborted) {y : State}
    {g : FollowGroup} (hy : y = x.putEntry n (some (e.redefined d x.levels)))
    (hg : g = y.endGroup n (e.redefined d x.levels) .aborted (d.nextPhase .aborted)) :
    ({ x with owed := { x.owed with transitions := (x.modifyEntry n e d).owed.transitions } } : State).handsOn
      (x.modifyEntry n e d) { g with walk := g.walk || e.modifyWalks d } := by
  have howed := (State.modifyEntry_moved (x := x) (n := n) (e := e) (d := d)).owed
  rw [h, State.effectGroup_walkingIf] at howed
  have hgroup : (x.redefinedAt n e d).effectGroup n ((e.redefined d x.levels).resolve x.view .aborted) = g := by
    rw [State.redefinedAt_eq, hg, hy]
    exact State.effectGroup_settle (s := x.putEntry n (some (e.redefined d x.levels))) n
  rw [hgroup] at howed
  refine howed.of_owed ?_ rfl
  rw [State.modifyEntry_transitions, State.redefinedAt_eq]

end

/-- Settles O9: the effect of a MODIFY, state by state of the active entry. -/
theorem modifyOfActiveEntry : Obligations.ModifyOfActiveEntry := by
  refine ⟨fun _ _ _ => rfl, fun e d ha => Entry.activeFault_none ha, fun e d => Entry.modifyWalks_iff,
    fun e e' value => Entry.modifyTransition_iff, ?_⟩
  rintro s x n e d hp rfl hn hb he ha hfault hd hl haf
  generalize hx : s.settleSelf = x at *
  have hexec := exec_modify_taken hp hx hn hb he hfault hd hl haf
  have harmed : (e.redefined d x.levels).phase ≠ .armed := Entry.not_armed_of_active ha
  refine ⟨_, (Entry.modified x.view e (e.redefined d x.levels)).entry, hexec, State.modifyEntry_moved.slot, ?_,
    State.modifyEntry_completes, State.modifyEntry_shows, State.modifyEntry_others, ?_⟩
  · rw [Entry.modified_defn]; rfl
  · have hsame : e.modifyTransition (Entry.modified x.view e (e.redefined d x.levels)).entry
        = e.modifyTransition (e.redefined d x.levels) :=
      Entry.modifyTransition_congr (Entry.modified_storedPermit _ _)
    rw [hsame]
    refine ⟨fun ht => ?_, fun ht => ?_, fun r hr ht hm => ?_, fun r hr ht hm => ?_, fun r hr ht => ?_, fun r hr => ?_, fun w hw => ?_,
      State.modifyEntry_frame⟩
    · have h : Entry.modified x.view e (e.redefined d x.levels) = Effect.only (e.redefined d x.levels) :=
        (Entry.modified_of_none ht).trans (Entry.recheck_passed fun h => harmed h.1)
      obtain ⟨-, hzones, howed⟩ := State.modifyEntry_only (n := n) h
      refine ⟨by rw [h]; rfl, hzones, ?_⟩
      rw [howed, State.modifyEntry_transitions, if_pos ht]
    · rw [State.modifyEntry_transitions, if_neg ht]
    · have h : Entry.modified x.view e (e.redefined d x.levels)
          = { Effect.only { e.redefined d x.levels with phase := .paused r } with zones := .pause } := by
        rw [Entry.modified_of_transition ht,
          Entry.permitTransition_gate (e := e.redefined d x.levels) hr (Entry.hasPermit_of_transition ht) hm]
        exact Effect.andThen_recheck (by simp [Effect.only])
      obtain ⟨-, hzones, hwalks⟩ := State.modifyEntry_effect (n := n) h rfl rfl
      exact ⟨by rw [h]; rfl, hzones, hwalks⟩
    · have h : Entry.modified x.view e (e.redefined d x.levels) = (e.redefined d x.levels).resolve x.view .aborted := by
        rw [Entry.modified_of_transition ht,
          Entry.permitTransition_abort (e := e.redefined d x.levels) hr (Entry.hasPermit_of_transition ht) hm]
        exact Entry.resolve_andThen_recheck _ _
      have hsettled := Entry.settled_of_end (e := e.redefined d x.levels) (o := .aborted) rfl
        ((e.redefined d x.levels).defn.nextPhase .aborted)
      have hzones : ((e.redefined d x.levels).resolve x.view .aborted).zones = .release := by
        rw [Entry.resolve, Entry.settle_zones]
        simp [Entry.redefined, hr, Phase.ownsZones]
      refine ⟨?_, ?_, ?_, ?_, ?_, hzones ▸ State.modifyEntry_zonesMoved h (Entry.resolve_defn _ _ _),
        fun y g hy hg => State.modifyEntry_aborts h hy hg⟩ <;> rw [h]
      · exact Entry.resolve_defn _ _ _
      · exact Entry.settle_lastOutcome _ _ _ _
      · rw [Entry.resolve, Entry.settle_entry, Entry.recheck_lastStart]
        rw [hsettled]
        rfl
      · rw [Entry.resolve, Entry.settle_entry, Entry.recheck_pending]
        rw [hsettled]
      · by_cases h' : d.nextPhase .aborted = .armed ∧ x.levelHolds d
        · exact Or.inr ⟨h'.1, h'.2, congrArg Entry.phase (Entry.settle_taken (e := e.redefined d x.levels) h'.1 h'.2).1⟩
        · exact Or.inl (congrArg Entry.phase (Entry.settle_passed (e := e.redefined d x.levels) h').1)
    · have h : Entry.modified x.view e (e.redefined d x.levels)
          = { Effect.only { e.redefined d x.levels with phase := .running r } with zones := .resume } := by
        rw [Entry.modified_of_transition ht, Entry.permitTransition_resume (e := e.redefined d x.levels) hr]
        exact Effect.andThen_recheck (by simp [Effect.only])
      obtain ⟨-, hzones, hwalks⟩ := State.modifyEntry_effect (n := n) h rfl rfl
      exact ⟨by rw [h]; rfl, hzones, hwalks⟩
    · have h : Entry.modified x.view e (e.redefined d x.levels) = Effect.only (e.redefined d x.levels) := by
        rcases hr with ⟨hr, ht⟩ | ⟨hr, ht⟩
        · rw [Entry.modified_of_transition ht, Entry.permitTransition_idle (e := e.redefined d x.levels)
            (Or.inl ⟨rfl, Or.inl fun _ h' => by simp [Entry.redefined, hr] at h'⟩)]
          exact Effect.andThen_recheck harmed
        · rw [Entry.modified_of_transition ht, Entry.permitTransition_idle (e := e.redefined d x.levels)
            (Or.inr ⟨rfl, fun _ h' => by simp [Entry.redefined, hr] at h', fun _ h' => by simp [Entry.redefined, hr] at h'⟩)]
          exact Effect.andThen_recheck harmed
      obtain ⟨-, hzones, howed⟩ := State.modifyEntry_only (n := n) h
      exact ⟨by rw [h]; rfl, hzones, howed⟩
    · obtain ⟨y, h, hentry, hkeep, hended, hcauses⟩ := Entry.modified_of_due (d := d) (s := x) hw
      obtain ⟨-, hzones, hwalks⟩ := State.modifyEntry_effect (n := n) h hended (by rw [hentry]; rfl)
      refine ⟨by rw [h]; exact hentry, hkeep ▸ hzones, ?_⟩
      rw [hwalks]
      simp only [Bool.or_eq_true, hcauses]

end Sys2Proof.Machine
end

section
/-! ## Triggers, second events and the notice groups -/
namespace Sys2Proof.Machine

/-! ### What a trigger does, by the state of its entry (R26 to R30) -/

section
variable {v : View} {e : Entry} {levels : Levels} {snapshot : Option Levels} {r : RunState}

/-- R27, R29: a DUE or a CONFIRMING entry drops a trigger with OVERLAP. -/
theorem Entry.trigger_dropped (hl : v.live = true) (hp : (∃ w, e.phase = .due w) ∨ e.phase = .confirming) :
    e.trigger v levels snapshot = Effect.only { e with pending := e.noted .overlap } := by
  show _ = Effect.only (e.note .overlap)
  unfold Entry.trigger
  rw [if_pos hl]
  rcases hp with ⟨w, hp⟩ | hp <;> rw [hp]

theorem Entry.trigger_resting (hp : e.phase = .held ∨ e.phase = .spent) : e.trigger v levels snapshot = Effect.only e := by
  unfold Entry.trigger
  rcases hp with hp | hp <;> rw [hp] <;> exact ite_self _

/-- R28: IGNORE drops a trigger at an entry that owns its zones. -/
theorem Entry.trigger_ignored (hl : v.live = true) (hp : e.phase.ownsZones = true) (hr : e.defn.retrigger = .ignore) :
    e.trigger v levels snapshot = Effect.only { e with pending := e.noted .overlap } := by
  show _ = Effect.only (e.note .overlap)
  unfold Entry.trigger
  rw [if_pos hl, hr]
  cases hphase : e.phase with
  | running r | paused r => rfl
  | armed | held | due w | confirming | spent => simp [hphase, Phase.ownsZones] at hp

theorem Entry.trigger_restarts_running (hl : v.live = true) (hp : e.phase = .running r) (hr : e.defn.retrigger = .restart) :
    e.trigger v levels snapshot = Effect.only { e with phase := .running r.restarted, snapshot := snapshot } := by
  unfold Entry.trigger
  rw [if_pos hl, hp, hr]

theorem Entry.trigger_restarts_paused (hl : v.live = true) (hp : e.phase = .paused r) (hr : e.defn.retrigger = .restart) :
    e.trigger v levels snapshot = Effect.only { e with phase := .paused r.restarted, snapshot := snapshot } := by
  unfold Entry.trigger
  rw [if_pos hl, hp, hr]

theorem RunState.restarted_eq (r : RunState) : r.restarted = { r with
    counter := r.duration
    subMinute := if r.subMinute.isSome then some 0 else none
    capCount := if r.capCount.isSome then some { elapsed := 0, seconds := 0 } else none } := by
  unfold RunState.restarted
  cases r.subMinute <;> cases r.capCount <;> rfl

/-- A false permit keeps a LEVEL pattern from being taken at the same levels. -/
theorem Entry.recheck_of_permit (h : e.defn.permitHolds v.levels = false) : e.recheck v = Effect.only e := by
  rw [Definition.permitHolds, Bool.or_eq_false_iff] at h
  unfold Entry.recheck Entry.recheckTakes
  rw [h.2, Bool.and_false]
  rfl

/-- A resolution that is no end of a run, releases nothing and is followed by no LEVEL trigger. -/
theorem Entry.settle_unchecked {o : EntryOutcome} {next : Phase} (hz : e.phase.ownsZones = false) (ho : o.isEnd = false)
    (h : (e.settled o next).recheck v = Effect.only (e.settled o next)) : e.settle v o next = Effect.only (e.settled o next) := by
  have hentry : (e.settle v o next).entry = e.settled o next := congrArg Effect.entry h
  have hwalk : (e.settle v o next).walk = false := congrArg Effect.walk h
  have hzones := Entry.settle_zones v o next e
  have hended := Entry.settle_ended v o next e
  rw [hz] at hzones
  rw [ho, Bool.and_false] at hended
  generalize e.settle v o next = x at *
  cases x
  cases hentry; cases hwalk; cases hzones; cases hended
  rfl

/-- R26, R110: a false permit makes a trigger at an ARMED entry resolve BLOCKED. -/
theorem Entry.trigger_armed_blocked (hl : v.live = true) (hp : e.phase = .armed) (h : e.defn.permitHolds v.levels = false) :
    e.trigger v v.levels snapshot = Effect.only { e with
      phase := if e.defn.rep = .once then .spent else .armed
      snapshot := snapshot
      lastOutcome := some .blocked
      pending := e.noted .skip } := by
  rw [Entry.trigger_armed hl hp, if_neg (by simp [h]), Entry.resolve,
    Entry.settle_unchecked (e := { e with snapshot := snapshot }) (by rw [hp]; rfl) rfl
      (Entry.recheck_of_permit (by rwa [Entry.settled_defn])),
    Entry.settled_of_skip (Or.inr rfl), Definition.nextPhase_of_unconfirmed _ (Or.inr (Or.inr rfl)), Definition.afterUse_eq]
  rfl

end

/-- Settles O33, state by state. -/
theorem triggerRules : Obligations.TriggerRules := by
  refine fun v e levels snapshot => ⟨fun hl => Entry.trigger_of_not_live hl levels snapshot e, fun hl =>
    ⟨fun hp hpermit => Entry.trigger_due hl hp hpermit, fun hp hpermit heq => ?_, Entry.trigger_resting,
      fun hp => Entry.trigger_dropped hl (Or.inr hp), Entry.trigger_ignored hl, fun r hp hr => ?_, fun r hp hr => ?_⟩⟩
  · subst heq
    exact Entry.trigger_armed_blocked hl hp hpermit
  · rw [← RunState.restarted_eq]
    exact Entry.trigger_restarts_running hl hp hr
  · rw [← RunState.restarted_eq]
    exact Entry.trigger_restarts_paused hl hp hr

/-- Settles O16: each of the three sources delivers `Entry.trigger` to a DUE entry. -/
theorem triggerAtDueEntryIsDropped : Obligations.TriggerAtDueEntryIsDropped := by
  intro v e w levels snapshot hl hp
  have hdropped : ∀ levels snapshot, e.trigger v levels snapshot = Effect.only { e with pending := e.noted .overlap } :=
    fun _ _ => Entry.trigger_dropped hl (Or.inl ⟨w, hp⟩)
  refine ⟨hdropped _ _, fun hk => ?_, fun hk => ?_, ?_⟩
  · rw [Entry.patternTrigger, hdropped, hk, hp]
    simp [Phase.ownsZones]
  · rw [Entry.followEvent, hdropped, hk]
    rfl
  · unfold Entry.secondEvent
    simp only [if_true, Bool.not_true, Bool.and_false, Bool.false_eq_true, if_false, hdropped]
    exact Effect.only_andThen _ _

/-! ### One counted second (R101 to R104, R134, R135) -/

theorem WaitState.next_within (w : WaitState) (h : w.seconds < 59) : w.next = { w with seconds := w.seconds + 1 } :=
  if_pos (by omega)

theorem WaitState.next_minute (w : WaitState) (h : w.seconds = 59) :
    w.next = { w with seconds := 0, elapsed := min 255 (w.elapsed + 1) } :=
  if_neg (by omega)

theorem CapCount.next_within (c : CapCount) (h : c.seconds < 59) : c.next = { c with seconds := c.seconds + 1 } := if_pos (by omega)

theorem CapCount.next_minute (c : CapCount) (h : c.seconds = 59) : c.next = { elapsed := c.elapsed + 1, seconds := 0 } :=
  if_neg (by omega)

section
variable {r : RunState} {c : CapCount}

theorem RunState.countCap_none (h : r.capCount = none) : r.countCap = r ∧ r.capEnds = false := by
  obtain ⟨counter, subMinute, duration, cap, capCount⟩ := r
  obtain rfl : capCount = none := h
  exact ⟨rfl, rfl⟩

theorem RunState.countCap_some (h : r.capCount = some c) : r.countCap = { r with capCount := some c.next } := by
  rw [RunState.countCap, h]; rfl

theorem RunState.capEnds_some (h : r.capCount = some c) : r.capEnds = decide (r.cap ≤ c.next.elapsed) := by
  rw [RunState.capEnds, h]

end

section
variable {e : Entry} {r : RunState} {w : WaitState}

theorem Entry.secondEnds_running (hp : e.phase = .running r) : e.secondEnds =
    if r.secondEnds e.defn.unit then some .completed else if r.capEnds then some .capped else none := by
  rw [Entry.secondEnds, hp]

theorem Entry.secondEnds_paused (hp : e.phase = .paused r) : e.secondEnds = if r.capEnds then some .capped else none := by
  rw [Entry.secondEnds, hp]

theorem Entry.secondEnds_due (hp : e.phase = .due w) : e.secondEnds =
    if 0 < e.defn.waitLimit ∧ e.defn.waitLimit ≤ w.next.elapsed then some (if w.remaining.isSome then .aborted else .skipped)
    else none := by
  rw [Entry.secondEnds, hp]
  simp only [Bool.and_eq_true, decide_eq_true_eq]
  split <;> simp only [apply_ite some]

theorem Entry.countOn_running (hp : e.phase = .running r) :
    e.countOn = { e with phase := .running (r.countSecond e.defn.unit).countCap } := by
  rw [Entry.countOn, hp]

theorem Entry.countOn_paused (hp : e.phase = .paused r) : e.countOn = { e with phase := .paused r.countCap } := by
  rw [Entry.countOn, hp]

theorem Entry.countOn_due (hp : e.phase = .due w) : e.countOn = { e with phase := .due w.next } := by
  rw [Entry.countOn, hp]

/-- A counted second of a RUNNING run without a cap. -/
theorem Entry.count_uncapped (hp : e.phase = .running r) (hc : r.capCount = none) (hr : r.secondEnds e.defn.unit = false) :
    e.secondEnds = none ∧ e.countOn = { e with phase := .running (r.countSecond e.defn.unit) } := by
  have hcap : (r.countSecond e.defn.unit).capCount = none := by
    unfold RunState.countSecond
    split
    · exact hc
    · split <;> exact hc
    · exact hc
  rw [Entry.secondEnds_running hp, hr, (RunState.countCap_none hc).2, Entry.countOn_running hp, (RunState.countCap_none hcap).1]
  exact ⟨rfl, rfl⟩

theorem Entry.completes_of_secondEnds (hp : e.phase = .running r) (hr : r.secondEnds e.defn.unit = true) :
    e.secondEnds = some .completed := by
  rw [Entry.secondEnds_running hp, if_pos hr]

end

/-- R104: what a counted second does to a run cap that counts, with `made` the phase of a run. -/
def Entry.CapCounts (e : Entry) (made : RunState → Phase) (r : RunState) (c : CapCount) : Prop :=
  (c.seconds < 59 → c.elapsed < r.cap → e.secondEnds = none
    ∧ e.countOn = { e with phase := made { r with capCount := some { c with seconds := c.seconds + 1 } } })
  ∧ (c.seconds = 59 → c.elapsed + 1 < r.cap → e.secondEnds = none
    ∧ e.countOn = { e with phase := made { r with capCount := some { elapsed := c.elapsed + 1, seconds := 0 } } })
  ∧ (c.seconds = 59 → c.elapsed + 1 = r.cap → e.secondEnds = some .capped)

/-- The cap counts alone where nothing else of the run counts. -/
theorem Entry.capCounts_of {e : Entry} {made : RunState → Phase} {r : RunState} {c : CapCount} (hc : r.capCount = some c)
    (hends : e.secondEnds = if r.capEnds then some .capped else none) (hon : e.countOn = { e with phase := made r.countCap }) :
    e.CapCounts made r c := by
  rw [RunState.capEnds_some hc] at hends
  rw [RunState.countCap_some hc] at hon
  refine ⟨fun hs hcap => ?_, fun hs hcap => ?_, fun hs hcap => ?_⟩
  · rw [c.next_within hs] at hends hon
    exact ⟨hends.trans (if_neg (by simp; omega)), hon⟩
  · rw [c.next_minute hs] at hends hon
    exact ⟨hends.trans (if_neg (by simp; omega)), hon⟩
  · rw [c.next_minute hs] at hends
    exact hends.trans (if_pos (by simp; omega))

/-- Settles O34: SECONDS and MINUTES, a run without a cap, the cap in RUNNING and in PAUSED, and the wait. -/
theorem countingRules : Obligations.CountingRules := by
  refine fun e => ⟨fun r hp hc hu => ⟨fun h => ?_, fun h => ?_⟩, fun r k hp hc hu hk => ⟨fun h => ?_, fun h h' => ?_, fun h h' => ?_⟩,
    fun r hp hc hu => ?_, fun r hp hc => ?_, fun r c hp hu hc => ?_, fun r c hp hc => ?_,
    fun w hp => ⟨fun hs h => ?_, fun hs _ h _ => ?_, fun h0 h255 h => ?_⟩⟩
  · have := Entry.count_uncapped hp hc (by rw [hu]; simp [RunState.secondEnds]; omega)
    rwa [hu] at this
  · exact Entry.completes_of_secondEnds hp (by rw [hu]; simp [RunState.secondEnds, h])
  · have := Entry.count_uncapped hp hc (by rw [hu]; simp [RunState.secondEnds, hk]; omega)
    rwa [hu, RunState.countSecond, hk, if_pos (by rw [Option.getD_some]; omega)] at this
  · have := Entry.count_uncapped hp hc (by rw [hu]; simp [RunState.secondEnds]; omega)
    rwa [hu, RunState.countSecond, hk, if_neg (by simp [h])] at this
  · exact Entry.completes_of_secondEnds hp (by rw [hu]; simp [RunState.secondEnds, h', hk, h])
  · have := Entry.count_uncapped hp hc (by rw [hu]; rfl)
    rwa [hu, RunState.countSecond, ← hp] at this
  · rw [Entry.secondEnds_paused hp, Entry.countOn_paused hp, (RunState.countCap_none hc).1, (RunState.countCap_none hc).2, ← hp]
    exact ⟨rfl, rfl⟩
  · refine Entry.capCounts_of (made := .running) hc ?_ ?_
    · rw [Entry.secondEnds_running hp, hu]; rfl
    · rw [Entry.countOn_running hp, hu]; rfl
  · exact Entry.capCounts_of (made := .paused) hc (Entry.secondEnds_paused hp) (Entry.countOn_paused hp)
  · rw [Entry.secondEnds_due hp, Entry.countOn_due hp, w.next_within hs]
    exact ⟨if_neg (by rintro ⟨h0, hle⟩; simp at hle; omega), rfl⟩
  · rw [Entry.secondEnds_due hp, Entry.countOn_due hp, w.next_minute hs]
    exact ⟨if_neg (by rintro ⟨h0, hle⟩; simp at hle; omega), rfl⟩
  · have hle : e.defn.waitLimit ≤ w.next.elapsed := by
      unfold WaitState.next
      split
      · rcases h with h | h
        · exact h
        · omega
      · simp only [le_min_iff]
        omega
    rw [Entry.secondEnds_due hp, if_pos ⟨h0, hle⟩]
    refine ⟨fun h => by rw [h]; rfl, fun h => by rw [if_pos h]⟩

/-! ### The notice groups (R150 to R154) -/

theorem pendingOf_ne_zero_iff {slot : Option Entry} : pendingOf slot ≠ 0 ↔ ∃ e, slot = some e ∧ e.pending ≠ 0 := by
  cases slot <;> simp [pendingOf]

/-- R152: each entry with a notice pending counts once. -/
theorem State.pendingGroups_eq (s : State) {groups : List EntryIx} (hnodup : groups.Nodup)
    (h : ∀ n : EntryIx, n ∈ groups ↔ ∃ e, s.table[n] = some e ∧ e.pending ≠ 0) :
    s.pendingGroups = groups.length + if s.device = 0 then 0 else 1 := by
  have hperm : ((List.finRange 48).filter fun n => pendingOf s.table[n] != 0).Perm groups := by
    refine (List.perm_ext_iff_of_nodup ((List.nodup_finRange 48).filter _) hnodup).mpr fun n => ?_
    rw [h n, ← pendingOf_ne_zero_iff]
    simp
  rw [State.pendingGroups, hperm.length_eq]

theorem State.noticePending_iff (s : State) : s.noticePending = true ↔
    s.device ≠ 0 ∨ ∃ (n : EntryIx) (e : Entry), s.table[n] = some e ∧ e.pending ≠ 0 := by
  simp only [State.noticePending, Bool.or_eq_true, bne_iff_ne, List.any_eq_true, List.mem_finRange, true_and, ← pendingOf_ne_zero_iff]

theorem State.intLow_iff (s : State) : s.intLow = true ↔ s.powered = true ∧ s.supply.condition = .main
    ∧ (s.device ≠ 0 ∨ ∃ (n : EntryIx) (e : Entry), s.table[n] = some e ∧ e.pending ≠ 0) := by
  simp only [State.intLow, Bool.and_eq_true, State.noticePending_iff, beq_iff_eq, and_assoc]

theorem State.pendingGroups_eq_zero_iff (s : State) : s.pendingGroups = 0 ↔ s.noticePending = false := by
  have hdevice : (if s.device = 0 then 0 else 1) = 0 ↔ s.device = 0 := by split <;> simp_all
  rw [Bool.eq_false_iff, ne_eq, State.noticePending_iff, State.pendingGroups, Nat.add_eq_zero_iff, hdevice,
    List.length_eq_zero_iff, List.filter_eq_nil_iff, and_comm, not_or, not_ne_iff, not_exists]
  simp only [← pendingOf_ne_zero_iff, bne_iff_ne, List.mem_finRange, true_implies]

theorem State.intLow_of_pendingGroups {s : State} (h : s.pendingGroups = 0) : s.intLow = false := by
  rw [State.intLow, s.pendingGroups_eq_zero_iff.mp h, Bool.and_false]

theorem Phase.code_lt (p : Phase) : p.code < 256 := by
  cases p <;> exact Nat.le_of_ble_eq_true rfl

theorem EntryOutcome.code_lt (o : Option EntryOutcome) : (o.map fun o => o.code).getD 0 < 256 := by
  rcases o with _ | o
  · decide
  · cases o <;> decide

/-- A record of five bytes, byte by byte. -/
theorem State.showsNotice_of_shows {t : State} {a b c d e : Byte} (h : t.shows [a, b, c, d, e]) :
    t.showsNotice a.toNat b.toNat c.toNat d.toNat e.toNat := by
  refine ⟨State.byte_of_shows h (by decide), State.byte_of_shows h (by decide), State.byte_of_shows h (by decide),
    State.byte_of_shows h (by decide), State.byte_of_shows h (by decide), fun k hlo hhi => State.byte_beyond h hlo (by omega)⟩

theorem State.showsNotice_entry {t : State} {n : EntryIx} {e : Entry} (h : t.shows (entryNoticeRecord n e)) :
    t.showsNotice n.val e.pending.toNat e.defn.tag.toNat e.phase.code ((e.lastOutcome.map fun o => o.code).getD 0) := by
  have hrecord := State.showsNotice_of_shows h
  rwa [byteOf_toNat, byteOf_toNat, byteOf_toNat, byteOf_toNat, Nat.mod_eq_of_lt (by omega),
    Nat.mod_eq_of_lt (e.pending.isLt.trans (by decide)), Nat.mod_eq_of_lt e.phase.code_lt,
    Nat.mod_eq_of_lt (EntryOutcome.code_lt _)] at hrecord

theorem State.showsNotice_device {t : State} {set : DeviceSet} (h : t.shows (deviceNoticeRecord set)) :
    t.showsNotice 0xFF set.toNat 0 0 0 := by
  have hrecord := State.showsNotice_of_shows h
  rwa [byteOf_toNat, Nat.mod_eq_of_lt (set.isLt.trans (by decide))] at hrecord

theorem slotPendingAt_iff {slot : Option Entry} {p : Fin 8} :
    slotPendingAt slot p = true ↔ ∃ e, slot = some e ∧ e.pending ≠ 0 ∧ e.defn.priority = p := by
  cases slot <;> simp [slotPendingAt]

theorem State.noticeOrder_eq (s : State) :
    s.noticeOrder = byPriority (List.finRange 48) fun n p => slotPendingAt s.table[n] p := rfl

theorem State.noticeOrder_eq_nil {s : State} (h : ∀ (n : EntryIx) e, s.table[n] = some e → e.pending = 0) : s.noticeOrder = [] := by
  rw [State.noticeOrder_eq, List.eq_nil_iff_forall_not_mem]
  intro n hn
  obtain ⟨-, p, hp⟩ := mem_byPriority.mp hn
  obtain ⟨e, he, hpending, -⟩ := slotPendingAt_iff.mp hp
  exact hpending (h n e he)

/-- R152: the first group is that of highest priority, and among equals that of lowest index. -/
theorem State.noticeOrder_head {s : State} {n : EntryIx} {e : Entry} (he : s.table[n] = some e) (hpending : e.pending ≠ 0)
    (hbest : ∀ (m : EntryIx) (x : Entry), s.table[m] = some x → x.pending ≠ 0 →
      x.defn.priority < e.defn.priority ∨ (x.defn.priority = e.defn.priority ∧ n ≤ m)) :
    ∃ rest, s.noticeOrder = n :: rest := by
  rw [State.noticeOrder_eq]
  refine head_byPriority (R := (· < ·)) (p := e.defn.priority) (List.pairwise_lt_finRange 48) (fun m p p' h h' => ?_)
    (List.mem_finRange n) (slotPendingAt_iff.mpr ⟨e, he, hpending, rfl⟩) fun m p' _ hm => ?_
  · obtain ⟨e₁, he₁, -, rfl⟩ := slotPendingAt_iff.mp h
    obtain ⟨e₂, he₂, -, rfl⟩ := slotPendingAt_iff.mp h'
    rw [Option.some.inj (he₁.symm.trans he₂)]
  · obtain ⟨x, hx, hx', rfl⟩ := slotPendingAt_iff.mp hm
    exact (hbest m x hx hx').imp id fun h => ⟨h.1, not_lt.mpr h.2⟩

/-- The answer of NEXT NOTICE. -/
def State.noticeAnswer (s : State) : State :=
  if s.device != 0 then s.giveDeviceGroup
  else
    match s.noticeOrder with
    | n :: _ => (match s.table[n] with
      | some e => s.giveEntryGroup n e
      | none => s.refuse .nothing 0)
    | [] => s.refuse .nothing 0

theorem exec_nextNotice {s : State} (h : s.inProgress 0x60 = true) : exec .nextNotice s = .next s.noticeAnswer := by
  show done (onCompletion 0x60 _ s) = _
  rw [onCompletion_taken _ _ _ h]
  rfl

theorem State.noticeAnswer_device {s : State} (h : s.device ≠ 0) : s.noticeAnswer = s.giveDeviceGroup :=
  if_pos (by simpa using h)

theorem State.noticeAnswer_entry {s : State} {n : EntryIx} {e : Entry} {rest : List EntryIx} (h : s.device = 0)
    (horder : s.noticeOrder = n :: rest) (he : s.table[n] = some e) : s.noticeAnswer = s.giveEntryGroup n e := by
  rw [State.noticeAnswer, if_neg (by simp [h]), horder]
  simp only [he]

theorem State.noticeAnswer_nothing {s : State} (h : s.device = 0) (horder : s.noticeOrder = []) :
    s.noticeAnswer = s.refuse .nothing 0 := by
  rw [State.noticeAnswer, if_neg (by simp [h]), horder]

theorem State.giveDeviceGroup_completes (s : State) :
    s.completes s.giveDeviceGroup .ok (byteOf s.giveDeviceGroup.pendingGroups) :=
  State.completes_of_iface (u := { s with device := 0 }) rfl _ _ _

theorem State.giveEntryGroup_completes (s : State) (n : EntryIx) (e : Entry) :
    s.completes (s.giveEntryGroup n e) .ok (byteOf (s.giveEntryGroup n e).pendingGroups) :=
  State.completes_of_iface (u := s.putEntry n (some { e with pending := 0 })) rfl _ _ _

/-- Settles O54: the device group, the first entry's group, or NOTHING. -/
theorem nextNoticeRow : Obligations.NextNoticeRow := by
  refine ⟨⟨rfl, rfl, rfl, rfl, rfl⟩, ⟨rfl, rfl, rfl, rfl⟩, fun o => by cases o <;> rfl, fun s _ => s.pendingGroups_eq,
    State.intLow_iff, fun s hp => ⟨_, exec_nextNotice hp, fun hd => ?_, fun n e hd he hpending hbest => ?_, fun hd hnone => ?_,
      State.intLow_of_pendingGroups⟩⟩
  · rw [State.noticeAnswer_device hd]
    have hshows : s.giveDeviceGroup.shows (deviceNoticeRecord s.device) := State.complete_shows _ _ _ _
    exact ⟨s.giveDeviceGroup_completes, hshows, State.showsNotice_device hshows, rfl⟩
  · obtain ⟨rest, horder⟩ := State.noticeOrder_head he hpending hbest
    rw [State.noticeAnswer_entry hd horder he]
    have hshows : (s.giveEntryGroup n e).shows (entryNoticeRecord n e) := State.complete_shows _ _ _ _
    exact ⟨s.putEntry_slot_same n _, fun m hm => s.putEntry_slot_other _ hm, s.giveEntryGroup_completes n e, hshows,
      State.showsNotice_entry hshows, rfl⟩
  · rw [State.noticeAnswer_nothing hd (State.noticeOrder_eq_nil hnone)]
    exact s.refuse_refuses _ _

end Sys2Proof.Machine
end

section
/-! ## The records that a command reads back, SET TIME, SELECT CLOCK, SET ZONES and CONFIGURE -/
namespace Sys2Proof.Machine

/-! ### The images (Table 3 of Chapter 11) -/

theorem byteOf_of_lt {n : Nat} (h : n < 256) : (byteOf n).toNat = n := by rw [byteOf_toNat, Nat.mod_eq_of_lt h]

theorem bitAt_zero_toNat (b : Bool) : (byteOf (bitAt b 0)).toNat = if b then 1 else 0 := by cases b <;> rfl

theorem weekday_lt (c : Calendar) : weekday c < 256 := by unfold weekday; omega

section
variable {s t : State}

theorem State.showsTime_of_shows (h : t.shows s.timeRecord) : s.showsTime t := by
  have byte : ∀ k, k < 48 → t.byte k = (s.timeRecord.getD k 0).toNat := fun k => State.byte_of_shows h
  refine ⟨(byte 0 (by decide)).trans (byteOf_toNat _), (byte 1 (by decide)).trans (byteOf_toNat _),
    (byte 2 (by decide)).trans (byteOf_toNat _), (byte 3 (by decide)).trans (byteOf_toNat _),
    (byte 4 (by decide)).trans (byteOf_toNat _), (byte 5 (by decide)).trans (byteOf_toNat _),
    (byte 6 (by decide)).trans (byteOf_of_lt (weekday_lt _)), (byte 7 (by decide)).trans (bitAt_zero_toNat _),
    fun k hlo hhi => State.byte_beyond h hlo (by omega)⟩

theorem Source.code_lt (c : Source) : c.code < 256 := by cases c <;> decide

theorem crystalCodeByte_toNat (c : Source) (code : Nat) :
    (crystalCodeByte c code).toNat = if c = .crystal then code % 256 else 0xFF := by
  unfold crystalCodeByte
  split
  · exact byteOf_toNat _
  · rfl

theorem Check.seconds_eq (c : Check) : c.seconds = min 2 (c.elapsed / 32000) := rfl

/-- The six bytes after the active source. -/
theorem State.showsClock_of_shows (h : t.shows s.clockRecord) : s.showsClock t := by
  have byte : ∀ k, k < 48 → t.byte k = (s.clockRecord.getD k 0).toNat := fun k => State.byte_of_shows h
  have hlength : s.clockRecord.length = 7 := by
    unfold State.clockRecord
    cases s.timebase.selector <;> rfl
  refine ⟨(byte 0 (by decide)).trans (byteOf_of_lt s.timebase.active.code_lt), ⟨rfl, rfl, rfl, rfl⟩, fun hs => ?_, fun c hs => ?_,
    fun c code quiet hs => ?_, fun k hlo hhi => State.byte_beyond h (by omega) (by omega)⟩
  all_goals
    unfold State.clockRecord at byte
    simp only [hs] at byte
  · exact ⟨byte 1 (by decide), byte 2 (by decide), byte 3 (by decide), byte 4 (by decide), byte 5 (by decide), byte 6 (by decide)⟩
  · refine ⟨byte 1 (by decide), (byte 2 (by decide)).trans (byteOf_of_lt c.source.code_lt), ?_,
      (byte 5 (by decide)).trans (byteOf_of_lt ?_), (byte 6 (by decide)).trans (crystalCodeByte_toNat _ _)⟩
    · rw [byte 3 (by decide), byte 4 (by decide)]
      exact byteAt_zero_add_byteAt_one _
    · rw [Check.seconds_eq]
      omega
  · refine ⟨byte 1 (by decide), (byte 2 (by decide)).trans (byteOf_of_lt c.code_lt), ?_, byte 5 (by decide),
      (byte 6 (by decide)).trans (crystalCodeByte_toNat _ _)⟩
    rw [byte 3 (by decide), byte 4 (by decide)]
    refine (byteAt_zero_add_byteAt_one (goodRequired c code)).trans ?_
    cases c <;> rfl

/-- A list of pairs, one after the other. -/
theorem getD_flatMap_pairs {α β : Type} (f g : α → β) (d : β) (tail : List β) : ∀ (l : List α) (i : Nat) (h : i < l.length),
    ((l.flatMap fun a => [f a, g a]) ++ tail).getD (2 * i) d = f l[i]
      ∧ ((l.flatMap fun a => [f a, g a]) ++ tail).getD (2 * i + 1) d = g l[i]
  | a :: l, 0, _ => ⟨rfl, rfl⟩
  | a :: l, i + 1, h => getD_flatMap_pairs f g d tail l i (Nat.lt_of_succ_lt_succ h)

theorem Zone.code_lt (z : Zone) : z.code < 256 := by
  cases z with
  | ownedOn n | ownedOff n _ => simp only [Zone.code]; omega
  | free | resting _ | manualOn | manualOff _ => simp only [Zone.code]; omega

theorem State.engaged_lt (s : State) : s.engaged < 256 :=
  Nat.lt_of_le_of_lt (List.length_filter_le _ _) (by decide)

theorem State.showsZones_of_shows (h : t.shows s.zoneSnapshot) : s.showsZones t := by
  have hlength : s.zoneSnapshot.length = 33 := rfl
  refine ⟨fun z => ?_, ?_, fun k hlo hhi => State.byte_beyond h (by omega) (by omega)⟩
  · obtain ⟨heven, hodd⟩ := getD_flatMap_pairs (fun z : ZoneIx => byteOf s.zones[z].code)
      (fun z : ZoneIx => byteOf (s.zones[z].rest.getD 0)) 0 [byteOf s.engaged] (List.finRange 16) z.val (by simp)
    rw [State.byte_of_shows h (by omega), State.byte_of_shows h (by omega), State.zoneSnapshot, heven, hodd]
    simp only [List.getElem_finRange, Fin.cast_mk, Fin.eta]
    rw [byteOf_of_lt (Zone.code_lt _), byteOf_toNat]
    cases hz : s.zones[z] with
    | ownedOff n rest | manualOff rest => cases rest <;> exact ⟨rfl, rfl⟩
    | ownedOn n | free | resting r | manualOn => exact ⟨rfl, rfl⟩
  · exact (State.byte_of_shows h (by decide)).trans (byteOf_of_lt s.engaged_lt)

/-- A mapped list before a tail. -/
theorem getD_map_append {α β : Type} (f : α → β) (d : β) (tail : List β) : ∀ (l : List α) (i : Nat) (h : i < l.length),
    (l.map f ++ tail).getD i d = f l[i]
  | a :: l, 0, _ => rfl
  | a :: l, i + 1, h => getD_map_append f d tail l i (Nat.lt_of_succ_lt_succ h)

/-- The byte of the rest time of a zone in the configuration record. -/
theorem State.configRecord_rest (s : State) (z : ZoneIx) : s.configRecord.getD (2 + z.val) 0 = byteOf s.settings.rests[z] := by
  have h := getD_map_append (fun z : ZoneIx => byteOf s.settings.rests[z]) 0
    ([byteAt s.settings.zonePolarity.toNat 0, byteAt s.settings.zonePolarity.toNat 1, s.settings.sensorPolarity,
      s.settings.latchModes, byteAt s.settings.filterCodes.toNat 0, byteAt s.settings.filterCodes.toNat 1]
      ++ [byteOf (bitAt s.site.valid 0 + bitAt s.site.lock 1)]) (List.finRange 16) z.val (by simp)
  simp only [List.getElem_finRange, Fin.cast_mk, Fin.eta] at h
  rw [← h, Nat.add_comm, State.configRecord, State.configImage, List.append_assoc, List.append_assoc]
  rfl

theorem siteFlags_toNat (valid lock : Bool) :
    (byteOf (bitAt valid 0 + bitAt lock 1)).toNat = (if valid then 1 else 0) + if lock then 2 else 0 := by
  cases valid <;> cases lock <;> rfl

theorem State.showsConfig_of_shows (h : t.shows s.configRecord) : s.showsConfig t := by
  have byte : ∀ k, k < 48 → t.byte k = (s.configRecord.getD k 0).toNat := fun k => State.byte_of_shows h
  have hlength : s.configRecord.length = 25 := rfl
  refine ⟨fun c hc => ?_, (byte 0x18 (by decide)).trans (siteFlags_toNat _ _), fun k hlo hhi =>
    State.byte_beyond h (by omega) (by omega)⟩
  obtain rfl : c = s.settings := hc
  refine ⟨(byte 0 (by decide)).trans (byteOf_toNat _), (byte 1 (by decide)).trans (byteOf_toNat _), fun z => ?_, ?_,
    byte 0x14 (by decide), byte 0x15 (by decide), ?_⟩
  · rw [byte _ (by omega), s.configRecord_rest z, byteOf_toNat]
  · rw [byte _ (by decide), byte _ (by decide)]
    exact (byteAt_zero_add_byteAt_one _).trans (Nat.mod_eq_of_lt s.settings.zonePolarity.isLt)
  · rw [byte _ (by decide), byte _ (by decide)]
    exact (byteAt_zero_add_byteAt_one _).trans (Nat.mod_eq_of_lt s.settings.filterCodes.isLt)

end

theorem exec_readTime {s : State} (h : s.inProgress 0x31 = true) :
    exec .readTime s = .next (s.complete .ok 0 (some s.timeRecord)) := by
  show done (onCompletion 0x31 _ s) = _
  rw [onCompletion_taken _ _ _ h]
  rfl

theorem exec_readClock {s : State} (h : s.inProgress 0x39 = true) :
    exec .readClock s = .next (s.complete .ok 0 (some s.clockRecord)) := by
  show done (onCompletion 0x39 _ s) = _
  rw [onCompletion_taken _ _ _ h]
  rfl

theorem exec_readZones {s : State} (h : s.inProgress 0x49 = true) :
    exec .readZones s = .next (s.complete .ok 0 (some s.zoneSnapshot)) := by
  show done (onCompletion 0x49 _ s) = _
  rw [onCompletion_taken _ _ _ h]
  rfl

theorem exec_readConfig {s : State} (h : s.inProgress 0x51 = true) :
    exec .readConfig s = .next (s.complete .ok 0 (some s.configRecord)) := by
  show done (onCompletion 0x51 _ s) = _
  rw [onCompletion_taken _ _ _ h]
  rfl

/-- Settles O27: each of the four completes with its image alone. -/
theorem readRows : Obligations.ReadRows := by
  intro s c image hc
  have hexec : exec c s = .next (s.complete .ok 0 (some image)) := by
    rcases hc with ⟨rfl, h, rfl⟩ | ⟨rfl, h, rfl⟩ | ⟨rfl, h, rfl⟩ | ⟨rfl, h, rfl⟩
    · exact exec_readTime h
    · exact exec_readClock h
    · exact exec_readZones h
    · exact exec_readConfig h
  have hshows : (s.complete .ok 0 (some image)).shows image := s.complete_shows _ _ _
  refine ⟨_, hexec, s.complete_completes _ _ _, hshows, s.complete_frame _ _ _, ?_, ?_, ?_, ?_⟩ <;>
    rintro rfl <;> rcases hc with ⟨h, -, rfl⟩ | ⟨h, -, rfl⟩ | ⟨h, -, rfl⟩ | ⟨h, -, rfl⟩ <;> cases h
  · exact State.showsTime_of_shows hshows
  · exact State.showsClock_of_shows hshows
  · exact State.showsZones_of_shows hshows
  · exact State.showsConfig_of_shows hshows

/-! ### SELECT CLOCK (R70, R75) -/

theorem Source.ofCode_code (c : Source) : Source.ofCode c.code = some c := by cases c <;> rfl

theorem Source.ofCode_eq_none {k : Nat} (h : 4 ≤ k) : Source.ofCode k = none := by
  unfold Source.ofCode
  split
  all_goals simp_all

/-- The answer of SELECT CLOCK. -/
def State.selectAnswer (s : State) : State :=
  match Source.ofCode (s.input 0) with
  | none => s.refuse .invalidField 0
  | some c => (s.selectSource c).complete .ok 0 (some (s.selectSource c).clockRecord)

theorem exec_selectClock {s : State} (h : s.inProgress 0x38 = true) : exec .selectClock s = .next s.selectAnswer := by
  show done (onCompletion 0x38 _ s) = _
  rw [onCompletion_taken _ _ _ h]
  rfl

section
variable {s : State} {c : Source}

theorem State.selectorFor_active (h : c = s.timebase.active) : s.selectorFor c = .steady := if_pos h.symm

theorem State.selectorFor_candidate (h : c ≠ s.timebase.active) (h' : s.timebase.selector.candidate = some c) :
    s.selectorFor c = s.timebase.selector := by
  unfold State.selectorFor
  rw [if_neg h.symm, if_pos h']

theorem State.selectorFor_internal (h : .internal ≠ s.timebase.active) (h' : s.timebase.selector.candidate ≠ some .internal) :
    s.selectorFor .internal = .ready .internal 0 0 := by
  unfold State.selectorFor
  rw [if_neg h.symm, if_neg h']

theorem State.selectorFor_external (h : c ≠ s.timebase.active) (h' : s.timebase.selector.candidate ≠ some c) (hc : c ≠ .internal) :
    s.selectorFor c = .starting (s.freshCheck c) := by
  unfold State.selectorFor
  rw [if_neg h.symm, if_neg h']
  cases c with
  | internal => exact absurd rfl hc
  | crystal | mains50 | mains60 => rfl

end

/-- The crystal oscillator runs where the crystal is active or a candidate. -/
theorem Timebase.withOscillator_crystalRunning (t : Timebase) : t.withOscillator.crystalRunning = true ↔
    t.active = .crystal ∨ t.selector.candidate = some .crystal := by
  simp [Timebase.withOscillator]

/-- Settles O28: the source byte, then the selector by the source named. -/
theorem selectClockRow : Obligations.SelectClockRow := by
  refine ⟨fun s hp h => ⟨_, exec_selectClock hp, ?_⟩, fun s c hp h => ⟨_, exec_selectClock hp, ?_⟩⟩
  · rw [State.selectAnswer, Source.ofCode_eq_none h]
    exact s.refuse_refuses _ _
  · rw [State.selectAnswer, h, Source.ofCode_code]
    have htimebase : ((s.selectSource c).complete .ok 0 (some (s.selectSource c).clockRecord)).timebase
        = ({ s.timebase with selector := s.selectorFor c } : Timebase).withOscillator := s.selectSource_timebase c
    have hselector : ((s.selectSource c).complete .ok 0 (some (s.selectSource c).clockRecord)).timebase.selector = s.selectorFor c := by
      rw [htimebase]; rfl
    rw [hselector]
    refine ⟨State.selectorFor_active, State.selectorFor_candidate, fun ha hcandidate => ⟨?_, fun hc => ?_⟩, ?_, ?_,
      State.completes_of_iface (s.selectSource_iface c) _ _ _, State.complete_shows _ _ _ _, ?_⟩
    · rintro rfl
      exact State.selectorFor_internal ha hcandidate
    · rw [State.selectorFor_external ha hcandidate hc, State.freshCheck, State.settings]
      split <;> rfl
    · rw [htimebase]; rfl
    · rw [State.crystalLaw, htimebase]
      exact Timebase.withOscillator_crystalRunning _
    · rfl

/-! ### SET TIME (R61 to R63, R78) -/

theorem daysInMonth_lt_iff (month year date : Nat) : daysInMonth month year < date ↔ 31 < date
    ∨ (date = 31 ∧ (month = 2 ∨ month = 4 ∨ month = 6 ∨ month = 9 ∨ month = 11)) ∨ (date = 30 ∧ month = 2)
    ∨ (date = 29 ∧ month = 2 ∧ year % 4 ≠ 0) := by
  unfold daysInMonth leapYear
  simp only [beq_iff_eq]
  split
  case h_6 => simp_all
  case h_1 => split <;> omega
  all_goals omega

/-- The checks of SET TIME name the bytes that offend. -/
theorem timeChecks_spec (r : Nat → Nat) : (firstBad (timeChecks r) = none ↔ ∀ k, ¬ timeOffends r k)
    ∧ ∀ k, firstBad (timeChecks r) = some k ↔ timeOffends r k ∧ ∀ j, j < k → ¬ timeOffends r j := by
  refine firstBad_spec (by simp [timeChecks]) fun k => ?_
  simp only [timeChecks, timeOffends, List.mem_cons, List.not_mem_nil, or_false, Prod.mk.injEq, eq_comm (a := true),
    Bool.or_eq_true, decide_eq_true_eq, beq_iff_eq, daysInMonth_lt_iff]
  constructor
  · rintro (⟨rfl | rfl, h⟩ | ⟨rfl, h⟩ | ⟨rfl, h⟩ | ⟨rfl, h⟩ | ⟨rfl, h⟩) <;> simpa using h
  · rintro (⟨rfl, h⟩ | ⟨rfl, h⟩ | ⟨rfl, h⟩ | ⟨rfl, h⟩ | ⟨rfl, h⟩ | ⟨rfl, h⟩) <;> simpa using h

theorem State.raiseSecond_seconds (s : State) : s.raiseSecond.owed.seconds = s.owed.seconds + 1 := by
  unfold State.raiseSecond
  split <;> rfl

theorem State.restsCounted_owed (s : State) (set : ZoneSet) : (s.restsCounted set).owed = s.owed := rfl

theorem State.countEntries_owed (s : State) (matchFirst reached : EntrySet) :
    (s.countEntries matchFirst reached).state.owed = s.owed := s.apply_state_owed _

theorem State.secondCounted_owed (s : State) (order : SecondOrder) : (s.secondCounted order).owed = s.advanced.owed := by
  unfold State.secondCounted
  rw [State.restsCounted_owed, State.countEntries_owed, State.restsCounted_owed]

/-- One second event counted is no longer raised or under way. -/
theorem State.countSecond_seconds (s : State) (order : SecondOrder) :
    (s.countSecond order).owed.seconds = s.owed.seconds - 1 ∧ (s.countSecond order).owed.underway = Underway.nothing := by
  cases h : s.advanced.takesArrivals with
  | false =>
    rw [State.countSecond_idle order h]
    exact ⟨rfl, rfl⟩
  | true =>
    obtain ⟨groups, hcount⟩ := State.countSecond_taken order h
    rw [hcount, Arrival.asOne_owed, State.secondCounted_owed]
    exact ⟨rfl, rfl⟩

theorem State.countSecond_ticks (s : State) (order : SecondOrder) : (s.countSecond order).ticks = s.ticks := by
  rw [State.countSecond_frame]

theorem State.countRaised_seconds : ∀ (k : Nat) (s : State), s.owed.seconds = k → s.owed.underway = Underway.nothing →
    (s.countRaised k).owed.seconds = 0 ∧ (s.countRaised k).owed.underway = Underway.nothing
  | 0, _, hs, hu => ⟨hs, hu⟩
  | k + 1, s, hs, _ => by
    obtain ⟨hseconds, hunderway⟩ := s.countSecond_seconds s.orderNow
    exact State.countRaised_seconds k _ (by rw [State.nextTick, hseconds, hs]; rfl) hunderway

theorem State.finishUnderway_taken {s : State} (h : s.owed.underway ≠ Underway.nothing) : s.finishUnderway
    = ((if s.owed.seconds = 0 then s.raiseSecond else s).countSecond s.orderNow).nextTick :=
  if_neg h

theorem State.finishUnderway_underway (s : State) : s.finishUnderway.owed.underway = Underway.nothing := by
  by_cases h : s.owed.underway = Underway.nothing
  · rw [State.finishUnderway_none s h]; exact h
  · rw [State.finishUnderway_taken h]
    exact (State.countSecond_seconds _ _).2

/-- What has come before a SET TIME is neither raised nor under way any more. -/
theorem State.secondsCome_seconds (s : State) :
    s.secondsCome.owed.seconds = 0 ∧ s.secondsCome.owed.underway = Underway.nothing :=
  State.countRaised_seconds _ _ rfl s.finishUnderway_underway

/-- Where one second event has come, it is the one that SECOND_EVENT counts. -/
theorem State.secondsCome_one {s : State}
    (h : s.owed.seconds = 1 ∨ (s.owed.seconds = 0 ∧ s.owed.underway ≠ Underway.nothing)) :
    s.secondsCome = ((if s.owed.seconds = 0 then s.raiseSecond else s).countSecond s.orderNow).nextTick := by
  by_cases hu : s.owed.underway = Underway.nothing
  · have h1 : s.owed.seconds = 1 := h.resolve_right fun h' => h'.2 hu
    rw [State.secondsCome, State.finishUnderway_none s hu, h1, if_neg (by decide)]
    rfl
  · have hzero : s.finishUnderway.owed.seconds = 0 := by
      rw [State.finishUnderway_taken hu]
      refine (State.countSecond_seconds _ _).1.trans ?_
      rcases h with h | ⟨h, -⟩
      · rw [if_neg (by omega), h]
      · rw [if_pos h, State.raiseSecond_seconds, h]
    rw [State.secondsCome, hzero, State.finishUnderway_taken hu]
    rfl

/-- The answer of SET TIME. -/
def State.setTimeAnswer (s : State) : State :=
  match firstBad (timeChecks s.input) with
  | some offset => s.refuse .invalidField (byteOf offset)
  | none => (s.secondsCome.setTime (Calendar.ofRecord s.input)).complete .ok 0
      (some (s.secondsCome.setTime (Calendar.ofRecord s.input)).timeRecord)

theorem exec_setTime {s : State} (h : s.inProgress 0x30 = true) : exec .setTime s = .next s.setTimeAnswer := by
  show done (onCompletion 0x30 _ s) = _
  rw [onCompletion_taken _ _ _ h]
  rfl

theorem State.setTimeAnswer_frame (x : State) (c : Calendar) (d : Byte) (o : Option (List Byte)) :
    (x.setTime c).complete .ok d o = { x with
      calendar := c, timeValid := true, timebase := { x.timebase with prescaler := 0, sincePrescaler := 0 }
      iface := ((x.setTime c).complete .ok d o).iface } := rfl

/-- Settles O26: the checks, the second events that came first, and the written time. -/
theorem setTimeRow : Obligations.SetTimeRow := by
  refine ⟨timeChecks_spec, ?_⟩
  rintro s x hp rfl
  refine ⟨fun hs hu => State.secondsCome_none s hs hu, fun hpowered h => ⟨s.orderNow, ?_⟩, _, exec_setTime hp,
    fun k hk => ?_, fun hnone => ?_⟩
  · rw [exec_secondEvent_of_powered hpowered, State.secondsCome_one h]
    have hticks : ((if s.owed.seconds = 0 then s.raiseSecond else s).countSecond s.orderNow).ticks = s.ticks := by
      rw [State.countSecond_ticks]
      split
      · rw [State.raiseSecond_frame]
      · rfl
    rw [← hticks]
    rfl
  · rw [State.setTimeAnswer, hk]
    exact s.refuse_refuses _ _
  · have hanswer : s.setTimeAnswer = (s.secondsCome.setTime (Calendar.ofRecord s.input)).complete .ok 0
        (some (s.secondsCome.setTime (Calendar.ofRecord s.input)).timeRecord) := by
      rw [State.setTimeAnswer, hnone]
    rw [hanswer]
    refine ⟨rfl, Calendar.ofRecord_valid hnone, rfl, rfl, s.secondsCome_seconds.1, s.secondsCome_seconds.2, ?_,
      State.complete_shows _ _ _ _, State.setTimeAnswer_frame _ _ _ _⟩
    exact State.completes_of_iface (u := s.secondsCome.setTime (Calendar.ofRecord s.input)) s.secondsCome_eventFrame.iface _ _ _

end Sys2Proof.Machine
end

section
/-! ## SET ZONES and CONFIGURE -/
namespace Sys2Proof.Machine

theorem Arrival.quiet_walkIf_asOne (s : State) (b : Bool) :
    ((Arrival.quiet s).walkIf b).asOne = s.oweWalks (if b then 1 else 0) := by
  cases b with
  | false => exact (Arrival.asOne_nil s).trans (by simp [State.oweWalks])
  | true => simp [Arrival.asOne, Arrival.walkIf, Arrival.quiet, State.oweGroup]

/-! ### The input of SET ZONES (R121) -/

theorem State.zoneModeCode_eq (s : State) (z : ZoneIx) : s.zoneModeCode z = s.input (z.val / 4) / 4 ^ (z.val % 4) % 4 := by
  rw [State.zoneModeCode, Nat.shiftRight_eq_div_pow, Nat.pow_mul]

theorem State.zoneModeCode_lt (s : State) (z : ZoneIx) : s.zoneModeCode z < 4 := Nat.mod_lt _ (by decide)

theorem State.zoneMasked_iff (s : State) (z : ZoneIx) :
    s.zoneMasked z ↔ (s.input (4 + z.val / 8)).testBit (z.val % 8) = true := by
  have hmask : s.zoneMask.getLsbD z.val = (2 ^ 8 * s.input 5 + s.input 4).testBit z.val := by
    rw [State.zoneMask, BitVec.getLsbD_ofNat, decide_eq_true z.isLt, Bool.true_and, Nat.add_comm]
    rfl
  rw [State.zoneMasked, hmask, Nat.testBit_two_pow_mul_add _ (s.input_lt 4)]
  split
  · next h => rw [Nat.div_eq_of_lt h, Nat.mod_eq_of_lt h]
  · next h =>
    have hdiv : z.val / 8 = 1 := by omega
    have hmod : z.val % 8 = z.val - 8 := by omega
    rw [hdiv, hmod]

theorem ZoneMode.ofCode_isNone {c : Nat} (h : c < 4) : (ZoneMode.ofCode c).isNone = true ↔ c = 3 := by
  match c, h with
  | 0, _ | 1, _ | 2, _ => simp [ZoneMode.ofCode]
  | 3, _ => exact iff_of_true rfl rfl

theorem engagedCount_eq {zones : Vector Zone 16} {members : List ZoneIx} (hnodup : members.Nodup)
    (h : ∀ z : ZoneIx, z ∈ members ↔
      (∃ n, zones[z] = .ownedOn n) ∨ (∃ n r, zones[z] = .ownedOff n r) ∨ zones[z] = .manualOn) :
    engagedCount zones = members.length := by
  have hperm : ((List.finRange 16).filter fun z => zones[z].engaged).Perm members := by
    refine (List.perm_ext_iff_of_nodup ((List.nodup_finRange 16).filter _) hnodup).mpr fun z => ?_
    rw [h z, List.mem_filter]
    simp [Zone.engaged_iff]
  rw [engagedCount, hperm.length_eq]

/-! ### The modes (Table 2 of Chapter 7) -/

section
variable {z : Zone} {r : Nat}

theorem Zone.underMode_on (ho : z.owner.isSome = false) (hr : z.rest.isSome = false) : z.underMode .on r = some .manualOn := by
  cases z with
  | ownedOn _ | ownedOff _ _ => cases ho
  | resting _ => cases hr
  | manualOff rest =>
    cases rest with
    | none => rfl
    | some _ => cases hr
  | free | manualOn => rfl

theorem Zone.underMode_on_refused (h : z.owner.isSome = true ∨ z.rest.isSome = true) : z.underMode .on r = none := by
  cases z with
  | ownedOn _ | ownedOff _ _ | resting _ => rfl
  | manualOff rest =>
    cases rest with
    | none => rcases h with h | h <;> cases h
    | some _ => rfl
  | free | manualOn => rcases h with h | h <;> cases h

theorem Zone.underMode_off (ho : z.owner.isSome = false) :
    z.underMode .off r = some (.manualOff (if z = .manualOn then startRest r else z.rest)) := by
  cases z with
  | ownedOn _ | ownedOff _ _ => cases ho
  | free | resting _ | manualOn | manualOff _ => rfl

theorem Zone.underMode_off_refused (ho : z.owner.isSome = true) : z.underMode .off r = none := by
  cases z with
  | ownedOn _ | ownedOff _ _ => rfl
  | free | resting _ | manualOn | manualOff _ => cases ho

/-- AUTO ends a manual override and leaves every other zone alone. -/
theorem Zone.underMode_auto (hon : z ≠ .manualOn) (hoff : ∀ r, z ≠ .manualOff r) : z.underMode .auto r = some z := by
  cases z with
  | manualOn => exact absurd rfl hon
  | manualOff rest => exact absurd rfl (hoff rest)
  | free | resting _ | ownedOn _ | ownedOff _ _ => rfl

theorem Zone.underMode_auto_isSome : (z.underMode .auto r).isSome = true := by
  cases z with
  | manualOff rest => cases rest <;> rfl
  | free | resting _ | ownedOn _ | ownedOff _ _ | manualOn => rfl

end

section
variable {s : State} {z : ZoneIx}

theorem State.zoneAsked_unmasked (h : ¬ s.zoneMasked z) : s.zoneAsked z = some s.zones[z] := if_neg h

theorem State.zoneAsked_masked {m : ZoneMode} (h : s.zoneMasked z) (hm : ZoneMode.ofCode (s.zoneModeCode z) = some m) :
    s.zoneAsked z = s.zones[z].underMode m (s.restTime z) := by
  unfold State.zoneAsked
  rw [if_pos (by exact h), hm]
  rfl

theorem State.zonesAsked_of {after : Zone} (h : s.zoneAsked z = some after) : s.zonesAsked[z] = after := by
  have hget : s.zonesAsked[z] = (s.zoneAsked z).getD s.zones[z] := Vector.getElem_ofFn _
  rw [hget, h]
  rfl

theorem State.not_zoneBusy_auto (hc : s.zoneModeCode z = 0) : ¬ s.zoneBusy z := by
  simp [State.zoneBusy, hc]

theorem State.zoneBusy_on (h : s.zoneMasked z) (hc : s.zoneModeCode z = 1) :
    s.zoneBusy z ↔ s.zones[z].owner.isSome = true ∨ s.zones[z].rest.isSome = true := by
  simp [State.zoneBusy, hc, h]

theorem State.zoneBusy_off (h : s.zoneMasked z) (hc : s.zoneModeCode z = 2) :
    s.zoneBusy z ↔ s.zones[z].owner.isSome = true := by
  simp [State.zoneBusy, hc, h]

/-- What an assigned mode makes of a masked zone. -/
theorem State.zonesAsked_masked {m : ZoneMode} {after : Zone} (h : s.zoneMasked z) (hm : ZoneMode.ofCode (s.zoneModeCode z) = some m)
    (hafter : s.zones[z].underMode m (s.restTime z) = some after) : s.zonesAsked[z] = after :=
  State.zonesAsked_of ((State.zoneAsked_masked h hm).trans hafter)

/-- A zone whose mode code is assigned refuses it exactly where it is busy. -/
theorem State.zoneAsked_isNone (h : s.zoneMasked z → s.zoneModeCode z ≠ 3) : (s.zoneAsked z).isNone = true ↔ s.zoneBusy z := by
  by_cases hmask : s.zoneMasked z
  · have hlt := s.zoneModeCode_lt z
    have hcode := h hmask
    obtain hc | hc | hc : s.zoneModeCode z = 0 ∨ s.zoneModeCode z = 1 ∨ s.zoneModeCode z = 2 := by omega
    · rw [State.zoneAsked_masked (m := .auto) hmask (by rw [hc]; rfl), ← Option.not_isSome, Zone.underMode_auto_isSome]
      exact iff_of_false (by decide) (State.not_zoneBusy_auto hc)
    · rw [State.zoneAsked_masked (m := .on) hmask (by rw [hc]; rfl), State.zoneBusy_on hmask hc]
      by_cases hb : s.zones[z].owner.isSome = true ∨ s.zones[z].rest.isSome = true
      · rw [Zone.underMode_on_refused hb]
        exact iff_of_true rfl hb
      · rw [Zone.underMode_on (Bool.eq_false_iff.mpr fun h => hb (Or.inl h)) (Bool.eq_false_iff.mpr fun h => hb (Or.inr h))]
        exact iff_of_false (by decide) hb
    · rw [State.zoneAsked_masked (m := .off) hmask (by rw [hc]; rfl), State.zoneBusy_off hmask hc]
      by_cases hb : s.zones[z].owner.isSome = true
      · rw [Zone.underMode_off_refused hb]
        exact iff_of_true rfl hb
      · rw [Zone.underMode_off (Bool.eq_false_iff.mpr hb)]
        exact iff_of_false Bool.false_ne_true hb
  · rw [State.zoneAsked_unmasked hmask]
    simp [State.zoneBusy, hmask]

end

/-! ### The command -/

/-- The answer of SET ZONES. -/
def State.setZonesAnswer (s : State) : State :=
  match s.badModeZone with
  | some z => s.refuse .invalidField (byteOf (z.val / 4))
  | none =>
    match s.busyZone with
    | some z => s.refuse .zoneBusy (byteOf z.val)
    | none =>
      if s.budget < engagedCount s.zonesAsked then s.refuse .overBudget (byteOf (engagedCount s.zonesAsked))
      else s.setZones.complete .ok 0 (some s.setZones.zoneSnapshot)

theorem exec_setZones {s : State} (h : s.inProgress 0x48 = true) : exec .setZones s = .next s.setZonesAnswer := by
  show done (onCompletion 0x48 _ s) = _
  rw [onCompletion_taken _ _ _ h]
  rfl

section
variable {s : State}

theorem State.badModeZone_eq_some {z : ZoneIx} : s.badModeZone = some z ↔
    (s.zoneMasked z ∧ s.zoneModeCode z = 3) ∧ ∀ y, y < z → s.zoneMasked y → s.zoneModeCode y ≠ 3 := by
  simp only [State.badModeZone, find?_finRange_eq_some, ← Bool.not_eq_true, Bool.and_eq_true,
    ZoneMode.ofCode_isNone (s.zoneModeCode_lt _), not_and, State.zoneMasked, ne_eq]

theorem State.badModeZone_eq_none : s.badModeZone = none ↔ ∀ z, s.zoneMasked z → s.zoneModeCode z ≠ 3 := by
  simp only [State.badModeZone, find?_finRange_eq_none, ← Bool.not_eq_true, Bool.and_eq_true,
    ZoneMode.ofCode_isNone (s.zoneModeCode_lt _), not_and, State.zoneMasked, ne_eq]

theorem State.busyZone_eq_some (h : ∀ z, s.zoneMasked z → s.zoneModeCode z ≠ 3) {z : ZoneIx} : s.busyZone = some z ↔
    s.zoneBusy z ∧ ∀ y, y < z → ¬ s.zoneBusy y := by
  simp only [State.busyZone, find?_finRange_eq_some, ← Bool.not_eq_true, State.zoneAsked_isNone (h _)]

theorem State.busyZone_eq_none (h : ∀ z, s.zoneMasked z → s.zoneModeCode z ≠ 3) : s.busyZone = none ↔ ∀ z, ¬ s.zoneBusy z := by
  simp only [State.busyZone, find?_finRange_eq_none, ← Bool.not_eq_true, State.zoneAsked_isNone (h _)]

theorem someZoneFreed_iff (before after : Vector Zone 16) : someZoneFreed before after = true ↔
    ∃ z : ZoneIx, before[z] ≠ .free ∧ after[z] = .free := by
  simp [someZoneFreed]

/-- A taken SET ZONES causes a walk where a zone becomes FREE or the engaged count falls. -/
theorem State.setZones_eq : s.setZones = ({ s with zones := s.zonesAsked } : State).oweWalks
    (if someZoneFreed s.zones s.zonesAsked || decide (engagedCount s.zonesAsked < s.engaged) then 1 else 0) :=
  Arrival.quiet_walkIf_asOne _ _

theorem State.setZones_zones : s.setZones.zones = s.zonesAsked := by rw [State.setZones_eq]; rfl

theorem State.setZones_frame : s.setZones = { s with zones := s.zonesAsked, owed := s.setZones.owed } := by
  rw [State.setZones_eq]; rfl

theorem State.setZones_owed : s.setZones.owed = { s.owed with walks := s.owed.walks +
    (if someZoneFreed s.zones s.zonesAsked || decide (engagedCount s.zonesAsked < s.engaged) then 1 else 0) } := by
  rw [State.setZones_eq]; rfl

theorem State.setZones_walks (h : engagedCount s.zonesAsked < s.engaged ∨ ∃ z : ZoneIx, s.zones[z] ≠ .free ∧ s.zonesAsked[z] = .free) :
    s.setZones.owed = { s.owed with walks := s.owed.walks + 1 } := by
  rw [State.setZones_owed, if_pos (by rwa [Bool.or_eq_true, someZoneFreed_iff, decide_eq_true_eq, or_comm])]

theorem State.setZones_walksNot (h : s.engaged ≤ engagedCount s.zonesAsked)
    (h' : ∀ z : ZoneIx, s.zonesAsked[z] = .free → s.zones[z] = .free) : s.setZones.owed = s.owed := by
  rw [State.setZones_owed, if_neg]
  · rfl
  · rw [Bool.or_eq_true, someZoneFreed_iff, decide_eq_true_eq]
    rintro (⟨z, hz, hz'⟩ | hlt)
    · exact hz (h' z hz')
    · omega

/-- The answer of a SET ZONES that passes its checks. -/
theorem State.setZonesAnswer_taken (hcodes : ∀ z, s.zoneMasked z → s.zoneModeCode z ≠ 3) (hfree : ∀ z, ¬ s.zoneBusy z)
    (hbudget : engagedCount s.zonesAsked ≤ s.budget) :
    s.setZonesAnswer = s.setZones.complete .ok 0 (some s.setZones.zoneSnapshot) := by
  rw [State.setZonesAnswer, State.badModeZone_eq_none.mpr hcodes, (State.busyZone_eq_none hcodes).mpr hfree]
  exact if_neg (Nat.not_lt.mpr hbudget)

end

/-- Settles O48: the input, the count, the modes, and the checks in their order. -/
theorem setZonesRow : Obligations.SetZonesRow := by
  refine ⟨fun s z => ⟨s.zoneModeCode_eq z, s.zoneMasked_iff z⟩, fun _ _ => engagedCount_eq, fun _ => rfl, fun s hp =>
    ⟨fun z _ hbusy => ⟨fun hm => ?unmasked, fun hm => ⟨fun hc => ?on, fun hc hz => ?off, fun hc hz => ?offOn, fun hc =>
        ⟨fun hz => ?autoOn, fun hz => ?autoOff, fun r hz => ?autoRest, fun hz hz' => ?auto⟩⟩⟩,
      _, exec_setZones hp, fun z hm hc hleast => ?code, fun hcodes => ⟨fun z hb hleast => ?busy, fun hfree =>
        ⟨fun hover => ?overBudget, fun hbudget => ?taken⟩⟩⟩⟩
  case unmasked => exact State.zonesAsked_of (State.zoneAsked_unmasked hm)
  case on =>
    rw [State.zoneBusy_on hm hc, not_or, Bool.not_eq_true, Bool.not_eq_true] at hbusy
    exact State.zonesAsked_masked (m := .on) hm (by rw [hc]; rfl) (Zone.underMode_on hbusy.1 hbusy.2)
  case off =>
    rw [State.zoneBusy_off hm hc, Bool.not_eq_true] at hbusy
    refine State.zonesAsked_masked (m := .off) hm (by rw [hc]; rfl) ((Zone.underMode_off hbusy).trans ?_)
    rw [if_neg hz]
  case offOn => exact State.zonesAsked_masked (m := .off) hm (by rw [hc]; rfl) (by rw [hz]; rfl)
  case autoOn => exact State.zonesAsked_masked (m := .auto) hm (by rw [hc]; rfl) (by rw [hz]; rfl)
  case autoOff => exact State.zonesAsked_masked (m := .auto) hm (by rw [hc]; rfl) (by rw [hz]; rfl)
  case autoRest => exact State.zonesAsked_masked (m := .auto) hm (by rw [hc]; rfl) (by rw [hz]; rfl)
  case auto => exact State.zonesAsked_masked (m := .auto) hm (by rw [hc]; rfl) (Zone.underMode_auto hz hz')
  case code =>
    rw [State.setZonesAnswer, State.badModeZone_eq_some.mpr ⟨⟨hm, hc⟩, hleast⟩]
    exact s.refuse_refuses _ _
  case busy =>
    rw [State.setZonesAnswer, State.badModeZone_eq_none.mpr hcodes, (State.busyZone_eq_some hcodes).mpr ⟨hb, hleast⟩]
    exact s.refuse_refuses _ _
  case overBudget =>
    rw [State.setZonesAnswer, State.badModeZone_eq_none.mpr hcodes, (State.busyZone_eq_none hcodes).mpr hfree]
    simp only [if_pos hover]
    exact s.refuse_refuses _ _
  case taken =>
    rw [State.setZonesAnswer_taken hcodes hfree hbudget]
    have hzones : (s.setZones.complete .ok 0 (some s.setZones.zoneSnapshot)).zones = s.zonesAsked := State.setZones_zones
    have hengaged : (s.setZones.complete .ok 0 (some s.setZones.zoneSnapshot)).engaged = engagedCount s.zonesAsked :=
      congrArg engagedCount hzones
    refine ⟨hzones, fun h => State.setZones_walks ?_, fun h h' => State.setZones_walksNot ?_ ?_,
      State.completes_of_iface (by rw [State.setZones_frame]) _ _ _, State.complete_shows _ _ _ _, ?_⟩
    · rwa [hengaged, hzones] at h
    · rwa [hengaged] at h
    · rwa [hzones] at h'
    · rw [State.complete_frame, State.setZones_frame]

/-! ### CONFIGURE (R141 to R143) -/

/-- Table 3 of Chapter 11: the byte of a configuration record at an offset is out of its range. -/
def configOffends (r : Nat → Nat) (k : Nat) : Prop :=
  (k = 0 ∧ (r 0 = 0 ∨ 16 < r 0)) ∨ (k = 1 ∧ 4 < r 1) ∨ ∃ z : ZoneIx, k = 2 + z.val ∧ 60 < r (2 + z.val)

theorem configChecks_sorted (r : Nat → Nat) : (configChecks r).Pairwise fun a b => a.1 < b.1 := by
  rw [configChecks, List.pairwise_append]
  refine ⟨by simp, List.pairwise_map.mpr ((List.pairwise_lt_range (n := 16)).imp fun h => by simpa using h), ?_⟩
  simp only [List.mem_cons, List.not_mem_nil, or_false, List.mem_map, List.mem_range]
  rintro a ha b ⟨z, -, rfl⟩
  rcases ha with rfl | rfl <;> simp <;> omega

theorem configChecks_spec (r : Nat → Nat) : (firstBad (configChecks r) = none ↔ ∀ k, ¬ configOffends r k)
    ∧ ∀ k, firstBad (configChecks r) = some k ↔ configOffends r k ∧ ∀ j, j < k → ¬ configOffends r j := by
  refine firstBad_spec (configChecks_sorted r) fun k => ?_
  have hrests : (k, true) ∈ ((List.range 16).map fun z => (2 + z, decide (60 < r (2 + z)))) ↔
      ∃ z : ZoneIx, k = 2 + z.val ∧ 60 < r (2 + z.val) := by
    simp only [List.mem_map, List.mem_range, Prod.mk.injEq, decide_eq_true_eq]
    exact ⟨fun ⟨z, hz, hk, h⟩ => ⟨⟨z, hz⟩, hk.symm, h⟩, fun ⟨z, hk, h⟩ => ⟨z.val, z.isLt, hk.symm, h⟩⟩
  rw [configChecks, List.mem_append, hrests, configOffends, ← or_assoc]
  refine or_congr ?_ Iff.rfl
  simp [eq_comm (a := true)]

theorem State.changeEvent_triggers {s : State} (h : s.isLive = false) (before : Levels) :
    (s.changeEvent before).owed.triggers = s.owed.triggers := by
  unfold State.changeEvent
  simp only [h, Bool.false_eq_true, if_false, List.append_nil]
  split <;> rfl

/-- Of an entry a change event replaces the stored values alone. -/
theorem State.changeEvent_entry {s : State} {before : Levels} {n : EntryIx} {e : Entry} (he : s.table[n] = some e) :
    ∃ e', (s.changeEvent before).table[n] = some e'
      ∧ e' = { e with storedPattern := e'.storedPattern, storedPermit := e'.storedPermit } := by
  rw [State.changeEvent_table, he]
  split
  · exact ⟨e, rfl, rfl⟩
  · exact ⟨_, rfl, rfl⟩

theorem State.changeEvent_empty {s : State} {before : Levels} {n : EntryIx} (he : s.table[n] = none) :
    (s.changeEvent before).table[n] = none := by
  rw [State.changeEvent_table, he]
  split <;> rfl

/-- The configuration in force, with every zone FREE and every sensor at its pin, before the change event. -/
def State.configuredAfresh (s : State) (c : SiteConfig) : State :=
  ({ s with site := { config := c, valid := true, lock := true }, zones := allFree } : State).conditionAfresh

section
variable {s : State} {c : SiteConfig}

theorem State.configure_eq : s.configure c = ((s.configuredAfresh c).changeEvent s.levels).oweWalks
    (if someZoneFreed s.zones allFree then 1 else 0) :=
  Arrival.quiet_walkIf_asOne _ _

theorem State.configure_table : (s.configure c).table = ((s.configuredAfresh c).changeEvent s.levels).table := by
  rw [State.configure_eq]; rfl

theorem State.configure_sensors : (s.configure c).sensors = Vector.ofFn fun k =>
    { s.sensors[k] with
      accepted := s.sensors[k].pin ^^ c.sensorPolarity.getLsbD k, latch := false, filter := none } := by
  rw [State.configure_eq]
  show ((s.configuredAfresh c).changeEvent s.levels).sensors = _
  rw [State.changeEvent_frame]
  rfl

theorem State.configure_owed (h : s.isLive = false) :
    (s.configure c).owed.triggers = s.owed.triggers ∧ (s.configure c).owed.pulses = s.owed.pulses := by
  rw [State.configure_eq]
  refine ⟨(State.changeEvent_triggers (s := s.configuredAfresh c) h _), ?_⟩
  show ((s.configuredAfresh c).changeEvent s.levels).owed.pulses = _
  rw [State.changeEvent_owed]
  rfl

end

/-- The answer of CONFIGURE. -/
def State.configureAnswer (s : State) : State :=
  if s.engine.mode = .live then s.refuse .notSuspended 0
  else if s.site.lock then s.refuse .locked 0
  else
    match firstBad (configChecks s.input) with
    | some offset => s.refuse .invalidField (byteOf offset)
    | none => (s.configure (SiteConfig.ofRecord s.input)).complete .ok 0
        (some (s.configure (SiteConfig.ofRecord s.input)).configImage)

theorem exec_configure {s : State} (h : s.inProgress 0x50 = true) : exec .configure s = .next s.configureAnswer := by
  show done (onCompletion 0x50 _ s) = _
  rw [onCompletion_taken _ _ _ h]
  rfl

section
variable {s : State}

theorem State.configureAnswer_badField (hm : s.engine.mode ≠ .live) (hl : s.site.lock = false) {k : Nat}
    (h : configOffends s.input k) (hleast : ∀ j, j < k → ¬ configOffends s.input j) :
    s.configureAnswer = s.refuse .invalidField (byteOf k) := by
  rw [State.configureAnswer, if_neg hm, if_neg (by rw [hl]; decide), ((configChecks_spec s.input).2 k).mpr ⟨h, hleast⟩]

theorem State.configureAnswer_taken (hm : s.engine.mode ≠ .live) (hl : s.site.lock = false)
    (h : ∀ k, ¬ configOffends s.input k) : s.configureAnswer
      = (s.configure (SiteConfig.ofRecord s.input)).complete .ok 0
        (some (s.configure (SiteConfig.ofRecord s.input)).configImage) := by
  rw [State.configureAnswer, if_neg hm, if_neg (by rw [hl]; decide), (configChecks_spec s.input).1.mpr h]

end

theorem pair_toNat {lo hi : Nat} (hlo : lo < 256) (hhi : hi < 256) : (BitVec.ofNat 16 (lo + 256 * hi)).toNat = lo + 256 * hi :=
  (BitVec.toNat_ofNat _ _).trans (Nat.mod_eq_of_lt (by omega))

theorem SiteConfig.ofRecord_sensorPolarity (r : Nat → Nat) (k : SensorIx) :
    (SiteConfig.ofRecord r).sensorPolarity.getLsbD k = (r 0x14).testBit k.val := by
  rw [SiteConfig.ofRecord, BitVec.getLsbD_ofNat, decide_eq_true k.isLt, Bool.true_and]

/-- What stands in force after a CONFIGURE is read from its site part. -/
theorem State.settings_of_site {t : State} {c : SiteConfig} (h : t.site = { config := c, valid := true, lock := true }) :
    t.settings = c := by
  rw [State.settings, h]; rfl

/-- Settles O49: the mode, the lock, the lowest byte out of range, and the configuration taken. -/
theorem configureRow : Obligations.ConfigureRow := by
  refine ⟨fun s => ⟨rfl, rfl, fun _ => rfl, fun _ => rfl⟩, fun s hp => ⟨_, exec_configure hp, fun hm => ?live, fun hm hl => ?locked,
    fun hm hl => ⟨fun h => ?budget, fun h1 h16 => ⟨fun h => ?crystal, fun hc => ⟨fun z hz hleast => ?rest, fun hrests => ?taken⟩⟩⟩⟩⟩
  case live =>
    rw [State.configureAnswer, if_pos hm]
    exact s.refuse_refuses _ _
  case locked =>
    rw [State.configureAnswer, if_neg hm, if_pos hl]
    exact s.refuse_refuses _ _
  case budget =>
    rw [State.configureAnswer_badField hm hl (k := 0) (Or.inl ⟨rfl, h⟩) fun j hj => absurd hj (Nat.not_lt_zero j)]
    exact s.refuse_refuses _ _
  case crystal =>
    rw [State.configureAnswer_badField hm hl (k := 1) (Or.inr (Or.inl ⟨rfl, h⟩)) ?_]
    · exact s.refuse_refuses _ _
    · rintro j hj (⟨-, h⟩ | ⟨rfl, -⟩ | ⟨z, rfl, -⟩) <;> omega
  case rest =>
    rw [State.configureAnswer_badField hm hl (k := 2 + z.val) (Or.inr (Or.inr ⟨z, rfl, hz⟩)) ?_]
    · exact s.refuse_refuses _ _
    · rintro j hj (⟨-, h⟩ | ⟨-, h⟩ | ⟨y, rfl, hy⟩)
      · omega
      · omega
      · exact absurd (hleast y (Fin.lt_def.mpr (by omega))) (Nat.not_le.mpr hy)
  case taken =>
    have hnone : ∀ k, ¬ configOffends s.input k := by
      rintro k (⟨-, h⟩ | ⟨-, h⟩ | ⟨y, -, hy⟩)
      · omega
      · omega
      · exact absurd (hrests y) (Nat.not_le.mpr hy)
    rw [State.configureAnswer_taken hm hl hnone]
    have hframe := s.configure_frame (SiteConfig.ofRecord s.input)
    obtain ⟨htriggers, hpulses⟩ := State.configure_owed (s := s) (c := SiteConfig.ofRecord s.input) (by simp [State.isLive, hm])
    have hsensors : ∀ k : SensorIx, (s.configure (SiteConfig.ofRecord s.input)).sensors[k]
        = { pin := s.sensors[k].pin, accepted := s.sensors[k].pin ^^ (s.input 0x14).testBit k.val
            latch := false, filter := none } := fun k => by
      rw [State.configure_sensors]
      exact (Vector.getElem_ofFn k.isLt).trans (by rw [SiteConfig.ofRecord_sensorPolarity])
    have hempty : ∀ n : EntryIx, s.table[n] = none → (s.configure (SiteConfig.ofRecord s.input)).table[n] = none :=
      fun n he => by rw [State.configure_table]; exact State.changeEvent_empty he
    have hentry : ∀ (n : EntryIx) (e : Entry), s.table[n] = some e →
        ∃ e', (s.configure (SiteConfig.ofRecord s.input)).table[n] = some e'
          ∧ e' = { e with storedPattern := e'.storedPattern, storedPermit := e'.storedPermit } :=
      fun n e he => by rw [State.configure_table]; exact State.changeEvent_entry he
    generalize s.configure (SiteConfig.ofRecord s.input) = t at *
    have hsite : t.site = { config := SiteConfig.ofRecord s.input, valid := true, lock := true } := by rw [hframe]
    have hzones : t.zones = allFree := by rw [hframe]
    have hiface : t.iface = s.iface := by rw [hframe]
    have hsettings : (t.complete .ok 0 (some t.configImage)).settings = SiteConfig.ofRecord s.input :=
      State.settings_of_site hsite
    rw [State.budget, hsettings]
    refine ⟨hsite, rfl, rfl, fun z => ⟨?_, ?_⟩, pair_toNat (s.input_lt _) (s.input_lt _), (byteOf_of_lt (s.input_lt _)),
      (byteOf_of_lt (s.input_lt _)), pair_toNat (s.input_lt _) (s.input_lt _), hsensors, hempty, hentry, htriggers,
      hpulses, State.completes_of_iface hiface _ _ _, State.complete_shows _ _ _ _, ?_, ?_⟩
    · exact (congrArg (fun zones : Vector Zone 16 => zones[z]) hzones).trans (Vector.getElem_replicate _)
    · rw [State.restTime, hsettings]
      exact Vector.getElem_ofFn z.isLt
    · rw [State.configRecord]
      congr 1
      show [byteOf (bitAt t.site.valid 0 + bitAt t.site.lock 1)] = [3]
      rw [hsite]
      rfl
    · rw [State.complete_frame]
      rw [hframe]

end Sys2Proof.Machine
end

section
/-! ## The two-wire bus (R156 to R160, R163) -/
namespace Sys2Proof.Machine

section
variable {s : State} {b : Byte} {c : Instr}

/-- The four rows at which a byte is written to the part. -/
def writesByte (b : Byte) (c : Instr) : Prop :=
  c = .pointerByte b ∨ c = .transferBufferWrite b ∨ c = .commandWrite b ∨ c = .ignoredRegisterWrite b

theorem exec_write_unheard (hc : writesByte b c) (h : s.busHeard = false) : exec c s = .next (s.answer .released) := by
  rcases hc with rfl | rfl | rfl | rfl <;> exact congrArg Host.Outcome.next (s.onBus_ignored _ h)

theorem exec_write_closed (hc : writesByte b c) (h : s.iface.phase = .closed ∨ s.iface.phase = .ignored) :
    exec c s = .next (s.answer .released) := by
  cases hb : s.busHeard with
  | false => exact exec_write_unheard hc hb
  | true =>
    rcases hc with rfl | rfl | rfl | rfl <;> refine congrArg Host.Outcome.next ((s.onBus_heard _ hb).trans ?_) <;>
      rcases h with h | h <;> rw [h]

theorem exec_write_nacking (hc : writesByte b c) (hb : s.busHeard = true) (h : s.iface.phase = .nacking) :
    exec c s = .next (s.answer .nack) := by
  rcases hc with rfl | rfl | rfl | rfl <;> refine congrArg Host.Outcome.next ((s.onBus_heard _ hb).trans ?_) <;> rw [h]

theorem exec_pointerByte_awaited (hb : s.busHeard = true) (h : s.iface.phase = .awaitPointer) :
    exec (.pointerByte b) s = .next (s.pointerByte b) := by
  refine congrArg Host.Outcome.next ((s.onBus_heard _ hb).trans ?_)
  rw [h]

theorem exec_transferBufferWrite_writing (hb : s.busHeard = true) (h : s.iface.phase = .writing)
    (hp : s.iface.pointer.val < 0x30) : exec (.transferBufferWrite b) s = .next (s.bufferByte b) := by
  refine congrArg Host.Outcome.next ((s.onBus_heard _ hb).trans ?_)
  rw [h]
  exact if_pos hp

theorem exec_commandWrite_writing (hb : s.busHeard = true) (h : s.iface.phase = .writing)
    (hp : s.iface.pointer.val = 0x30) : exec (.commandWrite b) s = .next (s.commandByte b) := by
  refine congrArg Host.Outcome.next ((s.onBus_heard _ hb).trans ?_)
  rw [h]
  exact if_pos hp

theorem exec_ignoredRegisterWrite_writing (hb : s.busHeard = true) (h : s.iface.phase = .writing)
    (hp : 0x30 < s.iface.pointer.val) : exec (.ignoredRegisterWrite b) s = .next (s.advancePointer.answer .ack) := by
  refine congrArg Host.Outcome.next ((s.onBus_heard _ hb).trans ?_)
  rw [h]
  exact if_pos hp

theorem State.pointerByte_inside (h : b.toNat ≤ 0x33) : s.pointerByte b
    = (({ s with iface := { s.iface with pointer := ⟨b.toNat, Nat.lt_succ_of_le h⟩ } } : State).answer .ack).enterPhase .writing :=
  dif_pos _

theorem State.pointerByte_outside (h : 0x33 < b.toNat) : s.pointerByte b = s.nackRest := dif_neg (by omega)

/-- R157: the pointer goes from 0x33 to 0x00. -/
theorem pointer_succ_of_lt {p : Fin 52} (h : p.val < 0x33) : (p + 1).val = p.val + 1 := by
  rw [Fin.val_add]
  exact Nat.mod_eq_of_lt (by simp; omega)

theorem pointer_succ_of_last {p : Fin 52} (h : p.val = 0x33) : (p + 1).val = 0 := by
  rw [Fin.val_add, h]
  rfl

end

/-- Settles O55: nothing heard, then the transaction's place. -/
theorem busWriteRows : Obligations.BusWriteRows := by
  refine fun s b hbuffer => ⟨fun h c hc => ?_, fun hb => ⟨fun h => ⟨_, exec_pointerByte_awaited hb h, fun hle => ?_, fun hlt => ?_⟩,
    fun h => ⟨fun hp => ⟨_, exec_transferBufferWrite_writing hb h hp, fun hbusy => ?_, fun hbusy => ?_⟩,
      fun hp => ⟨_, exec_commandWrite_writing hb h hp, fun hbusy => ?_, fun hbusy => ?_⟩,
      fun hp => ⟨_, exec_ignoredRegisterWrite_writing hb h hp, pointer_succ_of_lt, pointer_succ_of_last, rfl⟩⟩,
    fun h c hc => exec_write_nacking hc hb h⟩⟩
  · rcases h with h | h
    · exact exec_write_unheard hc h
    · exact exec_write_closed hc h
  · rw [State.pointerByte_inside hle]
    exact ⟨rfl, rfl⟩
  · exact State.pointerByte_outside hlt
  · rw [State.bufferByte, if_neg (by rw [hbusy]; decide)]
    exact ⟨fun a => Memory.read_write _ _ _ a hbuffer, pointer_succ_of_lt (Nat.lt_trans hp (by decide)), rfl⟩
  · exact if_pos hbusy
  · rw [State.commandByte, if_neg (by rw [hbusy]; decide)]
    have hpointer : s.iface.pointer + 1 = 0x31 := Fin.ext ((pointer_succ_of_lt (by omega)).trans (by rw [hp]; rfl))
    simp only [State.advancePointer, hpointer]
    rfl
  · exact if_pos hbusy

/-- R163: the bits of STATUS. -/
theorem statusBits (busy live valid site pending : Bool) (c : Source) {v : Byte}
    (h : v = byteOf (bitAt busy 0 + bitAt live 1 + bitAt valid 2 + bitAt site 3 + bitAt pending 4 + 32 * c.code)) :
    v.getLsbD 0 = busy ∧ v.getLsbD 1 = live ∧ v.getLsbD 2 = valid ∧ v.getLsbD 3 = site ∧ v.getLsbD 4 = pending
      ∧ v.toNat / 32 = c.code := by
  subst h
  cases c <;> decide +revert

theorem State.begin_eq (s : State) :
    s.begin = { s with iface := { s.iface with busy := s.iface.busy || s.iface.code.isSome } } := by
  unfold State.begin
  cases s.iface.code.isSome with
  | true => simp
  | false => simp

section
variable {s : State}

theorem exec_byteRead_heard (hb : s.busHeard = true) (h : s.iface.phase = .reading) :
    exec .byteRead s = .next (s.answer (.byte (s.windowByte s.iface.pointer.val))).advancePointer := by
  refine congrArg Host.Outcome.next ((s.onBus_heard _ hb).trans ?_)
  rw [h]

theorem exec_byteRead_closed (hb : s.busHeard = true) (h : s.iface.phase = .closed ∨ s.iface.phase = .ignored) :
    exec .byteRead s = .next (s.answer .released) := by
  refine congrArg Host.Outcome.next ((s.onBus_heard _ hb).trans ?_)
  rcases h with h | h <;> rw [h]

theorem exec_commandBegin_heard (hb : s.busHeard = true) : exec .commandBegin s = .next s.begin :=
  congrArg Host.Outcome.next (s.onBus_heard _ hb)

theorem exec_busStartOrStop_heard (hb : s.busHeard = true) (c : BusCondition) (cut : Nat) :
    exec (.busStartOrStop c cut) s = .next (s.begin.condition c) :=
  congrArg Host.Outcome.next (s.onBus_heard _ hb)

theorem State.condition_own {adr read : Bool} {address : BitVec 7} (h : address = busAddress adr) : s.condition (.start adr address read)
    = ((({ s with pins := { s.pins with adr := adr } } : State).enterPhase (if read then .reading else .awaitPointer)).answer .ack) :=
  if_pos h

theorem State.condition_other {adr read : Bool} {address : BitVec 7} (h : address ≠ busAddress adr) :
    s.condition (.start adr address read)
      = ((({ s with pins := { s.pins with adr := adr } } : State).enterPhase .ignored).answer .released) :=
  if_neg h

/-- A START samples ADR and moves the transaction alone. -/
theorem State.condition_start_frame (adr read : Bool) (address : BitVec 7) : s.condition (.start adr address read) = { s with
    iface := { s.iface with
      phase := (s.condition (.start adr address read)).iface.phase, reply := (s.condition (.start adr address read)).iface.reply }
    pins := { s.pins with adr := adr } } := by
  by_cases h : address = busAddress adr
  · rw [State.condition_own h]; rfl
  · rw [State.condition_other h]; rfl

end

/-- Settles O56: nothing heard, the codes, and the read, the beginning and the two conditions. -/
theorem busReadAndConditionRows : Obligations.BusReadAndConditionRows := by
  refine ⟨fun s h c hc => ?_, by decide, fun s hb => ⟨exec_byteRead_closed hb,
    fun h => ⟨_, exec_byteRead_heard hb h, ⟨_, rfl, fun hp => ?_, fun hp => ?_, fun hp => ?_, fun hp => ?_, fun hp => ?_⟩,
      pointer_succ_of_lt, pointer_succ_of_last, rfl⟩,
    fun h => ?_, fun h => ?_, fun cut => ⟨⟨_, exec_busStartOrStop_heard hb _ _, ?_⟩,
      fun adr read address => ⟨_, exec_busStartOrStop_heard hb _ _, fun h => ?_, fun h => ?_, ?_⟩⟩⟩⟩
  · rcases hc with rfl | rfl | ⟨condition, cut, rfl⟩ <;> exact congrArg Host.Outcome.next (s.onBus_ignored _ h)
  · exact if_pos hp
  · rw [hp]; rfl
  · rw [hp]; rfl
  · rw [hp]
    exact statusBits _ _ _ _ _ _ rfl
  · rw [hp]; rfl
  · rw [exec_commandBegin_heard hb, State.begin_eq, h, Bool.or_true]
  · rw [exec_commandBegin_heard hb, State.begin_eq, h]
    simp
  · rw [State.begin_eq]; rfl
  · rw [State.begin_eq, State.condition_own h]
    exact ⟨rfl, rfl⟩
  · rw [State.begin_eq, State.condition_other h]
    exact ⟨rfl, rfl⟩
  · rw [State.begin_eq]
    exact State.condition_start_frame _ _ _

end Sys2Proof.Machine
end

section
/-! ## Candidates, the prescaler and the switch of sources (R67 to R76) -/
namespace Sys2Proof.Machine

/-! ### The selector through one internal cycle -/

/-- No candidate is READY. -/
def Selector.NotReady (x : Selector) : Prop := ∀ c code quiet, x ≠ .ready c code quiet

theorem Selector.notReady_starting (c : Check) : (Selector.starting c).NotReady := nofun

theorem Selector.notReady_steady : Selector.steady.NotReady := nofun

section
variable {s : State}

/-- With no READY candidate the prescaler moves itself and the count of second events raised. -/
theorem State.prescale_notReady (h : s.timebase.selector.NotReady) : s.prescale = { s with
    timebase := { s.timebase with
      prescaler := if s.timebase.prescaler + 1 < s.timebase.active.divisor then s.timebase.prescaler + 1 else 0
      sincePrescaler := 0
      quiet := s.prescale.timebase.quiet }
    owed := { s.owed with seconds :=
      s.owed.seconds + (if s.timebase.prescaler + 1 < s.timebase.active.divisor then 0 else 1) } } := by
  by_cases hp : s.timebase.prescaler + 1 < s.timebase.active.divisor
  · rw [State.prescale_below s hp]
    simp only [if_pos hp]
    rfl
  · rw [State.prescale_at s (Nat.not_lt.mp hp), State.raiseSecond_other s h]
    simp only [if_neg hp]

theorem State.prescale_quiet (h : s.timebase.quiet = 0) (h' : s.timebase.selector.NotReady) : s.prescale.timebase.quiet = 0 := by
  by_cases hp : s.timebase.prescaler + 1 < s.timebase.active.divisor
  · rw [State.prescale_below s hp]; exact h
  · rw [State.prescale_at s (Nat.not_lt.mp hp), State.raiseSecond_other s h']

theorem State.activeCycle_other {p : Source → Bool} (h : p s.timebase.active = false) : s.activeCycle p = s :=
  if_neg (Bool.eq_false_iff.mp h)

/-- A cycle of the active source, with no READY candidate. -/
theorem State.activeCycle_notReady {p : Source → Bool} (h : p s.timebase.active = true) (hr : s.timebase.selector.NotReady) :
    s.activeCycle p = { s with
      timebase := { s.timebase with
        prescaler := if s.timebase.prescaler + 1 < s.timebase.active.divisor then s.timebase.prescaler + 1 else 0
        sincePrescaler := 0
        quiet := 0 }
      owed := { s.owed with seconds :=
        s.owed.seconds + (if s.timebase.prescaler + 1 < s.timebase.active.divisor then 0 else 1) } } := by
  have hcycle : s.activeCycle p = ({ s with timebase := { s.timebase with quiet := 0 } } : State).prescale := if_pos h
  have hquiet := State.prescale_quiet (s := { s with timebase := { s.timebase with quiet := 0 } }) rfl hr
  have hprescale := State.prescale_notReady (s := { s with timebase := { s.timebase with quiet := 0 } }) hr
  rw [hquiet] at hprescale
  rw [hcycle, hprescale]

/-- Where no candidate is READY, a cycle of the active source leaves the candidate, the active source and the oscillator alone. -/
theorem State.activeCycle_keeps {p : Source → Bool} (hr : s.timebase.selector.NotReady) :
    (s.activeCycle p).timebase.selector = s.timebase.selector
      ∧ (s.activeCycle p).timebase.crystalRunning = s.timebase.crystalRunning := by
  cases h : p s.timebase.active with
  | false => rw [State.activeCycle_other h]; exact ⟨rfl, rfl⟩
  | true => rw [State.activeCycle_notReady h hr]; exact ⟨rfl, rfl⟩

/-- The prescaler leaves a READY candidate, or makes it the active source. -/
theorem State.prescale_candidate (s : State) :
    (s.prescale.timebase.selector = s.timebase.selector ∧ s.prescale.timebase.crystalRunning = s.timebase.crystalRunning)
    ∨ s.prescale.timebase.selector = .steady := by
  by_cases hp : s.timebase.prescaler + 1 < s.timebase.active.divisor
  · rw [State.prescale_below _ hp]
    exact Or.inl ⟨rfl, rfl⟩
  rw [State.prescale_at _ (Nat.not_lt.mp hp)]
  by_cases hr : s.timebase.selector.NotReady
  · rw [State.raiseSecond_other s hr]
    exact Or.inl ⟨rfl, rfl⟩
  · simp only [Selector.NotReady, not_forall, not_not, ne_eq] at hr
    obtain ⟨c, code, quiet, hr⟩ := hr
    rw [State.raiseSecond_ready _ c code quiet hr]
    exact Or.inr rfl

/-- A READY candidate stays READY, or becomes the active source. -/
theorem State.activeCycle_candidate (s : State) (p : Source → Bool) :
    ((s.activeCycle p).timebase.selector = s.timebase.selector
      ∧ (s.activeCycle p).timebase.crystalRunning = s.timebase.crystalRunning)
    ∨ (s.activeCycle p).timebase.selector = .steady := by
  cases h : p s.timebase.active with
  | false => rw [State.activeCycle_other h]; exact Or.inl ⟨rfl, rfl⟩
  | true =>
    have hcycle : s.activeCycle p = ({ s with timebase := { s.timebase with quiet := 0 } } : State).prescale := if_pos h
    rw [hcycle]
    exact State.prescale_candidate { s with timebase := { s.timebase with quiet := 0 } }

end

theorem Nat.repeat_succ_comm {α : Type} (f : α → α) : ∀ (k : Nat) (a : α), Nat.repeat f k (f a) = f (Nat.repeat f k a)
  | 0, _ => rfl
  | k + 1, a => congrArg f (Nat.repeat_succ_comm f k a)

/-- A cycle of the crystal leaves a check a check of the same source. -/
theorem Selector.crystalCycle_starting (c : Check) : ∃ c', (Selector.starting c).crystalCycle = .starting c' ∧ c'.source = c.source := by
  by_cases hc : c.source = .crystal
  · exact ⟨_, if_pos hc, rfl⟩
  · exact ⟨_, if_neg hc, rfl⟩

/-- So does a zero crossing. -/
theorem Selector.mainsCycle_starting (c : Check) : ∃ c', (Selector.starting c).mainsCycle = .starting c' ∧ c'.source = c.source := by
  by_cases hc : c.source.isMains = true
  · exact ⟨_, if_pos hc, rfl⟩
  · exact ⟨_, if_neg hc, rfl⟩

theorem Selector.notReady_crystalCycle {x : Selector} (h : x.NotReady) : x.crystalCycle.NotReady := by
  cases x with
  | steady => exact h
  | starting c =>
    obtain ⟨c', hc', -⟩ := Selector.crystalCycle_starting c
    exact hc' ▸ Selector.notReady_starting c'
  | ready c code quiet => exact absurd rfl (h c code quiet)

/-- The crystal's cycles that fall in an internal cycle, one after another, at a candidate that is not READY. -/
theorem State.crystalCycles_selector : ∀ (k : Nat) {s : State}, s.timebase.selector.NotReady → s.timebase.crystalRunning = true →
    (State.crystalCycles k s).timebase.selector = Nat.repeat Selector.crystalCycle k s.timebase.selector
  | 0, _, _, _ => rfl
  | k + 1, s, hr, hrun => by
    rw [State.crystalCycles, if_pos hrun]
    have hcycled : ({ s with timebase := { s.timebase with selector := s.timebase.selector.crystalCycle } } : State).timebase.selector.NotReady :=
      Selector.notReady_crystalCycle hr
    obtain ⟨hselector, hrunning⟩ := State.activeCycle_keeps (p := (· == .crystal)) hcycled
    rw [State.crystalCycles_selector k (by rw [hselector]; exact hcycled) (hrunning.trans hrun), hselector]
    exact Nat.repeat_succ_comm _ _ _

theorem Selector.crystalCycle_mains {c : Check} (h : c.source.isMains = true) :
    (Selector.starting c).crystalCycle = .starting c :=
  if_neg fun h' => by rw [h'] at h; cases h

/-- Within an internal cycle the internal cycle comes first, then the crystal's cycles, and the zero crossing last. -/
def State.agedCrystal (s : State) : State :=
  State.crystalCycles (Config.crystalCycles s.ticks) (s.ageTimebase.activeCycle (· == .internal))

theorem State.tickTimebase_eq (s : State) :
    s.tickTimebase = if Config.mainsCrossing s.ticks then s.agedCrystal.mainsCrossing else s.agedCrystal := rfl

section
variable {s : State}

theorem State.tick_clock (h : s.powered = true) : s.tick.timebase = s.tickTimebase.timebase ∧ s.tick.owed = s.tickTimebase.owed
    ∧ s.tick.device = s.tickTimebase.device := by
  have hfilters (u : State) : u.tickFilters.timebase = u.timebase ∧ u.tickFilters.owed = u.owed ∧ u.tickFilters.device = u.device := by
    unfold State.tickFilters; split <;> exact ⟨rfl, rfl, rfl⟩
  have hsupply (u : State) : u.tickSupply.timebase = u.timebase ∧ u.tickSupply.owed = u.owed ∧ u.tickSupply.device = u.device := by
    unfold State.tickSupply; split <;> exact ⟨rfl, rfl, rfl⟩
  rw [State.tick, if_pos h]
  obtain ⟨h1, h2, h3⟩ := hsupply s.tickTimebase.tickFilters
  obtain ⟨h4, h5, h6⟩ := hfilters s.tickTimebase
  exact ⟨h1.trans h4, h2.trans h5, h3.trans h6⟩

theorem Selector.age_notReady {x : Selector} (h : x.NotReady) : x.age.NotReady := by
  cases x with
  | steady => exact h
  | starting c => exact Selector.notReady_starting _
  | ready c code quiet => exact absurd rfl (h c code quiet)

/-- A candidate that is not READY after the crystal's cycles of an internal cycle. -/
theorem State.agedCrystal_selector (hr : s.timebase.selector.NotReady) (hrun : s.timebase.crystalRunning = true) :
    s.agedCrystal.timebase.selector
      = Nat.repeat Selector.crystalCycle (Config.crystalCycles s.ticks) s.timebase.selector.age := by
  have haged : s.ageTimebase.timebase.selector.NotReady := Selector.age_notReady hr
  obtain ⟨hselector, hrunning⟩ := State.activeCycle_keeps (p := (· == .internal)) haged
  rw [State.agedCrystal, State.crystalCycles_selector _ (by rw [hselector]; exact haged) (hrunning.trans hrun), hselector]
  rfl

theorem State.crystalCycles_stopped (k : Nat) (h : s.timebase.crystalRunning = false) : State.crystalCycles k s = s := by
  cases k with
  | zero => rfl
  | succ k => exact if_neg (by rw [h]; decide)

theorem Nat.repeat_of_fixed {α : Type} {f : α → α} {a : α} (h : f a = a) : ∀ k, Nat.repeat f k a = a
  | 0 => rfl
  | k + 1 => (congrArg f (Nat.repeat_of_fixed h k)).trans h

/-- The crystal's cycles are nothing to a mains candidate. -/
theorem State.agedCrystal_mains {c : Check} (hc : s.timebase.selector = .starting c) (hm : c.source.isMains = true) :
    s.agedCrystal.timebase.selector = (Selector.starting c).age := by
  have hr : s.timebase.selector.NotReady := hc ▸ Selector.notReady_starting c
  cases hrun : s.timebase.crystalRunning with
  | true =>
    rw [State.agedCrystal_selector hr hrun, hc]
    exact Nat.repeat_of_fixed (a := (Selector.starting c).age) (Selector.crystalCycle_mains hm) _
  | false =>
    obtain ⟨hselector, hrunning⟩ := State.activeCycle_keeps (s := s.ageTimebase) (p := (· == .internal)) (Selector.age_notReady hr)
    rw [State.agedCrystal, State.crystalCycles_stopped _ (hrunning.trans hrun), hselector, ← hc]
    rfl

theorem Selector.notReady_mainsCycle {x : Selector} (h : x.NotReady) : x.mainsCycle.NotReady := by
  cases x with
  | steady => exact h
  | starting c =>
    obtain ⟨c', hc', -⟩ := Selector.mainsCycle_starting c
    exact hc' ▸ Selector.notReady_starting c'
  | ready c code quiet => exact absurd rfl (h c code quiet)

theorem State.mainsCrossing_selector (hr : s.timebase.selector.NotReady) :
    s.mainsCrossing.timebase.selector = s.timebase.selector.mainsCycle := by
  have h := (State.activeCycle_keeps (s := { s with timebase := { s.timebase with selector := s.timebase.selector.mainsCycle } })
    (p := Source.isMains) (Selector.notReady_mainsCycle hr)).1
  exact h

theorem Nat.repeat_invariant {α : Type} {f : α → α} {P : α → Prop} (h : ∀ a, P a → P (f a)) {a : α} (ha : P a) :
    ∀ k, P (Nat.repeat f k a)
  | 0 => ha
  | k + 1 => h _ (Nat.repeat_invariant h ha k)

/-- A STARTING check of the crystal. -/
def Selector.ChecksCrystal (x : Selector) : Prop := ∃ c, x = .starting c ∧ c.source = .crystal

theorem Selector.ChecksCrystal.cycle {x : Selector} (h : x.ChecksCrystal) : x.crystalCycle.ChecksCrystal := by
  obtain ⟨c, rfl, hc⟩ := h
  obtain ⟨c', hc', hsource⟩ := Selector.crystalCycle_starting c
  exact ⟨c', hc', hsource.trans hc⟩

theorem Selector.ChecksCrystal.notReady {x : Selector} (h : x.ChecksCrystal) : x.NotReady := by
  obtain ⟨c, rfl, -⟩ := h
  exact Selector.notReady_starting c

theorem Selector.ChecksCrystal.mainsCycle {x : Selector} (h : x.ChecksCrystal) : x.mainsCycle = x := by
  obtain ⟨c, rfl, hc⟩ := h
  exact if_neg (by rw [hc]; decide)

/-- A STARTING crystal through one internal cycle. -/
theorem State.tick_startingCrystal (hp : s.powered = true) {c : Check} (hc : s.timebase.selector = .starting c) (hx : c.source = .crystal)
    (hrun : s.timebase.crystalRunning = true) : s.tick.timebase.selector
      = Nat.repeat Selector.crystalCycle (Config.crystalCycles s.ticks) (Selector.starting c).age := by
  have hselector := State.agedCrystal_selector (hc ▸ Selector.notReady_starting c) hrun
  rw [hc] at hselector
  have hchecks : s.agedCrystal.timebase.selector.ChecksCrystal := by
    rw [hselector]
    have haged : (Selector.starting c).age.ChecksCrystal := ⟨_, rfl, hx⟩
    exact Nat.repeat_invariant (f := Selector.crystalCycle) (P := Selector.ChecksCrystal) (fun _ => Selector.ChecksCrystal.cycle) haged _
  rw [(State.tick_clock hp).1, State.tickTimebase_eq]
  split
  · rw [State.mainsCrossing_selector hchecks.notReady, hchecks.mainsCycle, hselector]
  · exact hselector

/-- A STARTING mains candidate through one internal cycle. -/
theorem State.tick_startingMains (hp : s.powered = true) {c : Check} (hc : s.timebase.selector = .starting c)
    (hm : c.source.isMains = true) : s.tick.timebase.selector
      = if Config.mainsCrossing s.ticks = true then (Selector.starting c).age.mainsCycle else (Selector.starting c).age := by
  have hselector := State.agedCrystal_mains hc hm
  rw [(State.tick_clock hp).1, State.tickTimebase_eq]
  split
  · rw [State.mainsCrossing_selector (by rw [hselector]; exact Selector.notReady_starting _), hselector]
  · exact hselector

/-! ### The watch of a READY candidate -/

/-- The candidate is READY with its watch at `quiet`, or has become active. -/
def Selector.ReadyAt (x : Selector) (c : Source) (code quiet : Nat) : Prop := x = .steady ∨ x = .ready c code quiet

theorem State.activeCycle_readyAt {c : Source} {code quiet : Nat} (p : Source → Bool)
    (h : s.timebase.selector.ReadyAt c code quiet) : (s.activeCycle p).timebase.selector.ReadyAt c code quiet := by
  rcases s.activeCycle_candidate p with ⟨h', -⟩ | h'
  · rw [h']; exact h
  · exact Or.inl h'

theorem State.crystalCycles_readyAt {c : Source} {code : Nat} : ∀ (k : Nat) {s : State} {quiet : Nat},
    s.timebase.selector.ReadyAt c code quiet → (State.crystalCycles k s).timebase.selector.ReadyAt c code
      (if c = .crystal ∧ s.timebase.crystalRunning = true ∧ 0 < k then 0 else quiet)
  | 0, s, quiet, h => by rw [if_neg (by simp)]; exact h
  | k + 1, s, quiet, h => by
    cases hrun : s.timebase.crystalRunning with
    | false => rw [State.crystalCycles_stopped _ hrun, if_neg (by simp)]; exact h
    | true =>
      rw [State.crystalCycles, if_pos hrun]
      have hcycled : ({ s with timebase := { s.timebase with selector := s.timebase.selector.crystalCycle } } : State).timebase.selector.ReadyAt
          c code (if c = .crystal then 0 else quiet) := by
        rcases h with h | h
        · exact Or.inl (by rw [h]; rfl)
        · exact Or.inr (by rw [h]; rfl)
      have hrest := State.crystalCycles_readyAt k (State.activeCycle_readyAt (· == .crystal) hcycled)
      by_cases hc : c = .crystal
      · simpa [hc] using hrest
      · simpa [hc] using hrest

theorem State.crystalCycles_steady (k : Nat) (h : s.timebase.selector = .steady) :
    (State.crystalCycles k s).timebase.selector = .steady := by
  cases hrun : s.timebase.crystalRunning with
  | false => rw [State.crystalCycles_stopped _ hrun, h]
  | true =>
    rw [State.crystalCycles_selector k (by rw [h]; exact Selector.notReady_steady) hrun, h]
    exact Nat.repeat_of_fixed rfl k

theorem State.mainsCrossing_readyAt {c : Source} {code quiet : Nat} (h : s.timebase.selector.ReadyAt c code quiet) :
    s.mainsCrossing.timebase.selector.ReadyAt c code (if c.isMains then 0 else quiet) := by
  refine State.activeCycle_readyAt (s := { s with timebase := { s.timebase with selector := s.timebase.selector.mainsCycle } })
    Source.isMains ?_
  rcases h with h | h
  · exact Or.inl (by rw [h]; rfl)
  · exact Or.inr (by rw [h]; rfl)

/-- A READY candidate through one internal cycle. -/
theorem State.tick_ready (hp : s.powered = true) {c : Source} {code quiet : Nat} (hc : s.timebase.selector = .ready c code quiet) :
    s.tick.timebase.selector.ReadyAt c code
      (if (c = .crystal ∧ s.timebase.crystalRunning = true ∧ 0 < Config.crystalCycles s.ticks)
        ∨ (c.isMains = true ∧ Config.mainsCrossing s.ticks = true) then 0 else quiet + 1) := by
  have haged : s.ageTimebase.timebase.selector = .ready c code (quiet + 1) := by
    rw [State.ageTimebase, hc]; rfl
  have hcrystal : s.agedCrystal.timebase.selector.ReadyAt c code
      (if c = .crystal ∧ s.timebase.crystalRunning = true ∧ 0 < Config.crystalCycles s.ticks then 0 else quiet + 1) := by
    rcases s.ageTimebase.activeCycle_candidate (· == .internal) with ⟨h, hrun⟩ | h
    · have := State.crystalCycles_readyAt (Config.crystalCycles s.ticks) (Or.inr (h.trans haged))
      rwa [hrun] at this
    · exact Or.inl (State.crystalCycles_steady _ h)
  rw [(State.tick_clock hp).1, State.tickTimebase_eq]
  split
  · next hcross =>
    have := State.mainsCrossing_readyAt hcrystal
    cases c <;> simpa [hcross, Source.isMains] using this
  · next hcross => simpa [hcross] using hcrystal

end

/-! ### What waits at the Timebase -/

/-- The rows that the Timebase reaches by itself. -/
def isTimebaseRow : Instr → Bool
  | .crystalCheckPass | .mainsCheckPass | .checkTimeout | .readyCandidateFault | .activeSourceFault => true
  | _ => false

theorem rowOf_isCommand (prg : Bool) (code : Byte) : isCommand (rowOf prg code) = true := by
  unfold rowOf
  split <;> rfl

section
variable {s : State} {i : Instr}

theorem State.mem_waitingCompletion (h : i ∈ s.waitingCompletion) : isCommand i = true := by
  unfold State.waitingCompletion at h
  split at h
  · split at h
    · rw [List.mem_singleton.mp h]
      exact rowOf_isCommand _ _
    · cases h
  · cases h

theorem State.not_mem_waitingArrivals (h : isTimebaseRow i = true) : i ∉ s.waitingArrivals := by
  unfold State.waitingArrivals
  simp only [List.mem_append, List.mem_map, List.mem_eraseDups]
  rintro (((⟨_, -, rfl⟩ | ⟨t, -, rfl⟩) | ⟨_, -, rfl⟩) | ⟨_, -, rfl⟩)
  · cases h
  · split at h <;> cases h
  · cases h
  · cases h

/-- No other part of the block waits with a row of the Timebase. -/
theorem State.mem_waiting_iff (h : isTimebaseRow i = true) : i ∈ s.waiting ↔ i ∈ s.waitingTimebase := by
  have hcompletion : i ∉ s.waitingCompletion := fun h' => by
    have := State.mem_waitingCompletion h'
    cases i <;> simp_all [isTimebaseRow, isCommand]
  have hsecond : i ∉ s.waitingSecond := by
    unfold State.waitingSecond
    split
    · rintro h'
      rw [List.mem_singleton.mp h'] at h
      cases h
    · exact List.not_mem_nil
  have hwalk : i ∉ s.waitingWalk := by
    unfold State.waitingWalk
    split
    · rintro h'
      rw [List.mem_singleton.mp h'] at h
      cases h
    · exact List.not_mem_nil
  have hacceptances : i ∉ s.waitingAcceptances := by
    unfold State.waitingAcceptances
    split
    · rw [List.mem_map]
      rintro ⟨k, -, rfl⟩
      cases h
    · exact List.not_mem_nil
  have hsupply : i ∉ s.waitingSupply := by
    unfold State.waitingSupply
    split
    · exact List.not_mem_nil
    split
    · rintro h'
      rw [List.mem_singleton.mp h'] at h
      cases h
    split
    · rintro h'
      rw [List.mem_singleton.mp h'] at h
      cases h
    · exact List.not_mem_nil
  have harrivals : i ∉ s.waitingArrivals.filter s.nextTransition := fun h' =>
    State.not_mem_waitingArrivals h (List.mem_filter.mp h').1
  simp only [State.waiting, List.mem_append, hcompletion, hsecond, harrivals, hwalk, hacceptances, hsupply, false_or, or_false]

/-- What the candidate has reached (R71 to R73, R76). -/
def State.waitingCandidate (s : State) : List Instr :=
  match s.timebase.selector with
  | .steady => []
  | .starting c =>
    if goodRequired c.source c.code ≤ c.good then
      (if c.source = .crystal then [.crystalCheckPass] else [.mainsCheckPass])
    else if checkLimit ≤ c.elapsed then [.checkTimeout] else []
  | .ready c _ quiet => if c != .internal && c.watchLimit ≤ quiet then [.readyCandidateFault] else []

theorem State.mem_waiting_candidate (h : isTimebaseRow i = true) (hp : s.powered = true) (hi : i ≠ .activeSourceFault) :
    i ∈ s.waiting ↔ i ∈ s.waitingCandidate := by
  rw [State.mem_waiting_iff h, State.waitingTimebase, if_pos hp]
  show i ∈ s.waitingCandidate ++ _ ↔ _
  rw [List.mem_append]
  refine or_iff_left ?_
  split
  · exact fun h' => hi (List.mem_singleton.mp h')
  · exact List.not_mem_nil

theorem State.waitingCandidate_starting {c : Check} (hc : s.timebase.selector = .starting c) : s.waitingCandidate =
    if goodRequired c.source c.code ≤ c.good then
      (if c.source = .crystal then [.crystalCheckPass] else [.mainsCheckPass])
    else if checkLimit ≤ c.elapsed then [.checkTimeout] else [] := by
  unfold State.waitingCandidate
  rw [hc]

theorem State.checkTimeout_waits (hp : s.powered = true) {c : Check} (hc : s.timebase.selector = .starting c) :
    .checkTimeout ∈ s.waiting ↔ c.good < goodRequired c.source c.code ∧ 96000 ≤ c.elapsed := by
  rw [State.mem_waiting_candidate (i := .checkTimeout) rfl hp nofun, State.waitingCandidate_starting hc]
  by_cases hgood : goodRequired c.source c.code ≤ c.good
  · rw [if_pos hgood]
    refine iff_of_false ?_ fun h => absurd h.1 (Nat.not_lt.mpr hgood)
    split <;> simp
  · rw [if_neg hgood]
    by_cases h : checkLimit ≤ c.elapsed
    · rw [if_pos h]
      exact iff_of_true (List.mem_singleton.mpr rfl) ⟨Nat.not_le.mp hgood, h⟩
    · rw [if_neg h]
      exact iff_of_false List.not_mem_nil fun h' => h h'.2

theorem State.checkPass_waits (hp : s.powered = true) {c : Check} (hc : s.timebase.selector = .starting c) {i : Instr}
    (hi : i = if c.source = .crystal then .crystalCheckPass else .mainsCheckPass) :
    i ∈ s.waiting ↔ goodRequired c.source c.code ≤ c.good := by
  have hrow : isTimebaseRow i = true ∧ i ≠ .activeSourceFault ∧ i ≠ .checkTimeout := by
    rw [hi]; split <;> exact ⟨rfl, nofun, nofun⟩
  rw [State.mem_waiting_candidate hrow.1 hp hrow.2.1, State.waitingCandidate_starting hc]
  by_cases hgood : goodRequired c.source c.code ≤ c.good
  · rw [if_pos hgood, hi]
    refine iff_of_true ?_ hgood
    split <;> exact List.mem_singleton.mpr rfl
  · rw [if_neg hgood]
    refine iff_of_false ?_ hgood
    split
    · exact fun h => hrow.2.2 (List.mem_singleton.mp h)
    · exact List.not_mem_nil

theorem mem_ite_singleton {i : Instr} {b : Bool} : i ∈ (if b then [i] else []) ↔ b = true := by
  cases b <;> simp

theorem State.readyFault_waits (hp : s.powered = true) {c : Source} {code quiet : Nat}
    (hc : s.timebase.selector = .ready c code quiet) :
    .readyCandidateFault ∈ s.waiting ↔ (c = .crystal ∧ 32 ≤ quiet) ∨ (c.isMains = true ∧ 1920 ≤ quiet) := by
  rw [State.mem_waiting_candidate (i := .readyCandidateFault) rfl hp nofun]
  unfold State.waitingCandidate
  rw [hc, mem_ite_singleton, Bool.and_eq_true, decide_eq_true_eq, bne_iff_ne]
  cases c <;> simp [Source.isMains, Source.watchLimit, cyclesPerMs]

end

/-! ### The rows of the candidate -/

section
variable {s : State}

theorem exec_crystalCheckPass (hp : s.powered = true) {c : Check} (hc : s.timebase.selector = .starting c) (hx : c.source = .crystal) :
    exec .crystalCheckPass s = .next (s.passCheck c) := by
  refine congrArg Host.Outcome.next ?_
  rw [hc]
  exact if_pos (by rw [hp, hx]; rfl)

theorem exec_mainsCheckPass (hp : s.powered = true) {c : Check} (hc : s.timebase.selector = .starting c)
    (hm : c.source.isMains = true) : exec .mainsCheckPass s = .next (s.passCheck c) := by
  refine congrArg Host.Outcome.next ?_
  rw [hc]
  exact if_pos (by rw [hp, hm]; rfl)

theorem exec_checkTimeout (hp : s.powered = true) {c : Check} (hc : s.timebase.selector = .starting c) :
    exec .checkTimeout s = .next s.failCandidate := by
  refine congrArg Host.Outcome.next ?_
  rw [hc]
  exact if_pos hp

theorem exec_readyCandidateFault (hp : s.powered = true) {c : Source} {code quiet : Nat} (hc : s.timebase.selector = .ready c code quiet)
    (hi : c ≠ .internal) : exec .readyCandidateFault s = .next s.failCandidate := by
  refine congrArg Host.Outcome.next ?_
  rw [hc]
  exact if_pos (by simp [hp, hi])

end

theorem goodRequired_mains {c : Source} (h : c.isMains = true) (code : Nat) :
    goodRequired c code = if c = .mains50 then 100 else 120 := by
  cases c with
  | internal | crystal => cases h
  | mains50 | mains60 => rfl

/-- R72: the first zero crossing begins a period; a later one ends one, which is good or not. -/
theorem Selector.mainsCycle_check {c : Check} (hm : c.source.isMains = true) : (Selector.starting c).mainsCycle = .starting { c with
    quiet := some 0
    good := if ∃ q, c.quiet = some q ∧ ((c.source = .mains50 ∧ 576 ≤ q ∧ q ≤ 704) ∨ (c.source = .mains60 ∧ 480 ≤ q ∧ q ≤ 585))
      then min (if c.source = .mains50 then 100 else 120) (c.good + 1) else 0 } := by
  refine (if_pos hm : (Selector.starting c).mainsCycle = _).trans ?_
  have hperiod (q : Nat) : goodPeriod c.source q = true ↔
      (c.source = .mains50 ∧ 576 ≤ q ∧ q ≤ 704) ∨ (c.source = .mains60 ∧ 480 ≤ q ∧ q ≤ 585) := by
    cases c.source <;> simp [goodPeriod]
  rw [goodRequired_mains hm]
  cases hq : c.quiet with
  | none => simp
  | some q => simp [hperiod]

/-- R71, R76: a gap of more than 1 ms returns a crystal's count to 0. -/
theorem Selector.age_check (c : Check) : (Selector.starting c).age = .starting { c with
    elapsed := c.elapsed + 1
    quiet := c.quiet.map (· + 1)
    good := if c.source = .crystal ∧ ∃ q, c.quiet = some q ∧ 32 < q + 1 then 0 else c.good } := by
  obtain ⟨source, good, elapsed, code, quiet⟩ := c
  cases quiet <;> simp [Selector.age, cyclesPerMs]

/-- Settles O29: the counting of a check, an internal cycle, and the rows that wait. -/
theorem candidateRows : Obligations.CandidateRows := by
  refine ⟨fun c => ⟨fun hx => ?_, Selector.mainsCycle_check, Selector.age_check c⟩, ?_, fun s hp =>
    ⟨fun k hk hx => ⟨?_, ?_, _, exec_crystalCheckPass hp hk hx, ?_⟩, fun k hk hm => ⟨?_, ?_, _, exec_mainsCheckPass hp hk hm, rfl⟩,
      fun x code quiet hc => State.readyFault_waits hp hc, fun c hc => ?_⟩⟩
  · refine (if_pos hx : (Selector.starting c).crystalCycle = _).trans ?_
    rw [hx]; rfl
  · rintro s cycles hp rfl
    exact ⟨fun c hc => ⟨fun hx hrun => State.tick_startingCrystal hp hc hx hrun, fun hm => State.tick_startingMains hp hc hm⟩,
      fun x code quiet hc => State.tick_ready hp hc⟩
  · rw [State.checkPass_waits hp hk (by rw [if_pos hx]), hx]; rfl
  · rw [State.checkTimeout_waits hp hk, hx]; rfl
  · rw [State.passCheck, hx]
  · rw [State.checkPass_waits hp hk (if_neg fun h => by rw [h] at hm; cases hm).symm, goodRequired_mains hm]
  · rw [State.checkTimeout_waits hp hk, goodRequired_mains hm]
  · have hexec : exec c s = .next s.failCandidate := by
      rcases hc with ⟨rfl, k, hk⟩ | ⟨rfl, x, code, quiet, hx, hi⟩
      · exact exec_checkTimeout hp hk
      · exact exec_readyCandidateFault hp hx hi
    exact ⟨_, hexec, rfl, rfl, rfl, Timebase.withOscillator_crystalRunning _, rfl⟩

end Sys2Proof.Machine
end

section
/-! ## The prescaler, internal cycles and the switch of sources (R67, R74) -/
namespace Sys2Proof.Machine

/-! ### Cycles of the active source, with the selector STEADY -/

/-- From `s` to `t` the active source has made `k` cycles and the selector has stayed STEADY. -/
structure State.Cycled (s t : State) (k : Nat) : Prop where
  active : t.timebase.active = s.timebase.active
  selector : t.timebase.selector = .steady
  running : t.timebase.crystalRunning = s.timebase.crystalRunning
  device : t.device = s.device
  owed : t.owed = { s.owed with seconds := t.owed.seconds }
  prescaler : t.timebase.prescaler < s.timebase.active.divisor
  count : t.owed.seconds * s.timebase.active.divisor + t.timebase.prescaler
    = s.owed.seconds * s.timebase.active.divisor + s.timebase.prescaler + k
  quiet : t.timebase.quiet = if 0 < k then 0 else s.timebase.quiet
  since : t.timebase.sincePrescaler = if 0 < k then 0 else s.timebase.sincePrescaler

theorem State.Cycled.refl {s : State} (hs : s.timebase.selector = .steady) (hp : s.prescalerLaw) : s.Cycled s 0 :=
  ⟨rfl, hs, rfl, rfl, rfl, hp, rfl, rfl, rfl⟩

theorem State.Cycled.trans {s t u : State} {j k : Nat} (h : s.Cycled t j) (h' : t.Cycled u k) : s.Cycled u (j + k) where
  active := h'.active.trans h.active
  selector := h'.selector
  running := h'.running.trans h.running
  device := h'.device.trans h.device
  owed := by rw [h'.owed, h.owed]
  prescaler := h.active ▸ h'.prescaler
  count := by
    have h1 := h.count
    have h2 := h'.count
    rw [h.active] at h2
    omega
  quiet := by
    rw [h'.quiet, h.quiet]
    by_cases hk : 0 < k <;> by_cases hj : 0 < j <;> simp [hk, hj]
  since := by
    rw [h'.since, h.since]
    by_cases hk : 0 < k <;> by_cases hj : 0 < j <;> simp [hk, hj]

section
variable {s : State}

theorem State.Cycled.law {t : State} {k : Nat} (h : s.Cycled t k) : t.prescalerLaw := by
  rw [State.prescalerLaw, h.active]
  exact h.prescaler

theorem State.activeCycle_cycled (p : Source → Bool) (hs : s.timebase.selector = .steady) (hp : s.prescalerLaw) :
    s.Cycled (s.activeCycle p) (if p s.timebase.active then 1 else 0) := by
  cases h : p s.timebase.active with
  | false =>
    rw [State.activeCycle_other h]
    exact State.Cycled.refl hs hp
  | true =>
    rw [State.activeCycle_notReady h (hs ▸ Selector.notReady_steady)]
    unfold State.prescalerLaw at hp
    refine ⟨rfl, hs, rfl, rfl, rfl, ?_, ?_, rfl, rfl⟩
    · show (if _ then _ else _) < _
      split <;> omega
    · show (s.owed.seconds + (if _ then 0 else 1)) * _ + (if _ then _ else 0) = _
      split
      · rfl
      · rw [Nat.add_mul, if_pos rfl]
        omega

/-- At a STEADY selector the crystal's cycles and the zero crossings are those of the active source alone. -/
theorem Timebase.steady_crystalCycle {t : Timebase} (h : t.selector = .steady) : { t with selector := t.selector.crystalCycle } = t := by
  rw [h]
  exact (congrArg (fun x => { t with selector := x }) h).symm

theorem Timebase.steady_mainsCycle {t : Timebase} (h : t.selector = .steady) : { t with selector := t.selector.mainsCycle } = t := by
  rw [h]
  exact (congrArg (fun x => { t with selector := x }) h).symm

theorem State.crystalCycles_succ (k : Nat) (hs : s.timebase.selector = .steady) (hrun : s.timebase.crystalRunning = true) :
    State.crystalCycles (k + 1) s = State.crystalCycles k (s.activeCycle (· == .crystal)) := by
  rw [State.crystalCycles, if_pos hrun, Timebase.steady_crystalCycle hs]

theorem State.crystalCycles_cycled : ∀ (k : Nat) {s : State}, s.timebase.selector = .steady → s.prescalerLaw →
    s.timebase.active = .crystal → s.timebase.crystalRunning = true → s.Cycled (State.crystalCycles k s) k
  | 0, _, hs, hp, _, _ => State.Cycled.refl hs hp
  | k + 1, s, hs, hp, ha, hrun => by
    rw [State.crystalCycles_succ k hs hrun]
    have hone := State.activeCycle_cycled (· == .crystal) hs hp
    rw [if_pos (by rw [ha]; rfl)] at hone
    rw [Nat.add_comm]
    exact hone.trans (State.crystalCycles_cycled k hone.selector hone.law (hone.active.trans ha) (hone.running.trans hrun))

/-- The crystal's cycles move nothing where the crystal is neither active nor a candidate. -/
theorem State.crystalCycles_idle : ∀ (k : Nat) {s : State}, s.timebase.selector = .steady → s.timebase.active ≠ .crystal →
    State.crystalCycles k s = s
  | 0, _, _, _ => rfl
  | k + 1, s, hs, ha => by
    cases hrun : s.timebase.crystalRunning with
    | false => exact State.crystalCycles_stopped _ hrun
    | true =>
      rw [State.crystalCycles_succ k hs hrun, State.activeCycle_other (by simpa using ha)]
      exact State.crystalCycles_idle k hs ha

theorem State.mainsCrossing_steady (hs : s.timebase.selector = .steady) : s.mainsCrossing = s.activeCycle Source.isMains := by
  rw [State.mainsCrossing, Timebase.steady_mainsCycle hs]

/-- The cycles of a source that fall in one internal cycle. -/
def Source.cyclesAt (c : Source) (ticks : Nat) : Nat :=
  match c with
  | .internal => 1
  | .crystal => Config.crystalCycles ticks
  | .mains50 | .mains60 => if Config.mainsCrossing ticks = true then 1 else 0

theorem State.agedCrystal_cycled (hs : s.timebase.selector = .steady) (hl : s.crystalLaw) (hp : s.prescalerLaw) :
    s.ageTimebase.Cycled s.agedCrystal (if s.timebase.active.isMains then 0 else s.timebase.active.cyclesAt s.ticks) := by
  have haged : s.ageTimebase.timebase.selector = .steady := by rw [State.ageTimebase, hs]; rfl
  have htimed := State.activeCycle_cycled (s := s.ageTimebase) (· == .internal) haged hp
  by_cases ha : s.timebase.active = .crystal
  · rw [if_neg (by simp [State.ageTimebase, ha])] at htimed
    have hrun : s.timebase.crystalRunning = true := hl.mpr (Or.inl ha)
    have := htimed.trans (State.crystalCycles_cycled (Config.crystalCycles s.ticks) htimed.selector htimed.law
      (htimed.active.trans ha) (htimed.running.trans hrun))
    rw [Nat.zero_add] at this
    rw [ha]
    exact this
  · rw [State.agedCrystal, State.crystalCycles_idle _ htimed.selector (by rw [htimed.active]; exact ha)]
    have hcycles : (if s.timebase.active.isMains then 0 else s.timebase.active.cyclesAt s.ticks)
        = if s.timebase.active == .internal then 1 else 0 := by
      cases h : s.timebase.active <;> simp_all [Source.isMains, Source.cyclesAt]
    rw [hcycles]
    exact htimed

/-- R67: one internal cycle brings the prescaler each cycle of the active source that falls in it. -/
theorem State.tickTimebase_cycled (hs : s.timebase.selector = .steady) (hl : s.crystalLaw) (hp : s.prescalerLaw) :
    s.ageTimebase.Cycled s.tickTimebase (s.timebase.active.cyclesAt s.ticks) := by
  have hcrystal := State.agedCrystal_cycled hs hl hp
  have hactive : s.agedCrystal.timebase.active = s.timebase.active := hcrystal.active
  rw [State.tickTimebase_eq]
  cases hcross : Config.mainsCrossing s.ticks with
  | false =>
    rw [if_neg (by decide)]
    have hcycles : s.timebase.active.cyclesAt s.ticks
        = if s.timebase.active.isMains then 0 else s.timebase.active.cyclesAt s.ticks := by
      cases s.timebase.active <;> simp [Source.isMains, Source.cyclesAt, hcross]
    rw [hcycles]
    exact hcrystal
  | true =>
    rw [if_pos rfl, State.mainsCrossing_steady hcrystal.selector]
    have hcycles : s.timebase.active.cyclesAt s.ticks
        = (if s.timebase.active.isMains then 0 else s.timebase.active.cyclesAt s.ticks)
          + if s.timebase.active.isMains then 1 else 0 := by
      cases s.timebase.active <;> simp [Source.isMains, Source.cyclesAt, hcross]
    have hmains := State.activeCycle_cycled Source.isMains hcrystal.selector hcrystal.law
    rw [hactive] at hmains
    rw [hcycles]
    exact hcrystal.trans hmains

/-- An internal cycle where the internal oscillator is active and the selector is STEADY. -/
theorem State.tickTimebase_internal (ha : s.timebase.active = .internal) (hs : s.timebase.selector = .steady) :
    s.tickTimebase = s.ageTimebase.activeCycle (· == .internal) := by
  have haged : s.ageTimebase.timebase.selector = .steady := by rw [State.ageTimebase, hs]; rfl
  have htimed := State.activeCycle_notReady (s := s.ageTimebase) (p := (· == .internal)) (by rw [State.ageTimebase, ha]; rfl)
    (haged ▸ Selector.notReady_steady)
  have hactive : (s.ageTimebase.activeCycle (· == .internal)).timebase.active = .internal := by rw [htimed]; exact ha
  have hselector : (s.ageTimebase.activeCycle (· == .internal)).timebase.selector = .steady := by rw [htimed]; exact haged
  have hcrystal : s.agedCrystal = s.ageTimebase.activeCycle (· == .internal) :=
    State.crystalCycles_idle _ hselector (by rw [hactive]; decide)
  rw [State.tickTimebase_eq, hcrystal, State.mainsCrossing_steady hselector, State.activeCycle_other (by rw [hactive]; rfl), ite_self]

theorem State.tick_internal (hp : s.powered = true) (ha : s.timebase.active = .internal) (hs : s.timebase.selector = .steady) :
    s.tick.timebase.prescaler = (if s.timebase.prescaler + 1 < 32000 then s.timebase.prescaler + 1 else 0)
      ∧ s.tick.owed = { s.owed with seconds := s.owed.seconds + (if s.timebase.prescaler + 1 < 32000 then 0 else 1) } := by
  have hdivisor : s.ageTimebase.timebase.active.divisor = 32000 := by rw [State.ageTimebase, ha]; rfl
  have hcycle := State.activeCycle_notReady (s := s.ageTimebase) (p := (· == .internal)) (by rw [State.ageTimebase, ha]; rfl)
    (by rw [State.ageTimebase, hs]; exact Selector.notReady_steady)
  obtain ⟨htimebase, howed, -⟩ := State.tick_clock hp
  rw [htimebase, howed, State.tickTimebase_internal ha hs, hcycle, hdivisor]
  exact ⟨rfl, rfl⟩

end

/-! ### Second events raised -/

section
variable {s : State}

theorem State.raiseSecond_prescaler (s : State) : s.raiseSecond.timebase.prescaler = 0
    ∧ s.raiseSecond.owed = { s.owed with seconds := s.owed.seconds + 1 } := by
  unfold State.raiseSecond
  split <;> exact ⟨rfl, rfl⟩

/-- R74: a READY candidate becomes active. -/
theorem State.raiseSecond_switches {c : Source} {code quiet : Nat} (h : s.timebase.selector = .ready c code quiet) :
    s.raiseSecond.timebase.active = c ∧ s.raiseSecond.timebase.selector = .steady ∧ s.raiseSecond.crystalLaw
      ∧ s.raiseSecond.device = s.device ||| noticeClockSwitched := by
  rw [State.raiseSecond_ready s c code quiet h]
  exact ⟨rfl, rfl, Timebase.withOscillator_crystalRunning _, rfl⟩

theorem exec_clockSwitch (hp : s.powered = true) {c : Source} {code quiet : Nat} (h : s.timebase.selector = .ready c code quiet) :
    exec .clockSwitch s = .next s.raiseSecond := by
  refine congrArg Host.Outcome.next ?_
  rw [h]
  exact if_pos hp

/-! ### The empty queue -/

theorem step_idle (h : s.pending = []) : step s = idle s := by
  unfold step
  rw [h]

/-- On an empty queue one of the rows that wait is taken. -/
theorem idle_taken (h : s.waiting ≠ []) : ∃ i, i ∈ s.waiting ∧ idle s = exec i s.nextTick := by
  unfold idle
  cases hw : s.waiting with
  | nil => exact absurd hw h
  | cons i rest =>
    refine ⟨_, ?_, rfl⟩
    rw [List.getD_eq_getElem _ _ (by rw [List.length_cons]; exact Nat.mod_lt _ (Nat.succ_pos _))]
    exact List.getElem_mem _

theorem idle_tick (h : s.waiting = []) : idle s = .next s.tick.nextTick := by
  unfold idle
  rw [h]

theorem State.secondEvent_waits (hp : s.powered = true) (h : 0 < s.owed.seconds) : .secondEvent s.orderNow ∈ s.waiting := by
  have hmem : .secondEvent s.orderNow ∈ s.waitingSecond := by
    rw [State.waitingSecond, if_pos (by simp [hp, h])]
    exact List.mem_singleton.mpr rfl
  simp only [State.waiting, List.mem_append]
  exact Or.inl (Or.inl (Or.inl (Or.inl (Or.inl (Or.inr hmem)))))

end

/-- Settles O30: the prescaler, an internal cycle, the empty queue, and CLOCK_SWITCH. -/
theorem clockSwitchRow : Obligations.ClockSwitchRow := by
  refine ⟨⟨rfl, rfl, rfl, rfl⟩, fun s => ⟨s.prescale_below, fun h => ?_⟩, ?_, fun s hq =>
    ⟨fun hw => ?_, fun hp h => ⟨_, State.secondEvent_waits hp h⟩, fun hw hp ha hs => ?_⟩,
    fun s c code quiet hp h => ⟨_, exec_clockSwitch hp h, ?_⟩⟩
  · rw [State.prescale_at s h]
    refine ⟨s.raiseSecond_prescaler.1, s.raiseSecond_prescaler.2, fun hr => ?_, fun x code quiet hr => State.raiseSecond_switches hr,
      s.raiseSecond_frame⟩
    rw [State.raiseSecond_other s hr]
    exact ⟨rfl, rfl, rfl⟩
  · rintro s cycles hp hl hlaw hs rfl
    have h := State.tickTimebase_cycled hs hl hlaw
    obtain ⟨htimebase, howed, hdevice⟩ := State.tick_clock hp
    rw [htimebase, howed, hdevice]
    exact ⟨h.active, h.device, h.owed, h.prescaler, h.count, h.quiet, h.since⟩
  · rw [step_idle hq]
    exact idle_taken hw
  · obtain ⟨hprescaler, howed⟩ := State.tick_internal hp ha hs
    refine ⟨_, (step_idle hq).trans (idle_tick hw), ?_, ?_, fun h => ⟨hprescaler.trans (if_pos h), howed.trans ?_⟩,
      fun h => ⟨hprescaler.trans (if_neg (by omega)), howed.trans ?_⟩⟩
    · show s.tick.table = _
      rw [State.tick_frame]
    · show s.tick.calendar = _
      rw [State.tick_frame]
    · rw [if_pos h]
      rfl
    · rw [if_neg (by omega)]
  · obtain ⟨hactive, hselector, hlaw, hdevice⟩ := State.raiseSecond_switches h
    refine ⟨hactive, hselector, s.raiseSecond_prescaler.1, hlaw, ?_⟩
    rw [State.raiseSecond_ready s c code quiet h]

/-! ### The fault of the active source (R76) -/

/-- The position taken over is the count in whole internal cycles, rounded to one of the two next to it. -/
theorem takenPosition_near (count : Nat) {divisor : Nat} (hd : 0 < divisor) :
    count * 32000 < (takenPosition count divisor + 1) * divisor
      ∧ takenPosition count divisor * divisor < count * 32000 + divisor := by
  have hdiv := Nat.div_add_mod' (count * 32000) divisor
  have hmod := Nat.mod_lt (count * 32000) hd
  unfold takenPosition
  generalize count * 32000 / divisor = q at *
  split
  · simp only [Nat.add_mul, Nat.add_zero]
    omega
  · split
    · simp only [Nat.add_mul]
      omega
    · simp only [Nat.add_mul, Nat.add_zero]
      omega

section
variable {s : State}

theorem State.activeFault_waits (hp : s.powered = true) (ha : s.timebase.active ≠ .internal) : .activeSourceFault ∈ s.waiting ↔
    (if s.timebase.active = .crystal then 32 else 1920) ≤ s.timebase.quiet := by
  have hcandidate : Instr.activeSourceFault ∉ s.waitingCandidate := by
    unfold State.waitingCandidate
    split
    · exact List.not_mem_nil
    · repeat' split
      all_goals simp
    · split <;> simp
  rw [State.mem_waiting_iff (i := .activeSourceFault) rfl, State.waitingTimebase, if_pos hp]
  show _ ∈ s.waitingCandidate ++ _ ↔ _
  rw [List.mem_append, or_iff_right hcandidate, mem_ite_singleton, Bool.and_eq_true, decide_eq_true_eq, bne_iff_ne]
  cases h : s.timebase.active <;> simp_all [Source.watchLimit, cyclesPerMs]

theorem exec_activeSourceFault (hp : s.powered = true) (ha : s.timebase.active ≠ .internal) : exec .activeSourceFault s
    = .next (s.fallback (s.timebase.sincePrescaler + (s.timebase.active.watchLimit - s.timebase.quiet))) :=
  congrArg Host.Outcome.next (if_pos (by simp [hp, ha]))

theorem State.fallback_selector (elapsed : Nat) : (s.fallback elapsed).timebase.selector
    = if s.timebase.selector.candidate = some .internal then .steady else s.timebase.selector := rfl

/-- R76: the position reached is the count of the internal prescaler, with the whole seconds raised. -/
theorem State.fallback_position (elapsed : Nat) : s.owed.seconds ≤ (s.fallback elapsed).owed.seconds
    ∧ ((s.fallback elapsed).owed.seconds - s.owed.seconds) * 32000 + (s.fallback elapsed).timebase.prescaler
      = takenPosition s.timebase.prescaler s.timebase.active.divisor + elapsed
    ∧ (s.fallback elapsed).timebase.prescaler < 32000 := by
  have hseconds : (s.fallback elapsed).owed.seconds
      = s.owed.seconds + (takenPosition s.timebase.prescaler s.timebase.active.divisor + elapsed) / 32000 := rfl
  have hprescaler : (s.fallback elapsed).timebase.prescaler
      = (takenPosition s.timebase.prescaler s.timebase.active.divisor + elapsed) % 32000 := rfl
  rw [hseconds, hprescaler]
  omega

end

/-- Settles O31: the watch, and the fallback to INTERNAL. -/
theorem activeSourceFaultRow : Obligations.ActiveSourceFaultRow := by
  refine fun s hp ha => ⟨State.activeFault_waits hp ha, _, exec_activeSourceFault hp ha, rfl, rfl,
    Timebase.withOscillator_crystalRunning _, fun h => State.fallback_selector _ ▸ if_neg h,
    fun h => State.fallback_selector _ ▸ if_pos h, ?_, ?_, rfl⟩
  · obtain ⟨hle, hposition, -⟩ := State.fallback_position (s := s)
      (s.timebase.sincePrescaler + (s.timebase.active.watchLimit - s.timebase.quiet))
    obtain ⟨hlow, hhigh⟩ := takenPosition_near s.timebase.prescaler s.timebase.active.divisor_pos
    exact ⟨_, hlow, hhigh, hle, hposition⟩
  · exact (State.fallback_position _).2.2

end Sys2Proof.Machine
end

section
/-! ## Arrivals at one entry: permit transitions, triggers on their way, ends of counts and pulse edges -/
namespace Sys2Proof.Machine

/-- A group handed on changes the walks and the follow events alone. -/
theorem State.handsOn.frame {s t : State} {g : FollowGroup} (h : s.handsOn t g) :
    t.owed = { s.owed with walks := t.owed.walks, follows := t.owed.follows } := by
  by_cases hg : g.events = []
  · rw [h.1 hg]
  · rw [h.2 hg]

/-! ### The zones (R120) -/

theorem ZoneEffect.apply_of_unowned {x : ZoneEffect} {rest : Nat} {z : Zone} (h : x = .keep ∨ z.owner = none) :
    x.apply rest z = z := by
  rcases h with rfl | h
  · rfl
  · cases z with
    | ownedOn n | ownedOff n r => cases h
    | free | resting r | manualOn | manualOff r => cases x <;> rfl

/-! ### Permit transitions (R106 to R108, R133) -/

/-- The state in which a permit transition has left its queue. -/
def State.withoutTransition (s : State) (x : PermitTransition) : State :=
  { s with owed := { s.owed with transitions := s.owed.transitions.erase x } }

section
variable {s : State} {n : EntryIx} {e : Entry} {x : PermitTransition}

theorem State.takeTransition_taken (hx : s.owed.transitions.find? (fun y => y.entry == n) = some x) :
    s.takeTransition n x.value
      = ((s.withoutTransition x).applyAt n (Entry.permitTransition (s.withoutTransition x).view x.value)).asOne := by
  unfold State.takeTransition
  simp only [hx, if_true]
  rfl

theorem exec_permit : exec (if x.value then .permitTrue n else .permitFalse n) s = .next (s.takeTransition n x.value) := by
  cases x.value <;> rfl

theorem State.takeTransition_moved (hx : s.owed.transitions.find? (fun y => y.entry == n) = some x) (he : s.table[n] = some e)
    {value : Bool} (hv : x.value = value) {y : Effect} (hy : e.permitTransition s.view value = y) :
    (s.withoutTransition x).Moved (s.takeTransition n x.value) n y := by
  rw [State.takeTransition_taken hx, ← hy, ← hv]
  exact State.applyAt_moved (s := s.withoutTransition x) _ he

end

section
variable {s t : State} {n : EntryIx} {e : Entry} {x : PermitTransition} {y : Effect}

/-- Handing on leaves the permit transitions alone. -/
theorem State.handsOn.of_transitions {g : FollowGroup} (h : (s.withoutTransition x).handsOn t g) :
    s.handsOn { t with owed := { t.owed with transitions := s.owed.transitions } } g := by
  refine ⟨fun hg => ?_, fun hg => ?_⟩
  · show { t.owed with transitions := s.owed.transitions } = _
    rw [h.1 hg]
    rfl
  · show { t.owed with transitions := s.owed.transitions } = _
    rw [h.2 hg]
    rfl

theorem State.Moved.transition_entry (h : (s.withoutTransition x).Moved t n y) (hy : y.ended = none) :
    t.table[n] = some y.entry ∧ s.zonesMoved t y.entry.defn.claim y.zones
      ∧ t.owed.walks = s.owed.walks + (if y.causesWalk then 1 else 0) ∧ t.owed.follows = s.owed.follows := by
  refine ⟨h.slot, h.zones, ?_, ?_⟩ <;> rw [h.owed_eq hy] <;> rfl

end

/-- Settles O43: each effect of a permit transition. -/
theorem permitRows : Obligations.PermitRows := by
  refine ⟨fun rest n => ⟨rfl, fun _ => rfl, rfl, fun _ => rfl, rfl, rfl, fun _ => rfl, rfl⟩,
    fun _ _ _ => ZoneEffect.apply_of_unowned, fun s n e x he hx => ?_⟩
  have hframe := State.takeTransition_moved hx he rfl rfl
  have howed := hframe.owed.frame
  refine ⟨_, exec_permit, fun r hv hr hd hm => ?gate, fun r hv hr hd hm => ?abort, fun r hv hr => ?resume, fun w hv hw => ?due,
    fun h => ?idle, ?_, ?_, hframe.others, (s.takeTransition_arrivalFrame n x.value).of_turn hframe.turn⟩
  case gate =>
    exact (State.takeTransition_moved hx he hv (Entry.permitTransition_gate hr hd hm)).transition_entry rfl
  case abort =>
    have h := State.takeTransition_moved hx he hv (Entry.permitTransition_abort hr hd hm)
    have hzones := h.zones
    rw [Entry.resolve_defn, Entry.resolve, Entry.settle_zones, hr] at hzones
    have hgroup : (s.withoutTransition x).effectGroup n (e.resolve s.view .aborted)
        = s.endGroup n e .aborted (e.defn.nextPhase .aborted) := State.effectGroup_settle (s := s.withoutTransition x) n
    have hsettled := Entry.settled_of_end (e := e) (o := .aborted) rfl (e.defn.nextPhase .aborted)
    refine ⟨hzones, ?_, _, h.slot, Entry.settle_lastOutcome _ _ _ _, ?_, ?_⟩
    · exact (hgroup ▸ h.owed).of_transitions
    · rw [Entry.resolve, Entry.settle_entry, Entry.recheck_pending, hsettled]
    · by_cases h' : e.defn.nextPhase .aborted = .armed ∧ s.levelHolds e.defn
      · exact Or.inr ⟨h'.1, h'.2, congrArg Entry.phase (Entry.settle_taken (e := e) h'.1 h'.2).1⟩
      · exact Or.inl (congrArg Entry.phase (Entry.settle_passed (e := e) h').1)
  case resume => exact (State.takeTransition_moved hx he hv (Entry.permitTransition_resume hr)).transition_entry rfl
  case due => exact (State.takeTransition_moved hx he hv (Entry.permitTransition_due hw)).transition_entry rfl
  case idle =>
    exact (State.takeTransition_moved hx he rfl (Entry.permitTransition_idle h)).transition_entry rfl
  · rw [howed]; rfl
  · rw [howed]; rfl

/-! ### Triggers on their way (R90, R112 to R114) -/

theorem Entry.trigger_walk_of_not_armed {v : View} {levels : Levels} {snapshot : Option Levels} {e : Entry} (h : e.phase ≠ .armed) :
    (e.trigger v levels snapshot).walk = false := by
  unfold Entry.trigger
  split
  · split
    · exact absurd ‹_› h
    · rfl
    · rfl
    · split <;> rfl
    · split <;> rfl
    · rfl
    · rfl
  · rfl

section
variable {s : State} {n : EntryIx} {e : Entry}

/-- R90, R91: at an entry that owns its zones a LEVEL pattern trigger is dropped; any other is a trigger. -/
theorem Entry.patternTrigger_level {v : View} {levels : Levels} (hl : v.live = true) (hk : e.defn.kind = .pattern)
    (hs : e.defn.pattern.sense = .level) (ho : e.phase.ownsZones = true) :
    e.patternTrigger v levels = Effect.only { e with pending := e.noted .overlap } := by
  have hlevel : e.defn.isLevel = true := (Definition.isLevel_iff _).mpr ⟨hk, hs⟩
  rw [Entry.patternTrigger, if_pos (by rw [hk]; rfl), if_pos (by rw [hl, hlevel, ho]; rfl)]
  rfl

theorem Entry.patternTrigger_eq {v : View} {levels : Levels} (hk : e.defn.kind = .pattern)
    (h : e.defn.pattern.sense = .edge ∨ e.phase.ownsZones = false) :
    e.patternTrigger v levels = e.trigger v levels (some levels) := by
  rw [Entry.patternTrigger, if_pos (by rw [hk]; rfl), if_neg]
  rintro h'
  rw [Bool.and_eq_true, Bool.and_eq_true, Definition.isLevel_iff] at h'
  obtain ⟨⟨-, -, hlevel⟩, howns⟩ := h'
  rcases h with h | h
  · rw [h] at hlevel; cases hlevel
  · rw [h] at howns; cases howns

theorem Entry.patternTrigger_walk_of_not_armed {v : View} {levels : Levels} (h : e.phase ≠ .armed) :
    (e.patternTrigger v levels).walk = false := by
  unfold Entry.patternTrigger
  split
  · split
    · rfl
    · exact Entry.trigger_walk_of_not_armed h
  · rfl

/-- The state in which a pattern trigger has left its queue. -/
def State.withoutTrigger (s : State) (x : PatternTrigger) : State :=
  { s with owed := { s.owed with triggers := s.owed.triggers.erase x } }

theorem exec_patternTrigger {x : PatternTrigger} (hx : s.owed.triggers.find? (fun y => y.entry == n) = some x) :
    exec (.patternTrigger n) s
      = .next ((s.withoutTrigger x).applyAt n (Entry.patternTrigger s.view x.levels)).asOne := by
  refine congrArg Host.Outcome.next ?_
  rw [hx]
  rfl

/-- A trigger that a follow event makes walks exactly where it makes the follower DUE. -/
theorem Entry.trigger_walk (hl : s.isLive = true) : (e.trigger s.view s.levels none).walk = true ↔
    e.phase = .armed ∧ e.defn.permitHolds s.levels = true := by
  by_cases hp : e.phase = .armed
  · cases hpermit : e.defn.permitHolds s.levels with
    | true => rw [Entry.trigger_due hl hp hpermit]; simp [hp]
    | false => rw [Entry.trigger_blocked hl hp hpermit]; simp [Effect.only]
  · rw [Entry.trigger_walk_of_not_armed hp]
    simp [hp]

theorem Entry.followEvent_eq {v : View} (hk : e.defn.kind = .follow) : e.followEvent v = e.trigger v v.levels none :=
  if_pos (by rw [hk]; rfl)

theorem exec_followEvent {source : EntryIx} (h : s.linkOnItsWay { source := source, follower := n } = true) :
    exec (.followEvent source n) s = .next (s.deliverLink { source := source, follower := n }) :=
  congrArg Host.Outcome.next (if_pos h)

theorem State.takeLink_owed_congr {u : State} {l : FollowLink} {walk : Bool} (h : u.owed = s.owed) :
    (u.takeLink l walk).owed = (s.takeLink l walk).owed := by
  unfold State.takeLink
  rw [h]
  split <;> rfl

/-- A follow event leaves its group with the walk that it causes (R113). -/
theorem State.deliverLink_owed {l : FollowLink} {due : Bool} (he : s.table[l.follower] = some e) (hl : s.isLive = true)
    (hk : e.defn.kind = .follow) (hdue : due = true ↔ e.phase = .armed ∧ e.defn.permitHolds s.levels = true) :
    (s.deliverLink l).owed = (s.takeLink l due).owed := by
  have hwalk : ((s.applyAt l.follower (Entry.followEvent s.view)).groups.any fun g => g.walk) = due := by
    have hgroup : (s.effectGroup l.follower (e.followEvent s.view)).walk = due := by
      rw [State.effectGroup, Effect.causesWalk, Entry.followEvent_zones, Entry.followEvent_eq hk, Bool.eq_iff_iff, hdue,
        ← Entry.trigger_walk hl]
      simp [State.view]
    have hevents : (s.effectGroup l.follower (e.followEvent s.view)).events = [] := by
      rw [State.effectGroup, Entry.followEvent_ended]
    rw [s.applyAt_groups _ _ e he, List.filter_cons, List.filter_nil, hgroup, hevents]
    cases due <;> simp [hgroup]
  unfold State.deliverLink
  simp only [hwalk]
  exact State.takeLink_owed_congr (s.applyAt_state_owed _ _)

theorem List.erase_eq_nil_iff_singleton {α : Type} [DecidableEq α] {xs : List α} {l : α} (h : l ∈ xs) :
    xs.erase l = [] ↔ xs = [l] := by
  rw [← List.length_eq_zero_iff, List.length_erase_of_mem h]
  constructor
  · intro hlen
    obtain ⟨a, rfl⟩ := List.length_eq_one_iff.mp (by have := List.length_pos_of_mem h; omega : xs.length = 1)
    rw [List.mem_singleton.mp h]
  · rintro rfl; rfl

/-- The follow events of the second event under way come first. -/
theorem State.takeLink_underway {l : FollowLink} {due : Bool} (h : l ∈ s.owed.underway.group.events) : (s.takeLink l due).owed
    = { s.owed with underway := s.owed.underway.take l due } := by
  unfold State.takeLink
  rw [if_pos (List.contains_iff_mem.mpr h)]

theorem State.takeLink_follows {l : FollowLink} {due : Bool} (h : l ∉ s.owed.underway.group.events) {before after : List FollowGroup}
    {g : FollowGroup} (hsplit : s.owed.follows = before ++ g :: after) (hbefore : ∀ x, x ∈ before → l ∉ x.events) (hg : l ∈ g.events) :
    (g.events = [l] → (s.takeLink l due).owed = { s.owed with
      follows := before ++ after, walks := s.owed.walks + if g.walk || due then 1 else 0 })
    ∧ (g.events ≠ [l] → (s.takeLink l due).owed = { s.owed with
      follows := before ++ { walk := g.walk || due, events := g.events.erase l } :: after }) := by
  have hfirst := takeFollow_first l due g after hg before hbefore
  unfold State.takeLink
  rw [if_neg (by simpa using h), hsplit, hfirst]
  refine ⟨fun h' => ?_, fun h' => ?_⟩
  · rw [if_pos ((List.erase_eq_nil_iff_singleton hg).mpr h')]
  · rw [if_neg fun h'' => h' ((List.erase_eq_nil_iff_singleton hg).mp h'')]
    rfl

/-- R114: after the follow events of entries that follow themselves none of them is on its way. -/
theorem State.mem_settleSelf_links (l : FollowLink) : l ∈ s.settleSelf.links ↔ l ∈ s.links ∧ l.source ≠ l.follower := by
  rw [State.settleSelf, State.deliverLinks_links]
  by_cases h : l.source = l.follower
  · refine iff_of_false ?_ fun h' => h'.2 h
    rw [← List.count_pos_iff, List.count_diff, List.count_filter (by simpa using h)]
    omega
  · have hnot : l ∉ s.links.filter fun l => l.source == l.follower := by simp [h]
    refine ⟨fun h' => ⟨(List.diff_subset _ _) h', h⟩, fun h' => List.mem_diff_of_mem h'.1 hnot⟩

end

/-- Settles O42: the follow events of an entry itself, a pattern trigger, and a follow event. -/
theorem triggerArrivalRows : Obligations.TriggerArrivalRows := by
  refine ⟨fun s => ⟨s.settleSelf_of_noSelfLink, State.mem_settleSelf_links, fun n hlinks => ?_, s.settleSelf_frame⟩,
    fun s n e hl he => ⟨fun x hx hk => ?_, fun source hlink hk => ?_⟩⟩
  · rw [exec_followEvent (by rw [State.linkOnItsWay, hlinks]; simp), State.settleSelf, hlinks]
    simp [State.deliverLinks]
  · have hm := State.applyAt_moved (s := s.withoutTrigger x) (Entry.patternTrigger s.view x.levels) he
    have hframe := (s.withoutTrigger x).applyAt_asOne_arrivalFrame n (Entry.patternTrigger s.view x.levels)
    have howed := hm.owed_of_keep (Entry.patternTrigger_ended _ _ _) (Entry.patternTrigger_zones _ _ _)
    refine ⟨_, exec_patternTrigger hx, fun h => ?_, fun hs ho => ?_, fun hp hpermit => ?_, fun hp => ?_, ?_, hm.others,
      hframe.of_turn_zones hm.turn (hm.zones_eq (Entry.patternTrigger_zones _ _ _))⟩
    · rw [hm.slot, Entry.patternTrigger_eq hk h]
    · rw [hm.slot, Entry.patternTrigger_level hl hk hs ho]
      rfl
    · have heffect := (Entry.patternTrigger_eq (v := s.view) (levels := x.levels) hk (Or.inr (by rw [hp]; rfl))).trans
        (Entry.trigger_due hl hp hpermit)
      rw [hm.slot, howed, heffect]
      exact ⟨rfl, rfl⟩
    · rw [howed, if_neg (by rw [Entry.patternTrigger_walk_of_not_armed hp]; decide)]
      rfl
    · rw [howed]
      rfl
  · have hslot := s.deliverLink_table_same { source := source, follower := n }
    have heffect : e.followEvent s.view = e.trigger s.view s.levels none := Entry.followEvent_eq hk
    rw [he, Option.map_some, heffect] at hslot
    refine ⟨_, exec_followEvent hlink, ?_, fun hp hpermit => ?_, s.deliverLink_links _, fun l due hlink hdue => ?_,
      fun m hm => s.deliverLink_table_other _ m hm, s.deliverLink_frame _⟩
    · exact hslot
    · rw [hslot, Entry.trigger_due hl hp hpermit]
      rfl
    · rw [← hlink, State.deliverLink_owed (by rw [hlink]; exact he) hl hk hdue]
      refine ⟨fun h => ?_, fun h before g after hsplit hbefore hg => State.takeLink_follows h hsplit hbefore hg⟩
      rw [State.takeLink_underway h, Underway.take, hlink]

end Sys2Proof.Machine
end

section
/-! ## The ends of counts, and pulse edges (R103 to R105, R112, R135) -/
namespace Sys2Proof.Machine

/-! ### What a resolution leaves of its entry -/

/-- `e'` is what a resolution of `e` with outcome `o` leaves: its notice, its next state, and the LEVEL re-check of one that enters ARMED. -/
structure Entry.Resolved (s : State) (e : Entry) (o : EntryOutcome) (e' : Entry) : Prop where
  defn : e'.defn = e.defn
  lastOutcome : e'.lastOutcome = some o
  lastStart : e'.lastStart = e.lastStart
  pending : e'.pending = e.noted (if o = .skipped then .skip else .ending)
  phase : e'.phase = e.defn.nextPhase o ∨ (e.defn.nextPhase o = .armed ∧ s.levelHolds e.defn ∧ e'.phase = .due freshWait)

theorem Entry.resolve_resolved (s : State) (e : Entry) {o : EntryOutcome} (h : o = .skipped ∨ o.isEnd = true) :
    Entry.Resolved s e o (e.resolve s.view o).entry where
  defn := Entry.resolve_defn _ _ _
  lastOutcome := Entry.settle_lastOutcome _ _ _ _
  lastStart := by
    rw [Entry.resolve, Entry.settle_entry, Entry.recheck_lastStart]
    cases o <;> rfl
  pending := by
    rw [Entry.resolve, Entry.settle_entry, Entry.recheck_pending]
    rcases h with rfl | h
    · rfl
    · rw [Entry.settled_of_end h, if_neg (by rintro rfl; cases h)]
  phase := by
    by_cases h' : e.defn.nextPhase o = .armed ∧ s.levelHolds e.defn
    · exact Or.inr ⟨h'.1, h'.2, congrArg Entry.phase (Entry.settle_taken h'.1 h'.2).1⟩
    · exact Or.inl (congrArg Entry.phase (Entry.settle_passed h').1)

theorem Entry.resolve_zones (v : View) (o : EntryOutcome) (e : Entry) :
    (e.resolve v o).zones = if e.phase.ownsZones then .release else .keep := Entry.settle_zones _ _ _ _

/-- The outcomes of a count are ends of runs, and SKIPPED. -/
theorem Entry.secondEnds_outcome {e : Entry} {o : EntryOutcome} (h : e.secondEnds = some o) : o = .skipped ∨ o.isEnd = true := by
  unfold Entry.secondEnds at h
  split at h
  · split at h
    · split at h <;> cases h
      · exact Or.inr rfl
      · exact Or.inl rfl
    · cases h
  · split at h
    · cases h
      exact Or.inr rfl
    · split at h <;> cases h
      exact Or.inr rfl
  · split at h <;> cases h
    exact Or.inr rfl
  all_goals cases h

theorem Entry.count_ends {e : Entry} {o : EntryOutcome} {v : View} (h : e.secondEnds = some o) : e.count v = e.resolve v o := by
  rw [Entry.count, h]

/-! ### Follow links (R112) -/

theorem Entry.follows_iff {e : Entry} {n : EntryIx} {o : EntryOutcome} : e.follows n o = true ↔
    e.defn.kind = .follow ∧ e.defn.source = n ∧ (e.defn.followOn = .completedOnly → o = .completed)
      ∧ (e.defn.followOn = .anyEnd → o = .completed ∨ o = .aborted ∨ o = .capped ∨ o = .stopped) := by
  have hend : o.isEnd = true ↔ o = .completed ∨ o = .aborted ∨ o = .capped ∨ o = .stopped := by
    cases o <;> simp [EntryOutcome.isEnd]
  unfold Entry.follows
  cases e.defn.followOn <;> simp [hend, and_assoc]

theorem State.mem_followLinks {s : State} {n : EntryIx} {o : EntryOutcome} {l : FollowLink} : l ∈ s.followLinks n o ↔
    l.source = n ∧ ∃ e, s.table[l.follower] = some e ∧ e.defn.kind = .follow ∧ e.defn.source = n
      ∧ (e.defn.followOn = .completedOnly → o = .completed)
      ∧ (e.defn.followOn = .anyEnd → o = .completed ∨ o = .aborted ∨ o = .capped ∨ o = .stopped) := by
  have hslot (m : EntryIx) : slotFollows s.table[m] n o = true ↔ ∃ e, s.table[m] = some e ∧ e.follows n o = true := by
    cases h : s.table[m] <;> simp [slotFollows]
  simp only [State.followLinks, List.mem_map, List.mem_filter, List.mem_finRange, true_and, hslot, Entry.follows_iff]
  constructor
  · rintro ⟨m, h, rfl⟩
    exact ⟨rfl, h⟩
  · rintro ⟨rfl, h⟩
    exact ⟨l.follower, h, rfl⟩

/-! ### A count reached early -/

section
variable {s : State} {n : EntryIx} {e : Entry} {o : EntryOutcome}

theorem State.endingAt_eq (ht : s.takesArrivals = true) (he : s.table[n] = some e) :
    s.endingAt n = if s.uncounted n then e.secondEnds else none := by
  rw [State.endingAt, ht, Bool.true_and, he]
  rfl

theorem exec_runCompleted_count (h : s.endingAt n = some .completed) : exec (.runCompleted n) s = .next (s.reachCount n) :=
  congrArg Host.Outcome.next (if_pos h)

theorem exec_capped_count (h : s.endingAt n = some .capped) : exec (.capped n) s = .next (s.reachCount n) :=
  congrArg Host.Outcome.next (if_pos h)

theorem exec_waitLimitExpiry_count (h : (s.endingAt n).isSome = true) (hd : slotDue s.table[n] = true) :
    exec (.waitLimitExpiry n) s = .next (s.reachCount n) :=
  congrArg Host.Outcome.next (if_pos (by rw [hd, h]; rfl))

theorem exec_runCompleted_pulse {i : Nat} (h : s.endingAt n ≠ some .completed) (ht : s.takesArrivals = true)
    (hi : s.endingPulse n = some i) : exec (.runCompleted n) s = .next (s.reachPulse n i) := by
  refine congrArg Host.Outcome.next ?_
  rw [if_neg h, if_pos ht, hi]

/-- The walks and the follow events of one arrival at an entry are those of its effect. -/
theorem State.applyAt_groups_collect (f : Entry → Effect) (he : s.table[n] = some e) :
    ((s.applyAt n f).groups.any fun g => g.walk) = (s.effectGroup n (f e)).walk
      ∧ ((s.applyAt n f).groups.flatMap fun g => g.events) = (s.effectGroup n (f e)).events := by
  rw [s.applyAt_groups n f e he]
  generalize s.effectGroup n (f e) = g
  obtain ⟨walk, events⟩ := g
  cases walk <;> cases events <;> simp

/-- The second event under way reaches one count early. -/
theorem State.reachCount_owed (he : s.table[n] = some e) (ho : e.secondEnds = some o) : (s.reachCount n).owed = { s.owed with
    underway := {
      entries := s.owed.underway.entries ||| entryBit n
      zones := s.owed.underway.zones ||| startedRests s.zones (s.reachCount n).zones
      group := {
        walk := s.owed.underway.group.walk || (s.endGroup n e o (e.defn.nextPhase o)).walk
        events := s.owed.underway.group.events ++ (s.endGroup n e o (e.defn.nextPhase o)).events } } } := by
  obtain ⟨hwalk, hevents⟩ := State.applyAt_groups_collect (Entry.count s.view) he
  have hgroup : s.effectGroup n (e.count s.view) = s.endGroup n e o (e.defn.nextPhase o) := by
    rw [Entry.count_ends ho]
    exact State.effectGroup_settle n
  rw [hgroup] at hwalk hevents
  unfold State.reachCount Arrival.underway
  simp only [hwalk, hevents, State.applyAt_state_owed]

theorem startedRests_bit (before after : Vector Zone 16) (z : ZoneIx) :
    (startedRests before after).getLsbD z.val = (before[z].rest.isNone && after[z].rest.isSome) := by
  rw [startedRests, getLsbD_bitsOf, decide_eq_true z.isLt, Bool.true_and, dif_pos z.isLt]
  rfl

/-- What is kept for the second event under way is what the arrival itself leaves. -/
theorem Arrival.underway_kept (a : Arrival) (entries : EntrySet) (zones : ZoneSet) :
    (a.underway entries zones).table = a.asOne.table ∧ (a.underway entries zones).zones = a.asOne.zones
      ∧ (a.underway entries zones).turn = a.asOne.turn := by
  rw [Arrival.asOne_table, Arrival.asOne_zones, Arrival.asOne_turn]
  exact ⟨rfl, rfl, rfl⟩

theorem State.reachCount_eq : s.reachCount n = (s.applyAt n (Entry.count s.view)).underway (entryBit n)
    (startedRests s.zones (s.applyAt n (Entry.count s.view)).state.zones) := rfl

/-- What a count reached early leaves of the entries and the zones. -/
theorem State.reachCount_slot (he : s.table[n] = some e) (ho : e.secondEnds = some o) :
    (s.reachCount n).table[n] = some (e.resolve s.view o).entry
      ∧ s.zonesMoved (s.reachCount n) e.defn.claim (if e.phase.ownsZones then .release else .keep)
      ∧ s.otherSlotsKept (s.reachCount n) n ∧ (s.reachCount n).turn = s.turn := by
  have hm := State.applyAt_moved (Entry.count s.view) he
  obtain ⟨htable, hzones, hturn⟩ := Arrival.underway_kept (s.applyAt n (Entry.count s.view)) (entryBit n)
    (startedRests s.zones (s.applyAt n (Entry.count s.view)).state.zones)
  rw [← State.reachCount_eq] at htable hzones hturn
  refine ⟨?_, fun z => ?_, fun m hne => ?_, hturn.trans hm.turn⟩
  · rw [htable, hm.slot, Entry.count_ends ho]
  · have := hm.zones z
    rw [Entry.count_ends ho, Entry.resolve_defn, Entry.resolve_zones] at this
    rw [hzones]
    exact this
  · rw [htable]
    exact hm.others m hne

end

/-! ### Pulse edges at one entry (R103) -/

section
variable {s : State} {n : EntryIx} {e : Entry} {r : RunState} {v : View} {k : SensorIx}

theorem Entry.pulse_running (hp : e.phase = .running r) (hu : e.defn.unit = .pulses) (hk : e.defn.pulseSource = k) :
    e.pulse v k = if r.counter ≤ 1 then e.resolve v .completed
      else Effect.only { e with phase := .running { r with counter := r.counter - 1 } } := by
  unfold Entry.pulse
  rw [hp]
  exact if_pos (by rw [hu, hk]; simp)

theorem Entry.pulse_other (h : ∀ r, e.phase = .running r → e.defn.unit = .pulses → e.defn.pulseSource ≠ k) :
    e.pulse v k = Effect.only e := by
  unfold Entry.pulse
  split
  · next r hp =>
    refine if_neg fun h' => ?_
    rw [Bool.and_eq_true, beq_iff_eq, beq_iff_eq] at h'
    exact h r hp h'.1 h'.2
  all_goals rfl

theorem slotPulseEnds_iff : slotPulseEnds (some e) k = true ↔
    ∃ r, e.phase = .running r ∧ e.defn.unit = .pulses ∧ e.defn.pulseSource = k ∧ r.counter ≤ 1 := by
  obtain ⟨_, phase, _, _, _, _, _, _⟩ := e
  cases phase <;> simp [slotPulseEnds, and_assoc]

/-- The first pulse edge on its way that ends the run. -/
theorem State.endingPulse_spec (he : s.table[n] = some e) {p : PulseEdge} (hp : p ∈ s.owed.pulses)
    (hreached : p.reached.getLsbD n.val = false) (hends : slotPulseEnds (some e) p.sensor = true) :
    ∃ i q, s.endingPulse n = some i ∧ s.owed.pulses[i]? = some q ∧ slotPulseEnds (some e) q.sensor = true := by
  cases hi : s.endingPulse n with
  | none =>
    rw [State.endingPulse, List.findIdx?_eq_none_iff, he] at hi
    have := hi p hp
    rw [hreached, hends] at this
    cases this
  | some i =>
    rw [State.endingPulse, List.findIdx?_eq_some_iff_getElem, he] at hi
    obtain ⟨hlt, hq, -⟩ := hi
    exact ⟨i, _, rfl, List.getElem?_eq_getElem hlt, (Bool.and_eq_true _ _ ▸ hq).2⟩

/-- The state in which a pulse edge has reached entry `n`. -/
def State.pulseReached (s : State) (n : EntryIx) (i : Nat) : State :=
  { s with owed := { s.owed with pulses := markReached n i s.owed.pulses } }

theorem State.reachPulse_moved (he : s.table[n] = some e) {i : Nat} {q : PulseEdge} (hi : s.owed.pulses[i]? = some q)
    (hends : slotPulseEnds (some e) q.sensor = true) :
    (s.pulseReached n i).Moved (s.reachPulse n i) n (e.resolve s.view .completed) := by
  obtain ⟨r, hp, hu, hk, hr⟩ := slotPulseEnds_iff.mp hends
  have heffect : e.pulse s.view q.sensor = e.resolve s.view .completed := (Entry.pulse_running hp hu hk).trans (if_pos hr)
  rw [← heffect, State.reachPulse, hi]
  exact State.applyAt_moved (s := s.pulseReached n i) (Entry.pulse s.view q.sensor) he

/-- Handing on leaves the pulse edges alone. -/
theorem State.handsOn.of_pulses {t : State} {i : Nat} {g : FollowGroup} (h : (s.pulseReached n i).handsOn t g) :
    s.handsOn { t with owed := { t.owed with pulses := s.owed.pulses } } g := by
  refine ⟨fun hg => ?_, fun hg => ?_⟩
  · show { t.owed with pulses := s.owed.pulses } = _
    rw [h.1 hg]
    rfl
  · show { t.owed with pulses := s.owed.pulses } = _
    rw [h.2 hg]
    rfl

end

theorem slotDue_of_active {e : Entry} (ha : e.phase.isActive = true) (ho : e.phase.ownsZones = false) : slotDue (some e) = true := by
  cases hp : e.phase with
  | due w => rw [slotDue, hp]; rfl
  | running r | paused r => rw [hp] at ho; cases ho
  | armed | held | confirming | spent => rw [hp] at ha; cases ha

/-- Settles O39: a count reached early by the second event under way, and the last pulse on its way. -/
theorem countEndRows : Obligations.CountEndRows := by
  refine ⟨fun _ _ _ _ => State.mem_followLinks, fun s n e c o g ht he hg h => ?_⟩
  rcases h with ⟨hu, ho, hc⟩ | ⟨rfl, rfl, hnot, r, p, hr, hcounter, hunit, hp, hsensor, hreached⟩
  · have hending : s.endingAt n = some o := by rw [State.endingAt_eq ht he, if_pos hu, ho]
    have hexec : exec c s = .next (s.reachCount n) := by
      rcases hc with ⟨rfl, rfl⟩ | ⟨rfl, rfl⟩ | ⟨rfl, ha, howns⟩
      · exact exec_runCompleted_count hending
      · exact exec_capped_count hending
      · exact exec_waitLimitExpiry_count (by rw [hending]; rfl) (by rw [he]; exact slotDue_of_active ha howns)
    obtain ⟨hslot, hzones, hothers, hturn⟩ := State.reachCount_slot he ho
    obtain ⟨hdefn, houtcome, hstart, hpending, hphase⟩ := Entry.resolve_resolved s e (Entry.secondEnds_outcome ho)
    refine ⟨_, _, hexec, hslot, hdefn, houtcome, hstart, hphase, hpending, hzones, hothers, fun _ _ => ⟨?_, fun z => ?_⟩,
      fun hne => absurd ho hne, (s.reachCount_arrivalFrame n).of_turn hturn⟩
    · rw [State.reachCount_owed he ho, hg]
    · rw [State.reachCount_owed he ho, BitVec.getLsbD_or, startedRests_bit]
  · have hnone : s.endingAt n ≠ some .completed := by
      rw [State.endingAt_eq ht he]
      split
      · exact hnot
      · exact nofun
    obtain ⟨i, q, hi, hq, hends⟩ := State.endingPulse_spec he hp hreached
      (slotPulseEnds_iff.mpr ⟨r, hr, hunit, hsensor.symm, by omega⟩)
    have hm := State.reachPulse_moved he hq hends
    have hzones := hm.zones
    rw [Entry.resolve_defn, Entry.resolve_zones] at hzones
    have hgroup : (s.pulseReached n i).effectGroup n (e.resolve s.view .completed) = g :=
      (State.effectGroup_settle (s := s.pulseReached n i) n).trans hg.symm
    obtain ⟨hdefn, houtcome, hstart, hpending, hphase⟩ := Entry.resolve_resolved s e (o := .completed) (Or.inr rfl)
    refine ⟨_, _, exec_runCompleted_pulse hnone ht hi, hm.slot, hdefn, houtcome, hstart, hphase, hpending, hzones, hm.others,
      fun h => absurd h hnot, fun _ => ⟨(hgroup ▸ hm.owed).of_pulses, i, hi, ?_⟩, (s.reachPulse_arrivalFrame n i).of_turn hm.turn⟩
    rw [hm.owed.frame]
    rfl

/-! ### One arrival at every entry, each with its own walk (R103) -/

section
variable {s : State} {f : EntryIx → Entry → Effect}

/-- A zone is moved by the effect at an entry that claims it, or by none. -/
theorem State.apply_zones_cases (s : State) (f : EntryIx → Entry → Effect) (z : ZoneIx) :
    (∃ (n : EntryIx) (e : Entry), s.table[n] = some e ∧ (f n e).zones ≠ .keep ∧ (f n e).entry.defn.claim.getLsbD z.val = true
      ∧ (s.apply f).state.zones[z] = (f n e).zones.apply (s.restTime z) s.zones[z])
    ∨ ((∀ (n : EntryIx) (e : Entry), s.table[n] = some e → (f n e).entry.defn.claim.getLsbD z.val = true → (f n e).zones = .keep)
      ∧ (s.apply f).state.zones[z] = s.zones[z]) := by
  rw [State.apply_zones]
  unfold zoneEffectOf
  split
  · next x hx =>
    have hclaim := List.find?_some hx
    have hmem := List.mem_of_find?_eq_some hx
    simp only [List.mem_map, List.mem_filter, List.mem_filterMap, List.mem_finRange, true_and, State.effectAt, Option.map_map,
      Option.map_eq_some_iff, bne_iff_ne] at hmem
    obtain ⟨_, ⟨⟨n, e, he, rfl⟩, hmoves⟩, rfl⟩ := hmem
    exact Or.inl ⟨n, e, he, hmoves, hclaim, rfl⟩
  · next hnone =>
    refine Or.inr ⟨fun n e he hclaim => ?_, rfl⟩
    by_contra hmoves
    refine List.find?_eq_none.mp hnone (f n e) ?_ hclaim
    simp only [List.mem_map, List.mem_filter, List.mem_filterMap, List.mem_finRange, true_and, State.effectAt, Option.map_map,
      Option.map_eq_some_iff, bne_iff_ne]
    exact ⟨_, ⟨⟨n, e, he, rfl⟩, hmoves⟩, rfl⟩

/-- Groups handed on one after another. -/
theorem State.oweGroups_owed : ∀ (groups : List FollowGroup) (s : State), (groups.foldl State.oweGroup s).owed = { s.owed with
    follows := s.owed.follows ++ groups.filter fun g => g.events != []
    walks := s.owed.walks + (groups.filter fun g => g.events == [] && g.walk).length }
  | [], s => by simp
  | g :: rest, s => by
    rw [List.foldl_cons, State.oweGroups_owed rest]
    obtain ⟨walk, events⟩ := g
    cases events with
    | nil => cases walk <;> simp [State.oweGroup, State.oweWalks, Nat.add_assoc, Nat.add_comm]
    | cons l events => simp [State.oweGroup]

/-- The groups of an arrival at every entry, each handed on by itself, where `ended` lists the entries whose group is not empty. -/
theorem State.apply_each_owed {p : EntryIx → Entry → Bool} {h : EntryIx × Entry → FollowGroup}
    (hp : ∀ n e, s.table[n] = some e → p n e = true → s.effectGroup n (f n e) = h (n, e))
    (hnot : ∀ n e, s.table[n] = some e → p n e = false → s.effectGroup n (f n e) = { walk := false, events := [] }) :
    (s.apply f).each.owed = { s.owed with
      follows := s.owed.follows ++ (((List.finRange 48).filterMap fun n => (s.table[n].filter (p n)).map fun e => (n, e)).map h).filter
        fun g => g.events != []
      walks := s.owed.walks + ((((List.finRange 48).filterMap fun n => (s.table[n].filter (p n)).map fun e => (n, e)).map h).filter
        fun g => g.events == [] && g.walk).length } := by
  have hgroups (q : FollowGroup → Bool) (hq : ∀ g, q g = true → (g.walk || g.events != []) = true) : (s.apply f).groups.filter q
      = (((List.finRange 48).filterMap fun n => (s.table[n].filter (p n)).map fun e => (n, e)).map h).filter q := by
    have hempty : q { walk := false, events := [] } = false := Bool.eq_false_iff.mpr fun h' => Bool.false_ne_true (hq _ h')
    have hweaker : ∀ g ∈ ((List.finRange 48).filterMap fun n => (s.effectAt f n).map fun x => (n, x)).map
        (fun x => s.effectGroup x.1 x.2), (q g && (g.walk || g.events != [])) = q g := fun g _ => by
      cases h' : q g with
      | false => rfl
      | true => exact hq g h'
    show List.filter q (List.filter _ _) = _
    rw [List.filter_filter, List.filter_congr hweaker, List.map_filterMap, List.map_filterMap, List.filter_filterMap,
      List.filter_filterMap]
    refine List.filterMap_congr fun n _ => ?_
    cases he : s.table[n] with
    | none => simp [State.effectAt, he]
    | some e =>
      cases hpe : p n e with
      | false => simp [State.effectAt, he, Option.filter, hpe, hnot n e he hpe, hempty]
      | true => simp [State.effectAt, he, Option.filter, hpe, hp n e he hpe]
  unfold Arrival.each
  rw [State.oweGroups_owed, hgroups _ (by simp +contextual), hgroups _ (by simp +contextual)]
  rfl

end

/-! ### PULSE_EDGE (R95, R103) -/

/-- The effect of a pulse edge at an entry. -/
def PulseEdge.effect (p : PulseEdge) (v : View) (n : EntryIx) (e : Entry) : Effect :=
  if p.reached.getLsbD n.val then Effect.only e else e.pulse v p.sensor

/-- The state in which a pulse edge has left its queue. -/
def State.withoutPulse (s : State) (p : PulseEdge) : State := { s with owed := { s.owed with pulses := s.owed.pulses.erase p } }

/-- The pulse edge ends the run of the entry. -/
def PulseEdge.ends (p : PulseEdge) (n : EntryIx) (e : Entry) : Bool := !p.reached.getLsbD n.val && slotPulseEnds (some e) p.sensor

section
variable {s : State} {k : SensorIx} {p : PulseEdge} {n : EntryIx} {e : Entry} {v : View} {r : RunState}

theorem exec_pulseEdge (hp : s.owed.pulses.find? (fun y => y.sensor == k) = some p) :
    exec (.pulseEdge k) s = .next ((s.withoutPulse p).apply (p.effect s.view)).each := by
  refine congrArg Host.Outcome.next ?_
  rw [hp]
  rfl

theorem PulseEdge.ends_iff : p.ends n e = true ↔ p.reached.getLsbD n.val = false
    ∧ ∃ r, e.phase = .running r ∧ e.defn.unit = .pulses ∧ e.defn.pulseSource = p.sensor ∧ r.counter ≤ 1 := by
  rw [PulseEdge.ends, Bool.and_eq_true, slotPulseEnds_iff, Bool.not_eq_true']

theorem PulseEdge.effect_ends (h : p.ends n e = true) : p.effect v n e = e.resolve v .completed := by
  obtain ⟨hreached, r, hr, hu, hk, hcounter⟩ := PulseEdge.ends_iff.mp h
  rw [PulseEdge.effect, if_neg (by rw [hreached]; decide), Entry.pulse_running hr hu hk, if_pos hcounter]

theorem PulseEdge.effect_counts (hreached : p.reached.getLsbD n.val = false) (hr : e.phase = .running r)
    (hu : e.defn.unit = .pulses) (hk : e.defn.pulseSource = p.sensor) (hcounter : 2 ≤ r.counter) :
    p.effect v n e = Effect.only { e with phase := .running { r with counter := r.counter - 1 } } := by
  rw [PulseEdge.effect, if_neg (by rw [hreached]; decide), Entry.pulse_running hr hu hk, if_neg (by omega)]

theorem PulseEdge.effect_passed (h : ∀ r, p.reached.getLsbD n.val = false → e.phase = .running r → e.defn.unit = .pulses →
    e.defn.pulseSource ≠ p.sensor) : p.effect v n e = Effect.only e := by
  unfold PulseEdge.effect
  split
  · rfl
  · next hreached => exact Entry.pulse_other fun r hr hu => h r (Bool.eq_false_iff.mpr hreached) hr hu

/-- What a pulse edge does not end keeps its zones and ends nothing. -/
theorem PulseEdge.effect_quiet (h : p.ends n e = false) : (p.effect v n e).zones = .keep ∧ (p.effect v n e).ended = none
    ∧ (p.effect v n e).walk = false := by
  by_cases hcounts : ∃ r, p.reached.getLsbD n.val = false ∧ e.phase = .running r ∧ e.defn.unit = .pulses ∧ e.defn.pulseSource = p.sensor
  · obtain ⟨r, hreached, hr, hu, hk⟩ := hcounts
    have hcounter : 2 ≤ r.counter := by
      by_contra hlow
      rw [Bool.eq_false_iff] at h
      exact h (PulseEdge.ends_iff.mpr ⟨hreached, r, hr, hu, hk, by omega⟩)
    rw [PulseEdge.effect_counts hreached hr hu hk hcounter]
    exact ⟨rfl, rfl, rfl⟩
  · rw [PulseEdge.effect_passed fun r hreached hr hu hk => hcounts ⟨r, hreached, hr, hu, hk⟩]
    exact ⟨rfl, rfl, rfl⟩

theorem State.oweGroups_kept : ∀ (groups : List FollowGroup) (s : State), (groups.foldl State.oweGroup s)
    = { s with owed := (groups.foldl State.oweGroup s).owed }
  | [], _ => rfl
  | g :: rest, s => by
    rw [List.foldl_cons]
    refine (State.oweGroups_kept rest (s.oweGroup g)).trans ?_
    generalize (rest.foldl State.oweGroup (s.oweGroup g)).owed = owed
    rw [State.oweGroup_frame]

/-- An arrival at every entry changes the table, the zones and what is on its way. -/
theorem State.apply_each_frame (s : State) (f : EntryIx → Entry → Effect) : (s.apply f).each = { s with
    table := (s.apply f).state.table, zones := (s.apply f).state.zones, owed := (s.apply f).each.owed } := by
  refine (State.oweGroups_kept (s.apply f).groups (s.apply f).state).trans ?_
  show { (s.apply f).state with owed := (s.apply f).each.owed } = _
  generalize (s.apply f).each.owed = owed
  rw [State.apply_frame]

/-- The entries that a pulse edge ends. -/
def State.endedBy (s : State) (p : PulseEdge) : List (EntryIx × Entry) :=
  (List.finRange 48).filterMap fun n => (s.table[n].filter (p.ends n)).map fun e => (n, e)

theorem State.mem_endedBy {x : EntryIx × Entry} : x ∈ s.endedBy p ↔ s.table[x.1] = some x.2 ∧ p.ends x.1 x.2 = true := by
  obtain ⟨n, e⟩ := x
  simp only [State.endedBy, List.mem_filterMap, List.mem_finRange, true_and, Option.map_eq_some_iff, Option.filter_eq_some_iff,
    Prod.mk.injEq]
  constructor
  · rintro ⟨m, x, ⟨hx, hends⟩, rfl, rfl⟩
    exact ⟨hx, hends⟩
  · rintro ⟨he, hends⟩
    exact ⟨n, e, ⟨he, hends⟩, rfl, rfl⟩

theorem State.endedBy_nodup : (s.endedBy p).Nodup := by
  refine (List.nodup_finRange 48).filterMap fun m m' x hm hm' => ?_
  simp only [Option.mem_def, Option.map_eq_some_iff] at hm hm'
  obtain ⟨_, -, rfl⟩ := hm
  obtain ⟨_, -, h⟩ := hm'
  exact (Prod.mk.inj h).1.symm

theorem State.pulse_each_owed : ((s.withoutPulse p).apply (p.effect s.view)).each.owed = { s.owed with
    pulses := s.owed.pulses.erase p
    follows := s.owed.follows ++ ((s.endedBy p).map fun x => s.endGroup x.1 x.2 .completed (x.2.defn.nextPhase .completed)).filter
      fun g => g.events != []
    walks := s.owed.walks + (((s.endedBy p).map fun x => s.endGroup x.1 x.2 .completed (x.2.defn.nextPhase .completed)).filter
      fun g => g.events == [] && g.walk).length } := by
  refine State.apply_each_owed (s := s.withoutPulse p) (p := p.ends)
    (h := fun x => s.endGroup x.1 x.2 .completed (x.2.defn.nextPhase .completed)) (fun n e _ h => ?_) fun n e _ h => ?_
  · rw [PulseEdge.effect_ends h]
    exact State.effectGroup_settle (s := s.withoutPulse p) n
  · obtain ⟨hzones, hended, hwalk⟩ := PulseEdge.effect_quiet (v := s.view) h
    simp [State.effectGroup, Effect.causesWalk, hzones, hended, hwalk]

end

/-- Settles O44: the entries that count, those that end, the zones, and the groups. -/
theorem pulseEdgeRow : Obligations.PulseEdgeRow := by
  intro s k p hp
  obtain rfl : p.sensor = k := by simpa using List.find?_some hp
  have hexec := exec_pulseEdge hp
  have howed := State.pulse_each_owed (s := s) (p := p)
  have hframe := State.apply_each_frame (s.withoutPulse p) (p.effect s.view)
  have htable (n : EntryIx) : ((s.withoutPulse p).apply (p.effect s.view)).each.table[n]
      = (s.table[n]).map fun e => (p.effect s.view n e).entry := by
    rw [State.apply_each_frame]
    exact (s.withoutPulse p).apply_table _ n
  have hzone (z : ZoneIx) : ((s.withoutPulse p).apply (p.effect s.view)).each.zones[z]
      = ((s.withoutPulse p).apply (p.effect s.view)).state.zones[z] := by rw [State.apply_each_frame]
  have hcases (z : ZoneIx) := (s.withoutPulse p).apply_zones_cases (p.effect s.view) z
  simp only [← hzone] at hcases
  have hrest : ((s.withoutPulse p).apply (p.effect s.view)).each = { s with
      table := ((s.withoutPulse p).apply (p.effect s.view)).each.table
      zones := ((s.withoutPulse p).apply (p.effect s.view)).each.zones
      owed := ((s.withoutPulse p).apply (p.effect s.view)).each.owed } := by
    generalize ((s.withoutPulse p).apply (p.effect s.view)).each = t at *
    rw [hframe]
    rfl
  clear hframe hzone
  generalize ((s.withoutPulse p).apply (p.effect s.view)).each = t at *
  have hmoves {n : EntryIx} {e : Entry} (h : (p.effect s.view n e).zones ≠ .keep) : p.ends n e = true := by
    by_contra hnot
    exact h (PulseEdge.effect_quiet (Bool.eq_false_iff.mpr hnot)).1
  have hrelease {n : EntryIx} {e : Entry} (h : p.ends n e = true) : (p.effect s.view n e).zones = .release := by
    obtain ⟨-, r, hr, -⟩ := PulseEdge.ends_iff.mp h
    rw [PulseEdge.effect_ends h, Entry.resolve_zones, hr]
    rfl
  refine ⟨t, hexec, fun n e r he hreached hr hu hk => ⟨fun hcounter => ?counts, fun hcounter => ?ends⟩,
    fun z h => ?otherZone, fun n h => ?otherEntry, ⟨s.endedBy p, fun n e => ?ended, State.endedBy_nodup, _, rfl,
      howed⟩, hrest⟩
  case counts => rw [htable, he, Option.map_some, PulseEdge.effect_counts hreached hr hu hk hcounter]; rfl
  case ends =>
    have hends : p.ends n e = true := PulseEdge.ends_iff.mpr ⟨hreached, r, hr, hu, hk, by omega⟩
    obtain ⟨hdefn, houtcome, hstart, hpending, hphase⟩ := Entry.resolve_resolved s e (o := .completed) (Or.inr rfl)
    refine ⟨⟨_, ?_, hdefn, houtcome, hstart, hpending, hphase⟩, fun z hz => ?_⟩
    · rw [htable, he, Option.map_some, PulseEdge.effect_ends hends]
    · rcases hcases z with ⟨m, x, -, hx, -, hmoved⟩ | ⟨hnone, -⟩
      · rw [hmoved, hrelease (hmoves hx)]
        rfl
      · have hclaim : (p.effect s.view n e).entry.defn.claim.getLsbD z.val = true := by
          rw [PulseEdge.effect_ends hends, Entry.resolve_defn]
          exact hz
        have hkeep := hnone n e he hclaim
        rw [hrelease hends] at hkeep
        cases hkeep
  case otherZone =>
    rcases hcases z with ⟨m, x, he, hx, hclaim, -⟩ | ⟨-, hkept⟩
    · obtain ⟨hreached, r, hr, hu, hk, hcounter⟩ := PulseEdge.ends_iff.mp (hmoves hx)
      rw [PulseEdge.effect_ends (hmoves hx), Entry.resolve_defn, h m x r he hreached hr hu hk hcounter] at hclaim
      cases hclaim
    · exact hkept
  case otherEntry =>
    rw [htable]
    cases he : s.table[n] with
    | none => rfl
    | some e =>
      rw [Option.map_some, PulseEdge.effect_passed fun r hreached hr hu => h e r he hreached hr hu]
      rfl
  case ended =>
    rw [State.mem_endedBy, PulseEdge.ends_iff]
    constructor
    · rintro ⟨he, hreached, r, hr, hu, hk, hcounter⟩
      exact ⟨he, hreached, hu, hk, r, hr, hcounter⟩
    · rintro ⟨he, hreached, hu, hk, r, hr, hcounter⟩
      exact ⟨he, hreached, r, hr, hu, hk, hcounter⟩

end Sys2Proof.Machine
end

section
/-! ## Grant walks (R99, R120, R126 to R131) -/
namespace Sys2Proof.Machine

/-! ### The order of a walk -/

theorem State.selection_eq (s : State) : s.selection = byPriority s.turn fun n p => slotDueAt s.table[n] p := rfl

theorem slotDueAt_iff {slot : Option Entry} {p : Fin 8} :
    slotDueAt slot p = true ↔ ∃ e w, slot = some e ∧ e.phase = .due w ∧ e.defn.priority = p := by
  cases slot with
  | none => simp [slotDueAt]
  | some e => cases hphase : e.phase <;> simp [slotDueAt, hphase]

section
variable {s : State} {n : EntryIx} {e : Entry} {w : WaitState}

theorem State.mem_selection (hs : s.turnLaw) : n ∈ s.selection ↔ ∃ e w, s.table[n] = some e ∧ e.phase = .due w := by
  rw [State.selection_eq, mem_byPriority, hs.2]
  constructor
  · rintro ⟨-, p, hp⟩
    obtain ⟨e, w, he, hdue, -⟩ := slotDueAt_iff.mp hp
    exact ⟨e, w, he, hdue⟩
  · rintro ⟨e, w, he, hdue⟩
    exact ⟨by rw [he]; rfl, e.defn.priority, slotDueAt_iff.mpr ⟨e, w, he, hdue, rfl⟩⟩

theorem State.selection_pairwise (hs : s.turnLaw) : s.selection.Pairwise fun a b => ∀ x y, s.table[a] = some x → s.table[b] = some y →
    y.defn.priority < x.defn.priority ∨ (y.defn.priority = x.defn.priority ∧ s.turnPosition a < s.turnPosition b) := by
  have hfunctional (n : EntryIx) (p p' : Fin 8) (h : slotDueAt s.table[n] p = true) (h' : slotDueAt s.table[n] p' = true) : p = p' := by
    obtain ⟨e, _, he, -, rfl⟩ := slotDueAt_iff.mp h
    obtain ⟨e', _, he', -, rfl⟩ := slotDueAt_iff.mp h'
    rw [Option.some.inj (he.symm.trans he')]
  refine (pairwise_byPriority (pairwise_idxOf hs.1) hfunctional).imp_of_mem fun {a b} ha hb hab x y hx hy => ?_
  obtain ⟨x', wx, hx', hxdue⟩ := (State.mem_selection hs).mp ha
  obtain ⟨y', wy, hy', hydue⟩ := (State.mem_selection hs).mp hb
  obtain rfl : x' = x := Option.some.inj (hx'.symm.trans hx)
  obtain rfl : y' = y := Option.some.inj (hy'.symm.trans hy)
  exact hab _ _ (slotDueAt_iff.mpr ⟨x', wx, hx, hxdue, rfl⟩) (slotDueAt_iff.mpr ⟨y', wy, hy, hydue, rfl⟩)

/-! ### One entry of a walk -/

theorem walkOver_nil (s : State) : walkOver [] s = s := by unfold walkOver; rfl

theorem walkOver_empty (rest : List EntryIx) (h : s.table[n] = none) : walkOver (n :: rest) s = walkOver rest s := by
  rw [walkOver, h]

theorem walkOver_notDue (rest : List EntryIx) (he : s.table[n] = some e) (h : ∀ w, e.phase ≠ .due w) :
    walkOver (n :: rest) s = walkOver rest s := by
  rw [walkOver, he]
  cases hphase : e.phase with
  | due w => exact absurd hphase (h w)
  | armed | held | running | paused | confirming | spent => simp only [hphase]

theorem walkOver_due (rest : List EntryIx) (he : s.table[n] = some e) (hdue : e.phase = .due w) :
    walkOver (n :: rest) s = if s.grantable e then walkOver rest (s.grant n e w)
      else if s.mayPreempt e then s.preempt (s.victims e) else walkOver rest s := by
  rw [walkOver, he]
  simp only [hdue]

theorem walkOver_granted (rest : List EntryIx) (he : s.table[n] = some e) (hdue : e.phase = .due w) (hg : s.grantable e = true) :
    walkOver (n :: rest) s = walkOver rest (s.grant n e w) := by
  rw [walkOver_due rest he hdue, if_pos hg]

theorem walkOver_preempts (rest : List EntryIx) (he : s.table[n] = some e) (hdue : e.phase = .due w) (hg : s.grantable e = false)
    (hp : s.mayPreempt e = true) : walkOver (n :: rest) s = s.preempt (s.victims e) := by
  rw [walkOver_due rest he hdue, if_neg (Bool.eq_false_iff.mp hg), if_pos hp]

/-- R129: skip-ahead. -/
theorem walkOver_passed (rest : List EntryIx) (hpass : ∀ x, s.table[n] = some x → s.grantable x = false ∧ s.mayPreempt x = false) :
    walkOver (n :: rest) s = walkOver rest s := by
  cases he : s.table[n] with
  | none => exact walkOver_empty rest he
  | some e =>
    obtain ⟨hg, hp⟩ := hpass e he
    by_cases hdue : ∃ w, e.phase = .due w
    · obtain ⟨w, hdue⟩ := hdue
      rw [walkOver_due rest he hdue, if_neg (Bool.eq_false_iff.mp hg), if_neg (Bool.eq_false_iff.mp hp)]
    · exact walkOver_notDue rest he fun w hw => hdue ⟨w, hw⟩

theorem walkOver_append_passed (before rest : List EntryIx)
    (hpass : ∀ m, m ∈ before → ∀ x, s.table[m] = some x → s.grantable x = false ∧ s.mayPreempt x = false) :
    walkOver (before ++ rest) s = walkOver rest s := by
  induction before with
  | nil => rfl
  | cons m before ih =>
    calc walkOver (m :: (before ++ rest)) s = walkOver (before ++ rest) s :=
          walkOver_passed _ (hpass m List.mem_cons_self)
      _ = walkOver rest s := ih fun k hk => hpass k (List.mem_cons_of_mem m hk)

/-- The state a walk begins in: its cause is taken. -/
def State.walkTaken (s : State) : State := { s with owed := { s.owed with walks := s.owed.walks - 1 } }

theorem State.makeWalk_taken (htakes : s.takesArrivals = true) (howed : 0 < s.owed.walks) :
    s.makeWalk = walkOver s.selection s.walkTaken := by
  unfold State.makeWalk
  rw [htakes, Bool.true_and, if_pos (decide_eq_true howed)]
  rfl

theorem State.makeWalk_reaches {before rest : List EntryIx} (htakes : s.takesArrivals = true) (howed : 0 < s.owed.walks)
    (hselection : s.selection = before ++ rest)
    (hpass : ∀ m, m ∈ before → ∀ x, s.table[m] = some x → s.grantable x = false ∧ s.mayPreempt x = false) :
    s.makeWalk = walkOver rest s.walkTaken := by
  rw [State.makeWalk_taken htakes howed, hselection]
  exact walkOver_append_passed (s := s.walkTaken) before rest hpass

theorem exec_grantWalk (s : State) : exec .grantWalk s = .next s.makeWalk := rfl

/-! ### The preemption test -/

theorem Entry.walkPermit_iff : e.walkPermit = true ↔ e.storedPermit ≠ some false := by
  unfold Entry.walkPermit
  cases e.storedPermit with
  | none => simp
  | some b => cases b <;> simp

theorem mem_claimed {claim : ZoneSet} {z : ZoneIx} : z ∈ claimed claim ↔ claim.getLsbD z.val = true := by
  simp [claimed]

theorem State.mem_victims {m : EntryIx} :
    m ∈ s.victims e ↔ ∃ z : ZoneIx, e.defn.claim.getLsbD z.val = true ∧ s.zones[z].owner = some m := by
  simp only [State.victims, List.mem_filter, List.mem_finRange, true_and, List.any_eq_true, mem_claimed, beq_iff_eq]

theorem State.victims_nodup (s : State) (e : Entry) : (s.victims e).Nodup := (List.nodup_finRange 48).filter _

theorem slotBelow_iff {slot : Option Entry} {p : Fin 8} : slotBelow slot p = true ↔ ∃ x, slot = some x ∧ x.defn.priority < p := by
  cases slot <;> simp [slotBelow]

theorem State.zoneTakeable_iff {z : ZoneIx} : s.zoneTakeable e z = true ↔ s.zones[z] = .free
    ∨ ∃ o x, s.zones[z].owner = some o ∧ s.table[o] = some x ∧ x.defn.priority < e.defn.priority := by
  unfold State.zoneTakeable
  generalize s.zones[z] = zone
  cases zone with
  | free => simp
  | ownedOn o => simpa [Zone.owner] using slotBelow_iff
  | ownedOff o => simpa [Zone.owner] using slotBelow_iff
  | resting | manualOn | manualOff => simp [Zone.owner]

/-- R130: where every claimed zone may be taken, there are victims exactly where one of them is not FREE. -/
theorem State.victims_ne_nil_iff (htakeable : ∀ z : ZoneIx, e.defn.claim.getLsbD z.val = true → s.zoneTakeable e z = true) :
    s.victims e ≠ [] ↔ ∃ z : ZoneIx, e.defn.claim.getLsbD z.val = true ∧ s.zones[z] ≠ .free := by
  constructor
  · intro hne
    obtain ⟨m, hm⟩ := List.exists_mem_of_ne_nil _ hne
    obtain ⟨z, hclaim, howner⟩ := State.mem_victims.mp hm
    exact ⟨z, hclaim, fun hfree => nomatch hfree ▸ howner⟩
  · rintro ⟨z, hclaim, htaken⟩
    rcases State.zoneTakeable_iff.mp (htakeable z hclaim) with hfree | ⟨o, -, howner, -⟩
    · exact absurd hfree htaken
    · exact List.ne_nil_of_mem (State.mem_victims.mpr ⟨z, hclaim, howner⟩)

theorem State.mayPreempt_iff : s.mayPreempt e = true ↔ e.defn.preempt = true ∧ e.storedPermit ≠ some false
    ∧ (∀ z : ZoneIx, e.defn.claim.getLsbD z.val = true → s.zones[z] = .free
        ∨ ∃ o x, s.zones[z].owner = some o ∧ s.table[o] = some x ∧ x.defn.priority < e.defn.priority)
    ∧ (∃ z : ZoneIx, e.defn.claim.getLsbD z.val = true ∧ s.zones[z] ≠ .free)
    ∧ s.engaged + setSize e.defn.claim ≤ s.budget + ((s.victims e).map fun o => setSize (slotClaim s.table[o])).sum := by
  unfold State.mayPreempt
  simp only [Bool.and_eq_true, List.all_eq_true, mem_claimed, bne_iff_ne, decide_eq_true_eq, and_assoc, Entry.walkPermit_iff]
  refine and_congr_right fun _ => and_congr_right fun _ => ?_
  simp only [← State.zoneTakeable_iff]
  exact and_congr_right fun htakeable => and_congr_left fun _ => State.victims_ne_nil_iff htakeable

/-! ### A preemption -/

/-- R131: what a preemption does at the entries. -/
def victimisedAmong (victims : List EntryIx) (n : EntryIx) (e : Entry) : Effect :=
  if victims.contains n then e.victimised else Effect.only e

theorem victimisedAmong_of_mem {victims : List EntryIx} (h : n ∈ victims) : victimisedAmong victims n e = e.victimised :=
  if_pos (List.contains_iff_mem.mpr h)

theorem victimisedAmong_of_not_mem {victims : List EntryIx} (h : n ∉ victims) : victimisedAmong victims n e = Effect.only e :=
  if_neg (mt List.contains_iff_mem.mp h)

theorem State.preempt_eq (s : State) (victims : List EntryIx) : s.preempt victims
    = (s.apply (victimisedAmong victims)).state.oweWalks
        (if someZoneFreed s.zones (s.apply (victimisedAmong victims)).state.zones then 1 else 0) := rfl

theorem Entry.victimised_zones (h : e.victimised.zones ≠ .keep) : e.phase.ownsZones = true := by
  unfold Entry.victimised at h
  cases hphase : e.phase with
  | running | paused => rfl
  | armed | held | due | confirming | spent => simp only [hphase] at h; exact absurd rfl h

theorem Entry.victimised_active {r : RunState} (h : e.phase = .running r ∨ e.phase = .paused r) :
    e.victimised = { Effect.only { e with
        phase := .due { remaining := some r.counter, elapsed := 0, seconds := 0 }
        pending := e.noted .preempt } with zones := .release } := by
  unfold Entry.victimised
  rcases h with h | h <;> simp only [h] <;> rfl

theorem State.preempt_slot (victims : List EntryIx) (m : EntryIx) :
    (s.preempt victims).table[m] = (s.table[m]).map fun e => (victimisedAmong victims m e).entry := by
  rw [State.preempt_eq, State.oweWalks_table, State.apply_table]

theorem State.preempt_slot_of_not_mem {victims : List EntryIx} {m : EntryIx} (h : m ∉ victims) :
    (s.preempt victims).table[m] = s.table[m] := by
  rw [State.preempt_slot]
  cases he : s.table[m] with
  | none => rfl
  | some x => simp only [Option.map_some, victimisedAmong_of_not_mem h]; rfl

theorem State.preempt_zones (s : State) (victims : List EntryIx) :
    (s.preempt victims).zones = (s.apply (victimisedAmong victims)).state.zones := by
  rw [State.preempt_eq, State.oweWalks_zones]

theorem victimisedAmong_defn (victims : List EntryIx) : (victimisedAmong victims n e).entry.defn = e.defn := by
  by_cases hn : n ∈ victims
  · rw [victimisedAmong_of_mem hn, e.victimised_defn]
  · rw [victimisedAmong_of_not_mem hn]; rfl

theorem victimisedAmong_zones {victims : List EntryIx} (h : (victimisedAmong victims n e).zones ≠ .keep) :
    n ∈ victims ∧ e.phase.ownsZones = true := by
  by_cases hn : n ∈ victims
  · exact ⟨hn, Entry.victimised_zones (by rwa [victimisedAmong_of_mem hn] at h)⟩
  · rw [victimisedAmong_of_not_mem hn] at h; exact absurd rfl h

/-- A zone that no victim owns and claims stays. -/
theorem State.preempt_zone_kept {victims : List EntryIx} {z : ZoneIx}
    (h : ∀ m x, m ∈ victims → s.table[m] = some x → x.phase.ownsZones = true → x.defn.claim.getLsbD z.val = false) :
    (s.preempt victims).zones[z] = s.zones[z] := by
  rw [State.preempt_zones]
  rcases s.apply_zones_cases (victimisedAmong victims) z with ⟨m, x, hx, hmoves, hclaim, -⟩ | ⟨-, hkept⟩
  · obtain ⟨hm, howns⟩ := victimisedAmong_zones hmoves
    rw [victimisedAmong_defn, h m x hm hx howns] at hclaim
    exact nomatch hclaim
  · exact hkept

/-- R131: a victim releases its zones. -/
theorem State.preempt_zone_released {victims : List EntryIx} {z : ZoneIx} {m : EntryIx} {x : Entry} {r : RunState} (hs : s.ownerLaw)
    (hm : m ∈ victims) (hx : s.table[m] = some x) (hphase : x.phase = .running r ∨ x.phase = .paused r)
    (hclaim : x.defn.claim.getLsbD z.val = true) : (s.preempt victims).zones[z] = s.zones[z].release (s.restTime z) := by
  have howner : s.zones[z].owner = some m := by
    rw [hs, hx, slotOwns, hclaim, Bool.and_true]
    rcases hphase with h | h <;> rw [h] <;> rfl
  rw [State.preempt_zones, State.apply_zones_of_owner hs (fun n e _ => victimisedAmong_defn victims)
    (fun n e _ h => (victimisedAmong_zones h).2), State.zoneMove_owned howner hx, victimisedAmong_of_mem hm,
    Entry.victimised_active hphase]
  rfl

theorem State.preempt_turn (s : State) (victims : List EntryIx) : (s.preempt victims).turn = s.turn := by
  rw [State.preempt_eq, State.oweWalks_turn, State.apply_frame]

theorem State.preempt_frame (s : State) (victims : List EntryIx) : s.preempt victims = { s with
    table := (s.preempt victims).table, zones := (s.preempt victims).zones
    owed := { s.owed with walks := (s.preempt victims).owed.walks } } := by
  delta State.preempt State.oweWalks State.apply; rfl

theorem State.preempt_walks (s : State) (victims : List EntryIx) : (s.preempt victims).owed.walks
    = s.owed.walks + if someZoneFreed s.zones (s.preempt victims).zones then 1 else 0 := by
  delta State.preempt State.oweWalks State.apply; rfl

theorem State.preempt_walks_freed {victims : List EntryIx} (h : ∃ z : ZoneIx, s.zones[z] ≠ .free ∧ (s.preempt victims).zones[z] = .free) :
    (s.preempt victims).owed.walks = s.owed.walks + 1 := by
  rw [State.preempt_walks, if_pos ((someZoneFreed_iff _ _).mpr h)]

theorem State.preempt_walks_kept {victims : List EntryIx} (h : ∀ z : ZoneIx, (s.preempt victims).zones[z] = .free → s.zones[z] = .free) :
    (s.preempt victims).owed.walks = s.owed.walks := by
  rw [State.preempt_walks, if_neg fun hfreed => ?_, Nat.add_zero]
  obtain ⟨z, hz, hz'⟩ := (someZoneFreed_iff _ _).mp hfreed
  exact hz (h z hz')

/-! ### A granted entry keeps its slot and its zones to the end of the walk -/

/-- `g` stands in slot `n`, owns its claim set OWNED_ON, and no other entry owns a zone of it. -/
structure State.Runs (s : State) (n : EntryIx) (g : Entry) : Prop where
  slot : s.table[n] = some g
  zones : ∀ z : ZoneIx, g.defn.claim.getLsbD z.val = true → s.zones[z] = .ownedOn n
  alone : ∀ (z : ZoneIx) (m : EntryIx), g.defn.claim.getLsbD z.val = true → m ≠ n → slotOwns s.table[m] z = false

/-- A grant takes FREE zones alone. -/
theorem State.Runs.grant {g : Entry} {m : EntryIx} {x : Entry} (hruns : s.Runs n g) (hm : m ≠ n) (hg : s.grantable x = true) :
    (s.grant m x w).Runs n g := by
  obtain ⟨-, hfree, -⟩ := State.grantable_iff.mp hg
  have hdisjoint (z : ZoneIx) (hz : g.defn.claim.getLsbD z.val = true) : x.defn.claim.getLsbD z.val = false := by
    by_contra hclaim
    exact nomatch (hruns.zones z hz).symm.trans (hfree z (Bool.of_not_eq_false hclaim))
  refine ⟨?_, fun z hz => ?_, fun z k hz hk => ?_⟩
  · rw [State.grant_slot_other s x w hm.symm, hruns.slot]
  · rw [State.grant_zone, hdisjoint z hz]
    exact hruns.zones z hz
  · by_cases hkm : k = m
    · subst hkm
      rw [State.grant_slot_same, slotOwns, Entry.granted_defn, hdisjoint z hz, Bool.and_false]
    · rw [State.grant_slot_other s x w hkm]
      exact hruns.alone z k hz hk

/-- R130: a preemption takes nothing from an entry that does not stand below the preemptor. -/
theorem State.Runs.preempt {g x : Entry} (hruns : s.Runs n g) (hx : x.defn.priority ≤ g.defn.priority) (hp : s.mayPreempt x = true) :
    (s.preempt (s.victims x)).Runs n g := by
  obtain ⟨-, -, htakeable, -⟩ := State.mayPreempt_iff.mp hp
  have hspared : n ∉ s.victims x := by
    intro hn
    obtain ⟨z, hclaim, howner⟩ := State.mem_victims.mp hn
    rcases htakeable z hclaim with hfree | ⟨o, y, ho, hy, hlt⟩
    · exact nomatch hfree ▸ howner
    · obtain rfl : o = n := Option.some.inj (ho.symm.trans howner)
      obtain rfl : y = g := Option.some.inj (hy.symm.trans hruns.slot)
      exact absurd hlt (not_lt.mpr hx)
  have hothers {z : ZoneIx} {m : EntryIx} {y : Entry} (hz : g.defn.claim.getLsbD z.val = true) (hm : m ≠ n) (hy : s.table[m] = some y) :
      (y.phase.ownsZones && y.defn.claim.getLsbD z.val) = false := by
    simpa only [hy, slotOwns] using hruns.alone z m hz hm
  refine ⟨(State.preempt_slot_of_not_mem hspared).trans hruns.slot, fun z hz => ?_, fun z m hz hm => ?_⟩
  · rw [State.preempt_zone_kept fun m y hm hy howns => ?_]
    · exact hruns.zones z hz
    · simpa only [howns, Bool.true_and] using hothers hz (fun h => hspared (h ▸ hm)) hy
  · by_cases hvictim : m ∈ s.victims x
    · rw [State.preempt_slot]
      cases hy : s.table[m] with
      | none => rfl
      | some y =>
        rw [Option.map_some, slotOwns, victimisedAmong_of_mem hvictim, Entry.victimised_defn]
        have hnone := hothers hz hm hy
        cases hphase : y.phase with
        | running r => rw [Entry.victimised_active (Or.inl hphase)]; rfl
        | paused r => rw [Entry.victimised_active (Or.inr hphase)]; rfl
        | armed | held | due | confirming | spent =>
          simp only [Entry.victimised, hphase]
          exact hphase ▸ hnone
    · rw [State.preempt_slot_of_not_mem hvictim]
      exact hruns.alone z m hz hm

theorem walkOver_runs {g : Entry} (hg : ∀ w, g.phase ≠ .due w) : ∀ (rest : List EntryIx) {s : State}, s.Runs n g →
    (∀ m, m ∈ rest → ∀ x, s.table[m] = some x → x.defn.priority ≤ g.defn.priority) → (walkOver rest s).Runs n g
  | [], s, hruns, _ => by rwa [walkOver_nil]
  | m :: rest, s, hruns, hbelow => by
    have hrest (k : EntryIx) (hk : k ∈ rest) := hbelow k (List.mem_cons_of_mem m hk)
    cases hx : s.table[m] with
    | none => rw [walkOver_empty rest hx]; exact walkOver_runs hg rest hruns hrest
    | some x =>
      by_cases hdue : ∃ w, x.phase = .due w
      · obtain ⟨w, hdue⟩ := hdue
        have hm : m ≠ n := by
          rintro rfl
          exact hg w (Option.some.inj (hruns.slot.symm.trans hx) ▸ hdue)
        rw [walkOver_due rest hx hdue]
        split
        · next hgrant =>
          refine walkOver_runs hg rest (hruns.grant hm hgrant) fun k hk y hy => ?_
          by_cases hkm : k = m
          · subst hkm
            rw [State.grant_slot_same] at hy
            rw [← Option.some.inj hy, Entry.granted_defn]
            exact hrest k hk x hx
          · exact hrest k hk y (by rwa [State.grant_slot_other s x w hkm] at hy)
        · split
          · next hp => exact hruns.preempt (hbelow m List.mem_cons_self x hx) hp
          · exact walkOver_runs hg rest hruns hrest
      · rw [walkOver_notDue rest hx fun w hw => hdue ⟨w, hw⟩]
        exact walkOver_runs hg rest hruns hrest

theorem State.runs_grant (hs : s.ownerLaw) (hg : s.grantable e = true) : (s.grant n e w).Runs n (e.granted w s.calendar) := by
  obtain ⟨-, hfree, -⟩ := State.grantable_iff.mp hg
  refine ⟨State.grant_slot_same s n e w, fun z hz => ?_, fun z m hz hm => ?_⟩
  · rw [State.grant_zone]; exact if_pos hz
  · rw [State.grant_slot_other s e w hm, ← Bool.not_eq_true, ← hs, hfree z hz]
    exact nofun

end

/-- Settles O40: a walk's step at one entry has an equation per case, and the granted entry keeps its slot and its zones because what comes
after it in the walk takes FREE zones, or zones of an entry of strictly lower priority. -/
theorem grantWalkGrants : Obligations.GrantWalkGrants := by
  refine ⟨fun set members hnodup hmem => ?_, fun set members hnodup hmem => ?_, fun s h => ?_,
    fun s hs => ⟨fun n => State.mem_selection hs, State.selection_pairwise hs⟩, fun s e => ?_, fun s htakes howed => ?_, walkOver_nil,
    fun s n rest e w he hdue => ⟨walkOver_granted rest he hdue, fun hg hp => ?_, walkOver_preempts rest he hdue⟩,
    fun s n before rest e w htakes howed hturn howner hselection hpass he hdue hg => ?_⟩
  · rw [setSize_eq, length_filter_finRange hnodup hmem]
  · rw [setSize_eq, length_filter_finRange hnodup hmem]
  · rw [exec_grantWalk, State.makeWalk_none s h]
  · rw [State.grantable_iff, Entry.walkPermit_iff]
  · rw [exec_grantWalk, State.makeWalk_taken htakes howed]; rfl
  · rw [walkOver_due rest he hdue, if_neg (Bool.eq_false_iff.mp hg), if_neg (Bool.eq_false_iff.mp hp)]
  · have hwalk : s.makeWalk = walkOver rest (s.walkTaken.grant n e w) := by
      rw [State.makeWalk_reaches htakes howed hselection hpass]
      exact walkOver_granted (s := s.walkTaken) rest he hdue hg
    have hbelow (m : EntryIx) (hm : m ∈ rest) (x : Entry) (hx : s.table[m] = some x) : x.defn.priority ≤ e.defn.priority := by
      have hpair := State.selection_pairwise hturn
      rw [hselection] at hpair
      rcases (List.pairwise_cons.mp (List.pairwise_append.mp hpair).2.1).1 m hm e x he hx with hlt | ⟨heq, -⟩
      · exact le_of_lt hlt
      · exact le_of_eq heq
    have hruns : s.makeWalk.Runs n (e.granted w s.calendar) := by
      rw [hwalk]
      refine walkOver_runs (g := e.granted w s.calendar) (fun _ => nofun) rest (State.runs_grant (s := s.walkTaken) howner hg)
        fun m hm x hx => ?_
      rw [Entry.granted_defn]
      by_cases hmn : m = n
      · subst hmn
        rw [State.grant_slot_same] at hx
        rw [← Option.some.inj hx, Entry.granted_defn]
      · rw [State.grant_slot_other _ e w hmn] at hx
        exact hbelow m hm x hx
    refine ⟨s.makeWalk, e.defn.runAtGrant w.remaining, exec_grantWalk s, hruns.slot, fun k hk => ?_, fun hk => ?_, rfl, rfl, fun h => if_pos h,
      fun h => if_neg h, fun h => if_pos h, fun h => if_neg (by omega), hruns.zones, fun hrest => ?_, State.makeWalk_frame s⟩
    · rw [hk]; rfl
    · rw [hk]; rfl
    · subst hrest
      rw [hwalk, walkOver_nil]
      refine ⟨rfl, fun m hm => State.grant_slot_other _ e w hm, rfl, fun z hz => ?_⟩
      rw [State.grant_zone, hz]
      rfl

/-- Settles O41: the walk reaches the preemptor over the entries it passes, and the preemption moves the owners of the claimed zones alone. -/
theorem grantWalkPreempts : Obligations.GrantWalkPreempts := by
  refine ⟨fun s e => ⟨State.mayPreempt_iff, State.victims_nodup s e, fun m => State.mem_victims⟩,
    fun s n before rest e w htakes howed howner hselection hpass he hdue hg hp => ?_⟩
  have hwalk : s.makeWalk = s.walkTaken.preempt (s.victims e) := by
    rw [State.makeWalk_reaches htakes howed hselection hpass]
    exact walkOver_preempts (s := s.walkTaken) rest he hdue hg hp
  have hspared : n ∉ s.victims e := by
    intro hn
    obtain ⟨z, -, hz⟩ := State.mem_victims.mp hn
    rw [howner, he, slotOwns_due hdue] at hz
    exact nomatch hz
  refine ⟨s.makeWalk, exec_grantWalk s, ?_⟩
  rw [hwalk]
  refine ⟨(State.preempt_slot_of_not_mem hspared).trans he, State.preempt_turn _ _,
    fun m x r hm hx hphase => ⟨?_, fun z hz => State.preempt_zone_released (s := s.walkTaken) howner hm hx hphase hz⟩,
    fun m hm => State.preempt_slot_of_not_mem hm, fun z hz => State.preempt_zone_kept fun m x hm hx _ => hz m x hm hx,
    fun hfreed => ?_, fun hkept => State.preempt_walks_kept (s := s.walkTaken) hkept, State.preempt_frame _ _⟩
  · rw [State.preempt_slot]
    show (s.table[m]).map _ = _
    rw [hx, Option.map_some, victimisedAmong_of_mem hm, Entry.victimised_active hphase]
    rfl
  · rw [State.preempt_walks_freed (s := s.walkTaken) hfreed]
    exact Nat.sub_add_cancel howed

end Sys2Proof.Machine
end

section
/-! ## Signals and change events (R81 to R97) -/
namespace Sys2Proof.Machine

/-! ### Signal levels -/

theorem State.sensorLevels_bit (s : State) (k : SensorIx) : s.sensorLevels.getLsbD k.val = s.sensors[k].level := by
  have h := getLsbD_bitsOf 8 (fun i => if h : i < 8 then s.sensors[i].level else false) k.val
  simp only [k.isLt, decide_true, Bool.true_and, dite_true] at h
  exact h

theorem State.levels_sensor (s : State) (k : SensorIx) : s.levels.getLsbD k.val = s.sensors[k].level := by
  rw [State.levels, BitVec.getLsbD_append, if_pos k.isLt, State.sensorLevels_bit]

theorem State.levels_flag (s : State) (k : SensorIx) : s.levels.getLsbD (8 + k.val) = s.flags.getLsbD k.val := by
  rw [State.levels, BitVec.getLsbD_append, if_neg (by simp), Nat.add_sub_cancel_left]

theorem State.levels_congr {s t : State} (hflags : t.flags = s.flags) (hsensors : ∀ k : SensorIx, t.sensors[k].level = s.sensors[k].level) :
    t.levels = s.levels := by
  have hbits : t.sensorLevels = s.sensorLevels := BitVec.eq_of_getLsbD_eq fun i hi => by
    rw [t.sensorLevels_bit ⟨i, hi⟩, s.sensorLevels_bit ⟨i, hi⟩, hsensors]
  rw [State.levels, State.levels, hflags, hbits]

section
variable {s : State} {k : SensorIx} {x : Sensor}

theorem State.putSensor_same (s : State) (k : SensorIx) (x : Sensor) : (s.putSensor k x).sensors[k] = x := by
  rw [State.putSensor_sensors]; exact Vector.getElem_set_self k.isLt

theorem State.putSensor_other {j : SensorIx} (h : j ≠ k) : (s.putSensor k x).sensors[j] = s.sensors[j] := by
  rw [State.putSensor_sensors]; exact Vector.getElem_set_ne k.isLt j.isLt fun heq => h (Fin.ext heq.symm)

theorem State.putSensor_levels (h : x.level = s.sensors[k].level) : (s.putSensor k x).levels = s.levels := by
  refine State.levels_congr (State.putSensor_flags s k x) fun j => ?_
  by_cases hj : j = k
  · subst hj; rw [State.putSensor_same, h]
  · rw [State.putSensor_other hj]

end

/-! ### Patterns -/

theorem specHolds_iff {sp : Spec} {levels changed : Levels} {i : Nat} : specHolds sp levels changed i = true ↔
    (sp = .low ∧ levels.getLsbD i = false) ∨ (sp = .high ∧ levels.getLsbD i = true)
      ∨ (sp = .change ∧ changed.getLsbD i = true)
      ∨ (sp = .fall ∧ changed.getLsbD i = true ∧ levels.getLsbD i = false)
      ∨ (sp = .rise ∧ changed.getLsbD i = true ∧ levels.getLsbD i = true) := by
  cases sp <;> simp [specHolds]

theorem Pattern.satisfied_all {p : Pattern} {levels changed : Levels} (h : p.combine = .all) : p.satisfied levels changed = true ↔
    ∀ i : Fin 16, p.specs[i] ≠ .ignore → specHolds p.specs[i] levels changed i.val = true := by
  unfold Pattern.satisfied
  rw [h]
  simp only [List.all_eq_true, List.mem_finRange, true_implies, Bool.or_eq_true, beq_iff_eq]
  exact forall_congr' fun i => or_iff_not_imp_left

theorem Pattern.satisfied_any {p : Pattern} {levels changed : Levels} (h : p.combine = .any) : p.satisfied levels changed = true ↔
    ∃ i : Fin 16, p.specs[i] ≠ .ignore ∧ specHolds p.specs[i] levels changed i.val = true := by
  unfold Pattern.satisfied
  rw [h]
  simp only [List.any_eq_true, List.mem_finRange, true_and]
  refine exists_congr fun i => ⟨fun hspec => ⟨fun hignore => ?_, hspec⟩, And.right⟩
  rw [hignore] at hspec
  exact nomatch hspec

theorem Pattern.hasTransition_iff {p : Pattern} :
    p.hasTransition = true ↔ ∃ i : Fin 16, p.specs[i] = .change ∨ p.specs[i] = .fall ∨ p.specs[i] = .rise := by
  unfold Pattern.hasTransition
  simp only [List.any_eq_true, List.mem_finRange, true_and]
  refine exists_congr fun i => ?_
  cases p.specs[i] <;> simp [Spec.isTransition]

theorem Definition.hasPermit_iff {d : Definition} : d.hasPermit = true ↔
    (d.kind = .pattern ∧ d.pattern.sense = .level) ∨ (d.kind ≠ .pattern ∧ d.pattern.present = true) := by
  unfold Definition.hasPermit
  cases d.kind <;> simp

theorem Definition.permitHolds_iff {d : Definition} {levels : Levels} :
    d.permitHolds levels = true ↔ d.hasPermit = true → d.pattern.satisfied levels 0 = true := by
  unfold Definition.permitHolds
  cases d.hasPermit <;> simp

/-! ### What a change event hands on -/

theorem Entry.triggeredAt_iff {e : Entry} {levels changed : Levels} : e.triggeredAt levels changed = true ↔
    e.defn.kind = .pattern ∧ e.defn.pattern.satisfied levels changed = true
      ∧ ((e.defn.pattern.sense = .edge ∧ (e.defn.pattern.hasTransition = true ∨ e.storedPattern.getD false = false))
        ∨ (e.defn.pattern.sense = .level ∧ e.phase = .armed)) := by
  unfold Entry.triggeredAt
  simp only [Bool.and_eq_true, beq_iff_eq, and_assoc]
  refine and_congr_right fun _ => and_congr_right fun _ => ?_
  cases e.defn.pattern.sense with
  | edge => simp
  | level => simp [Phase.isArmed_iff]

theorem Entry.transitionAt_iff {e : Entry} {levels changed : Levels} {v : Bool} : e.transitionAt levels changed = some v ↔
    ∃ old, e.storedPermit = some old ∧ e.defn.permitValue levels changed = some v ∧ v ≠ old := by
  unfold Entry.transitionAt
  cases e.storedPermit with
  | none => simp
  | some old =>
    cases e.defn.permitValue levels changed with
    | none => simp
    | some new =>
      by_cases h : old = new
      · subst h; simp [eq_comm]
      · simp only [if_neg h]
        refine ⟨fun hv => ⟨old, rfl, hv, Option.some.inj hv ▸ Ne.symm h⟩, fun ⟨_, _, hv, _⟩ => hv⟩

/-- The occupied slots, in their order. -/
def State.occupied (s : State) : List (EntryIx × Entry) := (List.finRange 48).filterMap fun n => s.table[n].map fun e => (n, e)

theorem State.mem_occupied {s : State} {n : EntryIx} {e : Entry} : (n, e) ∈ s.occupied ↔ s.table[n] = some e := by
  simp only [State.occupied, List.mem_filterMap, List.mem_finRange, true_and, Option.map_eq_some_iff, Prod.mk.injEq]
  exact ⟨fun ⟨_, _, he, hn, hx⟩ => hn ▸ hx ▸ he, fun he => ⟨n, e, he, rfl, rfl⟩⟩

/-- R90, R91: the pattern triggers that a change event hands on. -/
def State.triggersOf (s : State) (changed : Levels) : List PatternTrigger :=
  (s.occupied.filter fun x => x.2.triggeredAt s.levels changed).map fun x => { entry := x.1, levels := s.levels }

/-- R92: the permit transitions that a change event hands on. -/
def State.transitionsOf (s : State) (changed : Levels) : List PermitTransition :=
  s.occupied.filterMap fun x => (x.2.transitionAt s.levels changed).map fun v => { entry := x.1, value := v }

section
variable {s : State} {changed : Levels}

theorem State.mem_triggersOf {x : PatternTrigger} : x ∈ s.triggersOf changed ↔
    x.levels = s.levels ∧ ∃ e, s.table[x.entry] = some e ∧ e.triggeredAt s.levels changed = true := by
  simp only [State.triggersOf, List.mem_map, List.mem_filter, Prod.exists, State.mem_occupied]
  constructor
  · rintro ⟨n, e, ⟨he, htriggered⟩, rfl⟩
    exact ⟨rfl, e, he, htriggered⟩
  · rintro ⟨hlevels, e, he, htriggered⟩
    exact ⟨x.entry, e, ⟨he, htriggered⟩, by rw [← hlevels]⟩

theorem State.mem_transitionsOf {x : PermitTransition} : x ∈ s.transitionsOf changed ↔
    ∃ e, s.table[x.entry] = some e ∧ e.transitionAt s.levels changed = some x.value := by
  simp only [State.transitionsOf, List.mem_filterMap, Prod.exists, State.mem_occupied, Option.map_eq_some_iff]
  constructor
  · rintro ⟨n, e, he, v, hv, rfl⟩
    exact ⟨e, he, hv⟩
  · rintro ⟨e, he, hv⟩
    exact ⟨x.entry, e, he, x.value, hv, rfl⟩

theorem State.changeEvent_of_change {before : Levels} (h : before ^^^ s.levels ≠ 0) : s.changeEvent before = { s with
    table := (s.changeEvent before).table
    owed := { s.owed with
      triggers := s.owed.triggers ++ if s.isLive then s.triggersOf (before ^^^ s.levels) else []
      transitions := s.owed.transitions ++ if s.takesArrivals then s.transitionsOf (before ^^^ s.levels) else [] } } := by
  unfold State.changeEvent
  simp only [if_neg h]
  rfl

theorem State.changeEvent_of_none {before : Levels} (h : before ^^^ s.levels = 0) : s.changeEvent before = s := by
  unfold State.changeEvent
  exact if_pos h

theorem State.changeEvent_of_eq {before : Levels} (h : s.levels = before) : s.changeEvent before = s := by
  subst h; exact s.changeEvent_same

end

/-- What a change event makes of the table and hands on reads these parts of the state alone. -/
theorem State.changeEvent_congr {s t : State} {before : Levels} (htable : t.table = s.table) (hlevels : t.levels = s.levels)
    (hlive : t.isLive = s.isLive) (htakes : t.takesArrivals = s.takesArrivals) (howed : t.owed = s.owed) :
    (t.changeEvent before).table = (s.changeEvent before).table ∧ (t.changeEvent before).owed = (s.changeEvent before).owed := by
  unfold State.changeEvent
  simp only [htable, hlevels, hlive, htakes, howed]
  split
  · exact ⟨htable, howed⟩
  · exact ⟨rfl, rfl⟩

/-! ### SET FLAGS and CLEAR LATCHES -/

/-- The change event of the levels that `y` moves, and the answer of the signal commands. -/
def State.signalAnswer (s y : State) : State :=
  (y.changeEvent s.levels).complete .ok 0 (some (y.changeEvent s.levels).signalRecord)

section
variable {s : State}

/-- The flags as SET FLAGS moves them. -/
def State.flagged (s : State) : State := { s with flags := newFlags s.flags (byteOf (s.input 0)) (byteOf (s.input 1)) }

/-- The latches as CLEAR LATCHES leaves them. -/
def State.unlatched (s : State) : State := s.clearLatches (byteOf (s.input 0))

theorem exec_setFlags (h : s.inProgress 0x40 = true) : exec .setFlags s = .next (s.signalAnswer s.flagged) := by
  show done (onCompletion 0x40 _ s) = _
  rw [onCompletion_taken _ _ _ h]
  rfl

theorem exec_clearLatches (h : s.inProgress 0x41 = true) : exec .clearLatches s = .next (s.signalAnswer s.unlatched) := by
  show done (onCompletion 0x41 _ s) = _
  rw [onCompletion_taken _ _ _ h]
  rfl

theorem newFlags_bit {flags value mask : SensorSet} {i : Nat} (hi : i < 8) :
    (newFlags flags value mask).getLsbD i = if mask.getLsbD i then value.getLsbD i else flags.getLsbD i := by
  unfold newFlags
  simp only [BitVec.getLsbD_or, BitVec.getLsbD_and, BitVec.getLsbD_not, hi, decide_true, Bool.true_and]
  cases mask.getLsbD i <;> simp

theorem getLsbD_byteOf {n i : Nat} (hi : i < 8) : (byteOf n).getLsbD i = n.testBit i := by
  rw [← BitVec.testBit_toNat, testBit_byteOf, decide_eq_true hi, Bool.true_and]

/-- Table 3 of Chapter 11: the signal record byte by byte. -/
theorem State.showsSignals_of_shows {s t : State} (h : t.shows s.signalRecord) : s.showsSignals t := by
  refine ⟨?_, fun k => ⟨?_, ?_⟩, fun k hlo hhi => State.byte_beyond h hlo (by omega)⟩
  · rw [State.byte_of_shows h (by decide), State.byte_of_shows h (by decide)]
    exact (byteAt_zero_add_byteAt_one _).trans (Nat.mod_eq_of_lt s.levels.isLt)
  · rw [State.byte_of_shows h (by decide)]
    have hbit := getLsbD_bitsOf 8 (fun i => if h : i < 8 then s.sensors[i].accepted else false) k.val
    simp only [k.isLt, decide_true, Bool.true_and, dite_true] at hbit
    exact (BitVec.testBit_toNat _).trans hbit
  · rw [State.byte_of_shows h (by decide)]
    have hbit := getLsbD_bitsOf 8 (fun i => if h : i < 8 then s.sensors[i].latch else false) k.val
    simp only [k.isLt, decide_true, Bool.true_and, dite_true] at hbit
    exact (BitVec.testBit_toNat _).trans hbit

theorem State.changeEvent_stores {before : Levels} {n : EntryIx} {e e' : Entry} (he : s.table[n] = some e)
    (he' : (s.changeEvent before).table[n] = some e') (h : s.levels ≠ before) :
    e'.storedPattern = e.defn.patternValue s.levels (before ^^^ s.levels)
      ∧ e'.storedPermit = e.defn.permitValue s.levels (before ^^^ s.levels) := by
  have hchanged : before ^^^ s.levels ≠ 0 := fun hzero => h (BitVec.xor_eq_zero_iff.mp hzero).symm
  rw [State.changeEvent_table, if_neg hchanged, he] at he'
  obtain rfl := Option.some.inj he'
  exact ⟨rfl, rfl⟩

theorem State.changeEvent_levels (s : State) (before : Levels) : (s.changeEvent before).levels = s.levels :=
  State.levels_congr (State.changeEvent_flags s before) fun k => by rw [State.changeEvent_sensors]

theorem State.unlatched_sensor (s : State) (k : SensorIx) : s.unlatched.sensors[k]
    = if (s.input 0).testBit k.val then { s.sensors[k] with latch := false } else s.sensors[k] := by
  have hbit : s.unlatched.sensors[k] = { s.sensors[k] with latch := s.sensors[k].latch && !(byteOf (s.input 0)).getLsbD k.val } :=
    Vector.getElem_ofFn _
  rw [hbit, getLsbD_byteOf k.isLt]
  cases (s.input 0).testBit k.val <;> simp

/-- What a signal command leaves where `y` is the part with the signals moved. -/
theorem State.signalAnswer_row {y : State} (hy : y = { s with flags := y.flags, sensors := y.sensors }) :
    ((s.signalAnswer y).levels = s.levels → (s.signalAnswer y).table = s.table ∧ (s.signalAnswer y).owed = s.owed)
    ∧ (∀ (n : EntryIx) (e : Entry), s.table[n] = some e → ∃ e', (s.signalAnswer y).table[n] = some e'
        ∧ e' = { e with storedPattern := e'.storedPattern, storedPermit := e'.storedPermit }
        ∧ ((s.signalAnswer y).levels ≠ s.levels →
            e'.storedPattern = e.defn.patternValue (s.signalAnswer y).levels (s.levels ^^^ (s.signalAnswer y).levels)
            ∧ e'.storedPermit = e.defn.permitValue (s.signalAnswer y).levels (s.levels ^^^ (s.signalAnswer y).levels)))
    ∧ (s.signalAnswer y).owed.pulses = s.owed.pulses ∧ (s.signalAnswer y).owed.walks = s.owed.walks
    ∧ s.completes (s.signalAnswer y) .ok 0 ∧ (s.signalAnswer y).shows (s.signalAnswer y).signalRecord
    ∧ (s.signalAnswer y).showsSignals (s.signalAnswer y)
    ∧ s.signalAnswer y = { s with
        table := (s.signalAnswer y).table, owed := (s.signalAnswer y).owed, iface := (s.signalAnswer y).iface
        flags := (s.signalAnswer y).flags, sensors := (s.signalAnswer y).sensors } := by
  have htable : y.table = s.table := by rw [hy]
  have howed : y.owed = s.owed := by rw [hy]
  have hiface : (y.changeEvent s.levels).iface = s.iface := by rw [State.changeEvent_iface, hy]
  have hlevels : (s.signalAnswer y).levels = y.levels := State.changeEvent_levels y s.levels
  have hrecord : (s.signalAnswer y).shows (s.signalAnswer y).signalRecord := State.complete_shows (y.changeEvent s.levels) .ok 0 _
  have hanswer : s.signalAnswer y = { y.changeEvent s.levels with iface := (s.signalAnswer y).iface } := State.complete_frame _ _ _ _
  have hevent := State.changeEvent_owed y s.levels
  rw [howed] at hevent
  refine ⟨fun h => ?_, fun n e he => ?_, ?_, ?_, State.completes_of_iface hiface .ok 0 _, hrecord, State.showsSignals_of_shows hrecord, ?_⟩
  · rw [hlevels] at h
    rw [hanswer, State.changeEvent_of_eq h]
    exact ⟨htable, howed⟩
  · have he' : y.table[n] = some e := by rw [htable, he]
    obtain ⟨e', hslot, hframe⟩ := State.changeEvent_entry (before := s.levels) he'
    rw [hlevels]
    exact ⟨e', hslot, hframe, State.changeEvent_stores he' hslot⟩
  · rw [hanswer, hevent]
  · rw [hanswer, hevent]
  · have hframe := State.changeEvent_frame y s.levels
    generalize y.changeEvent s.levels = c at *
    generalize s.signalAnswer y = t at *
    rw [hanswer, hframe, hy]

end

/-- Settles O45: both commands answer the change event of the levels they move. -/
theorem signalCommandRows : Obligations.SignalCommandRows := by
  rintro s c (⟨rfl, h⟩ | ⟨rfl, h⟩)
  · refine ⟨s.signalAnswer s.flagged, exec_setFlags h, fun _ => ⟨?_, fun i hi => ?_⟩, nofun, State.signalAnswer_row rfl⟩
    · exact State.changeEvent_sensors s.flagged s.levels
    · have hflags : (s.signalAnswer s.flagged).flags = s.flagged.flags := State.changeEvent_flags s.flagged s.levels
      rw [hflags, ← getLsbD_byteOf hi, ← getLsbD_byteOf hi]
      exact newFlags_bit hi
  · refine ⟨s.signalAnswer s.unlatched, exec_clearLatches h, nofun, fun _ => ⟨?_, fun k => ?_⟩, State.signalAnswer_row rfl⟩
    · exact State.changeEvent_flags s.unlatched s.levels
    · have hsensors : (s.signalAnswer s.unlatched).sensors = s.unlatched.sensors := State.changeEvent_sensors s.unlatched s.levels
      rw [hsensors]
      exact s.unlatched_sensor k

/-! ### The sensors -/

/-- The sensor that accepts a level. -/
def State.acceptedSensor (s : State) (k : SensorIx) (level : Bool) : Sensor :=
  { s.sensors[k] with accepted := level, filter := none, latch := s.sensors[k].latch || (level && s.latchMode k) }

/-- The pulse edge of an acceptance. -/
def State.acceptedPulse (s : State) (k : SensorIx) (level : Bool) : List PulseEdge :=
  if !s.sensors[k].level && (s.acceptedSensor k level).level && s.takesArrivals then [{ sensor := k, reached := 0 }] else []

section
variable {s : State} {k : SensorIx} {level : Bool}

theorem State.accept_eq (s : State) (k : SensorIx) (level : Bool) : s.accept k level =
    { (s.putSensor k (s.acceptedSensor k level)).changeEvent s.levels with owed :=
        { ((s.putSensor k (s.acceptedSensor k level)).changeEvent s.levels).owed with
          pulses := s.owed.pulses ++ s.acceptedPulse k level } } := by
  have howed := State.changeEvent_owed (s.putSensor k (s.acceptedSensor k level)) s.levels
  rw [State.putSensor_owed] at howed
  have hpulses : ((s.putSensor k (s.acceptedSensor k level)).changeEvent s.levels).owed.pulses = s.owed.pulses := by rw [howed]
  unfold State.acceptedPulse
  show (if (!s.sensors[k].level && (s.acceptedSensor k level).level && s.takesArrivals) = true then _ else _) = _
  split
  · rw [← hpulses]; rfl
  · rw [List.append_nil, ← hpulses]; rfl

theorem State.accept_sensors (s : State) (k : SensorIx) (level : Bool) :
    (s.accept k level).sensors = (s.putSensor k (s.acceptedSensor k level)).sensors := by
  rw [State.accept_eq]; exact State.changeEvent_sensors _ _

theorem State.accept_table (s : State) (k : SensorIx) (level : Bool) :
    (s.accept k level).table = ((s.putSensor k (s.acceptedSensor k level)).changeEvent s.levels).table := by
  rw [State.accept_eq]

theorem State.accept_flags (s : State) (k : SensorIx) (level : Bool) : (s.accept k level).flags = s.flags := by
  rw [State.accept_frame]

theorem State.accept_levels (s : State) (k : SensorIx) (level : Bool) :
    (s.accept k level).levels = (s.putSensor k (s.acceptedSensor k level)).levels :=
  State.levels_congr ((s.accept_flags k level).trans (State.putSensor_flags s k _).symm) fun j => by rw [State.accept_sensors]

/-- R84, R95: what an acceptance leaves. -/
theorem State.accept_row (s : State) (k : SensorIx) (level : Bool) :
    (s.accept k level).sensors[k] = s.acceptedSensor k level
    ∧ ((s.accept k level).owed.pulses = if !s.sensors[k].level && (s.accept k level).sensors[k].level && s.takesArrivals
        then s.owed.pulses ++ [{ sensor := k, reached := 0 }] else s.owed.pulses)
    ∧ ((s.accept k level).levels = s.levels → (s.accept k level).table = s.table ∧ (s.accept k level).owed = s.owed)
    ∧ (∀ j : SensorIx, j ≠ k → (s.accept k level).sensors[j] = s.sensors[j])
    ∧ s.accept k level = { s with
        sensors := (s.accept k level).sensors, table := (s.accept k level).table, owed := (s.accept k level).owed } := by
  have hsensor : (s.accept k level).sensors[k] = s.acceptedSensor k level := by
    rw [State.accept_sensors]; exact State.putSensor_same s k _
  refine ⟨hsensor, ?_, fun h => ?_, fun j hj => ?_, State.accept_frame s k level⟩
  · rw [hsensor, State.accept_eq]
    show s.owed.pulses ++ s.acceptedPulse k level = _
    unfold State.acceptedPulse
    split
    · rfl
    · exact List.append_nil _
  · have hlevel : (s.acceptedSensor k level).level = s.sensors[k].level := by
      rw [← hsensor, ← State.levels_sensor, h, State.levels_sensor]
    have hnone : s.acceptedPulse k level = [] := by
      unfold State.acceptedPulse
      rw [hlevel]
      cases s.sensors[k].level <;> rfl
    rw [State.accept_levels] at h
    rw [State.accept_eq, State.changeEvent_of_eq h, hnone, List.append_nil]
    exact ⟨rfl, rfl⟩
  · rw [State.accept_sensors]; exact State.putSensor_other hj

/-! ### The watch of a pin -/

theorem State.watchPin_same (h : s.pinLevel k = s.sensors[k].accepted) : s.watchPin k = s.putSensor k { s.sensors[k] with filter := none } :=
  if_pos h

theorem State.watchPin_atOnce (h : s.pinLevel k ≠ s.sensors[k].accepted) (hzero : s.filterTime k = 0) :
    s.watchPin k = s.accept k (s.pinLevel k) :=
  (if_neg h).trans (if_pos hzero)

theorem State.watchPin_running (h : s.pinLevel k ≠ s.sensors[k].accepted) (htime : s.filterTime k ≠ 0)
    (hfilter : s.sensors[k].filter.isSome = true) : s.watchPin k = s :=
  (if_neg h).trans ((if_neg htime).trans (if_pos hfilter))

theorem State.watchPin_starts (h : s.pinLevel k ≠ s.sensors[k].accepted) (htime : s.filterTime k ≠ 0)
    (hfilter : s.sensors[k].filter = none) :
    s.watchPin k = s.putSensor k { s.sensors[k] with filter := some { candidate := s.pinLevel k, held := 0 } } := by
  refine (if_neg h).trans ((if_neg htime).trans (if_neg ?_))
  rw [hfilter]
  exact nofun

end

end Sys2Proof.Machine
end

section
/-! ## Sensors, and the events that change the signal levels (R83 to R97) -/
namespace Sys2Proof.Machine

/-! ### A pin takes a level -/

section
variable {s : State} {k : SensorIx} {level : Bool}

theorem State.setPin_eq (s : State) (k : SensorIx) (level : Bool) :
    s.setPin k level = { s with sensors := s.sensors.set k { s.sensors[k] with pin := level } } := rfl

theorem State.setPin_sensor : (s.setPin k level).sensors[k] = { s.sensors[k] with pin := level } := State.putSensor_same s k _

theorem State.setPin_other {j : SensorIx} (h : j ≠ k) : (s.setPin k level).sensors[j] = s.sensors[j] := State.putSensor_other h

theorem State.setPin_levels : (s.setPin k level).levels = s.levels := State.putSensor_levels rfl

theorem State.setPin_pinLevel : (s.setPin k level).pinLevel k = (level ^^ s.settings.sensorPolarity.getLsbD k.val) := by
  unfold State.pinLevel
  rw [State.setPin_sensor]
  rfl

theorem exec_sensorPinChange_watched (h : s.watchesPins = true) :
    exec (.sensorPinChange k level) s = .next ((s.setPin k level).watchPin k) := by
  refine congrArg Host.Outcome.next ?_
  exact if_pos h

theorem exec_sensorPinChange_unwatched (h : s.watchesPins = false) : exec (.sensorPinChange k level) s = .next (s.setPin k level) := by
  refine congrArg Host.Outcome.next ?_
  exact if_neg (Bool.eq_false_iff.mp h)

theorem exec_sensorAcceptance_watched (h : s.watchesPins = true) {f : FilterPeriod} (hf : s.sensors[k].filter = some f) :
    exec (.sensorAcceptance k) s = .next (s.accept k f.candidate) := by
  refine congrArg Host.Outcome.next ?_
  rw [hf]
  exact if_pos h

theorem exec_sensorAcceptance_unwatched (h : s.watchesPins = false) : exec (.sensorAcceptance k) s = .next s := by
  refine congrArg Host.Outcome.next ?_
  cases s.sensors[k].filter with
  | none => rfl
  | some f => exact if_neg (Bool.eq_false_iff.mp h)

/-! ### The filter time -/

theorem State.filterTime_eq (s : State) (k : SensorIx) :
    s.filterTime k = 32 * (match s.settings.filterCodes.toNat / 4 ^ k.val % 4 with
      | 0 => 0
      | 1 => 20
      | 2 => 100
      | _ => 500) := by
  unfold State.filterTime
  rw [Nat.shiftRight_eq_div_pow, Nat.pow_mul]
  show (match s.settings.filterCodes.toNat / 4 ^ k.val % 4 with
      | 0 => 0
      | 1 => 20 * cyclesPerMs
      | 2 => 100 * cyclesPerMs
      | _ => 500 * cyclesPerMs) = _
  split <;> rfl

theorem State.tickFilters_sensor (h : s.watchesPins = true) : s.tickFilters.sensors[k]
    = { s.sensors[k] with filter := s.sensors[k].filter.map fun f => { f with held := f.held + 1 } } := by
  unfold State.tickFilters
  rw [if_pos h]
  exact Vector.getElem_ofFn _

theorem State.tickSupply_sensors (s : State) : s.tickSupply.sensors = s.sensors := by
  unfold State.tickSupply
  split <;> rfl

theorem State.tick_sensor (h : s.watchesPins = true) : s.tick.sensors[k]
    = { s.sensors[k] with filter := s.sensors[k].filter.map fun f => { f with held := f.held + 1 } } := by
  have hpowered : s.powered = true := (Bool.and_eq_true_iff.mp h).1
  have hframe : s.timebaseFrame s.tickTimebase := s.tickTimebase_timebaseFrame
  unfold State.timebaseFrame at hframe
  have hwatches : s.tickTimebase.watchesPins = true := by rw [hframe]; exact h
  unfold State.tick
  rw [State.tickSupply_sensors, if_pos hpowered, State.tickFilters_sensor hwatches, hframe]

theorem State.mem_waitingAcceptances (h : s.watchesPins = true) :
    .sensorAcceptance k ∈ s.waitingAcceptances ↔ ∃ f, s.sensors[k].filter = some f ∧ s.filterTime k ≤ f.held := by
  unfold State.waitingAcceptances
  rw [if_pos h]
  simp only [List.mem_map, List.mem_filter, List.mem_finRange, true_and, Instr.sensorAcceptance.injEq, exists_eq_right]
  cases s.sensors[k].filter with
  | none => simp
  | some f => simp

/-- The acceptances alone name a sensor that accepts. -/
theorem State.mem_waiting_acceptance : .sensorAcceptance k ∈ s.waiting ↔ .sensorAcceptance k ∈ s.waitingAcceptances := by
  have hcompletion : .sensorAcceptance k ∉ s.waitingCompletion := fun h => nomatch State.mem_waitingCompletion h
  have hsecond : .sensorAcceptance k ∉ s.waitingSecond := by
    unfold State.waitingSecond
    split <;> simp
  have harrivals : .sensorAcceptance k ∉ s.waitingArrivals.filter s.nextTransition := by
    unfold State.waitingArrivals
    simp only [List.mem_filter, List.mem_append, List.mem_map, List.mem_eraseDups]
    rintro ⟨((⟨_, -, h⟩ | ⟨t, -, h⟩) | ⟨_, -, h⟩) | ⟨_, -, h⟩, -⟩
    · cases h
    · split at h <;> cases h
    · cases h
    · cases h
  have hwalk : .sensorAcceptance k ∉ s.waitingWalk := by
    unfold State.waitingWalk
    split <;> simp
  have htimebase : .sensorAcceptance k ∉ s.waitingTimebase := by
    unfold State.waitingTimebase
    split
    · simp only [List.mem_append]
      rintro (h | h)
      · split at h
        · cases h
        · split at h
          · split at h <;> simp at h
          · split at h <;> simp at h
        · split at h <;> simp at h
      · split at h <;> simp at h
    · simp
  have hsupply : .sensorAcceptance k ∉ s.waitingSupply := by
    unfold State.waitingSupply
    split
    · simp
    split
    · simp
    split <;> simp
  simp only [State.waiting, List.mem_append, hcompletion, hsecond, harrivals, hwalk, htimebase, hsupply, false_or, or_false]

end

/-- Settles O47: each branch of the watch of a pin, and the acceptance. -/
theorem sensorRows : Obligations.SensorRows := by
  refine ⟨fun s k level h => ⟨exec_sensorPinChange_unwatched h, exec_sensorAcceptance_unwatched h⟩, fun s k hwatched =>
    ⟨⟨s.filterTime_eq k, State.tick_sensor hwatched, State.mem_waiting_acceptance.trans (State.mem_waitingAcceptances hwatched)⟩,
      fun level => ?_, fun f hf => ⟨_, exec_sensorAcceptance_watched hwatched hf, State.accept_row s k f.candidate⟩⟩⟩
  have hsensor : (s.setPin k level).sensors[k] = { s.sensors[k] with pin := level } := State.setPin_sensor
  have hpin : (s.setPin k level).pinLevel k = (level ^^ s.settings.sensorPolarity.getLsbD k.val) := State.setPin_pinLevel
  have hframe := (s.setPin k level).watchPin_frame k
  refine ⟨(s.setPin k level).watchPin k, exec_sensorPinChange_watched hwatched, ?_⟩
  by_cases hsame : (s.setPin k level).pinLevel k = (s.setPin k level).sensors[k].accepted
  · have heq := State.watchPin_same hsame
    have htook : ((s.setPin k level).watchPin k).sensors[k] = { s.sensors[k] with pin := level, filter := none } := by
      rw [heq, State.putSensor_same, hsensor]
    rw [hpin, hsensor] at hsame
    refine ⟨by rw [htook], fun _ => ⟨htook, by rw [heq]; rfl, by rw [heq]; rfl⟩, fun h => absurd hsame h, fun h => absurd hsame h,
      fun h => absurd hsame h, fun j hj => ?_, hframe⟩
    rw [heq, State.putSensor_other hj, State.setPin_other hj]
  · have hdiffers : (level ^^ s.settings.sensorPolarity.getLsbD k.val) ≠ s.sensors[k].accepted := by rwa [hpin, hsensor] at hsame
    have hcandidate : (s.setPin k level).pinLevel k = !s.sensors[k].accepted := by rw [hpin]; exact Bool.eq_not.mpr hdiffers
    by_cases hzero : s.filterTime k = 0
    · have heq := State.watchPin_atOnce hsame hzero
      rw [hcandidate] at heq
      obtain ⟨htook, hpulses, hquiet, hothers, -⟩ := (s.setPin k level).accept_row k (!s.sensors[k].accepted)
      rw [← heq] at htook hpulses hquiet hothers
      rw [State.acceptedSensor, hsensor] at htook
      rw [hsensor] at hpulses
      refine ⟨by rw [htook], fun h => absurd h hdiffers, fun _ h => absurd hzero h, fun _ h => absurd hzero h, fun _ _ =>
        ⟨htook, hpulses, fun h => hquiet (h.trans State.setPin_levels.symm)⟩, fun j hj => ?_, hframe⟩
      rw [hothers j hj, State.setPin_other hj]
    · by_cases hrunning : s.sensors[k].filter.isSome = true
      · have heq := State.watchPin_running hsame hzero (by rw [hsensor]; exact hrunning)
        rw [heq] at hframe ⊢
        refine ⟨by rw [hsensor], fun h => absurd h hdiffers, fun _ _ h => ?_, fun _ _ _ => hsensor, fun _ h => absurd h hzero,
          fun j hj => State.setPin_other hj, hframe⟩
        rw [h] at hrunning
        exact nomatch hrunning
      · have hnone : s.sensors[k].filter = none := Option.not_isSome_iff_eq_none.mp hrunning
        have heq := State.watchPin_starts hsame hzero (by rw [hsensor]; exact hnone)
        rw [hcandidate] at heq
        have htook : ((s.setPin k level).watchPin k).sensors[k]
            = { s.sensors[k] with pin := level, filter := some { candidate := !s.sensors[k].accepted, held := 0 } } := by
          rw [heq, State.putSensor_same, hsensor]
        refine ⟨by rw [htook], fun h => absurd h hdiffers, fun _ _ _ => ⟨htook, by rw [heq]; rfl, by rw [heq]; rfl⟩,
          fun _ _ h => absurd h hrunning, fun _ h => absurd h hzero, fun j hj => ?_, hframe⟩
        rw [heq, State.putSensor_other hj, State.setPin_other hj]

/-! ### The change event of each row that moves a level -/

/-- `t` is left by one change event of the levels of `y`, from the levels of `s`; pulse edges and walks aside. -/
structure State.Signalled (s y t : State) : Prop where
  table : t.table = (y.changeEvent s.levels).table
  owed : t.owed = { (y.changeEvent s.levels).owed with pulses := t.owed.pulses, walks := t.owed.walks }

section
variable {s y t : State} {k : SensorIx}

theorem State.Signalled.congr {x : State} (h : s.Signalled x t) (htable : y.table = x.table) (hlevels : y.levels = x.levels)
    (hlive : y.isLive = x.isLive) (htakes : y.takesArrivals = x.takesArrivals) (howed : y.owed = x.owed) : s.Signalled y t := by
  obtain ⟨heventTable, heventOwed⟩ := State.changeEvent_congr (before := s.levels) htable hlevels hlive htakes howed
  exact ⟨h.table.trans heventTable.symm, heventOwed ▸ h.owed⟩

/-- Where no level moves, nothing is handed on. -/
theorem State.Signalled.of_same (hlevels : t.levels = s.levels) : s.Signalled t t where
  table := by rw [State.changeEvent_of_eq hlevels]
  owed := by rw [State.changeEvent_of_eq hlevels]

theorem State.accept_signalled (s : State) (k : SensorIx) (level : Bool) :
    s.Signalled (s.putSensor k (s.acceptedSensor k level)) (s.accept k level) where
  table := State.accept_table s k level
  owed := by rw [State.accept_eq]

/-- The part with the signals of another. -/
def State.withSignals (s t : State) : State := { s with flags := t.flags, sensors := t.sensors, site := t.site }

theorem State.withSignals_levels : (s.withSignals t).levels = t.levels := State.levels_congr rfl fun _ => rfl

theorem State.signalAnswer_signalled (hy : y = { s with flags := y.flags, sensors := y.sensors }) :
    s.Signalled (s.withSignals (s.signalAnswer y)) (s.signalAnswer y) := by
  have hanswer : (s.signalAnswer y).table = (y.changeEvent s.levels).table ∧ (s.signalAnswer y).owed = (y.changeEvent s.levels).owed :=
    ⟨rfl, rfl⟩
  have hevent : s.Signalled y (s.signalAnswer y) := ⟨hanswer.1, by rw [hanswer.2]⟩
  have hlevels : (s.signalAnswer y).levels = y.levels := State.changeEvent_levels y s.levels
  refine hevent.congr ?_ (State.withSignals_levels.trans hlevels) ?_ ?_ ?_
  · rw [hy]; rfl
  · rw [hy]; rfl
  · rw [hy]; rfl
  · rw [hy]; rfl

theorem State.watchPin_signalled (s : State) (k : SensorIx) : s.Signalled (s.withSignals (s.watchPin k)) (s.watchPin k) := by
  have hquiet {x : Sensor} (h : x.level = s.sensors[k].level) :
      s.Signalled (s.withSignals (s.putSensor k x)) (s.putSensor k x) :=
    (State.Signalled.of_same (State.putSensor_levels h)).congr rfl State.withSignals_levels rfl rfl rfl
  by_cases hsame : s.pinLevel k = s.sensors[k].accepted
  · rw [State.watchPin_same hsame]
    exact hquiet rfl
  by_cases hzero : s.filterTime k = 0
  · rw [State.watchPin_atOnce hsame hzero]
    exact (State.accept_signalled s k _).congr rfl (State.withSignals_levels.trans (State.accept_levels s k _)) rfl rfl rfl
  cases hfilter : s.sensors[k].filter with
  | some f =>
    rw [State.watchPin_running hsame hzero (by rw [hfilter]; rfl)]
    exact State.Signalled.of_same rfl
  | none =>
    rw [State.watchPin_starts hsame hzero hfilter]
    exact hquiet rfl

theorem State.accept_walks (s : State) (k : SensorIx) (level : Bool) : (s.accept k level).owed.walks = s.owed.walks := by
  rw [State.accept_eq, State.changeEvent_owed, State.putSensor_owed]

theorem State.watchPin_walks (s : State) (k : SensorIx) : (s.watchPin k).owed.walks = s.owed.walks := by
  unfold State.watchPin
  simp only
  split
  · rfl
  split
  · exact State.accept_walks s k _
  split <;> rfl

theorem State.configure_signalled (c : SiteConfig) (o : Option (List Byte)) :
    s.Signalled (s.withSignals ((s.configure c).complete .ok 0 o)) ((s.configure c).complete .ok 0 o) := by
  have hflags : (s.configure c).flags = s.flags := by rw [State.configure_eq]; exact State.changeEvent_flags (s.configuredAfresh c) _
  have hsensors : (s.configure c).sensors = (s.configuredAfresh c).sensors := by
    rw [State.configure_eq]; exact State.changeEvent_sensors (s.configuredAfresh c) _
  have hlevels : ((s.configure c).complete .ok 0 o).levels = (s.configuredAfresh c).levels :=
    State.levels_congr hflags fun k => by rw [State.complete_sensors, hsensors]
  have hevent : s.Signalled (s.configuredAfresh c) ((s.configure c).complete .ok 0 o) := by
    refine ⟨(State.complete_table _ _ _ _).trans State.configure_table, ?_⟩
    rw [State.complete_owed, State.configure_eq]
    rfl
  exact hevent.congr rfl (State.withSignals_levels.trans hlevels) rfl rfl rfl

end

theorem wakeEvent_signalled {order : ReturnOrder} {f : State → State} (hf : f ∈ wakeEvents order.sensors) (u : State) :
    (f u).table = (({ u with sensors := (f u).sensors } : State).changeEvent u.levels).table
      ∧ (f u).owed = { (({ u with sensors := (f u).sensors } : State).changeEvent u.levels).owed with pulses := (f u).owed.pulses } := by
  rw [wakeEvents, List.mem_cons, List.mem_map] at hf
  rcases hf with rfl | ⟨k, -, rfl⟩
  · have hsensors : ((u.clearAllLatches).changeEvent u.levels).sensors = u.clearAllLatches.sensors := State.changeEvent_sensors _ _
    rw [hsensors]
    exact ⟨rfl, rfl⟩
  · have hframe := u.watchPin_frame k
    have hevent := u.watchPin_signalled k
    have hmoved : u.withSignals (u.watchPin k) = { u with sensors := (u.watchPin k).sensors } := by rw [State.withSignals, hframe]
    have hwalks := u.watchPin_walks k
    rw [hmoved] at hevent
    refine ⟨hevent.table, hevent.owed.trans ?_⟩
    rw [hwalks, State.changeEvent_owed]

/-! ### The change event of a release -/

theorem State.transitionsOf_congr {s t : State} {changed : Levels} (hlevels : t.levels = s.levels)
    (h : ∀ n : EntryIx, (t.table[n]).map (fun e => (e.defn, e.storedPermit)) = (s.table[n]).map fun e => (e.defn, e.storedPermit)) :
    t.transitionsOf changed = s.transitionsOf changed := by
  have hslot (u : State) (n : EntryIx) :
      ((u.table[n].map fun e => (n, e)).bind fun x => (x.2.transitionAt u.levels changed).map fun v =>
        ({ entry := x.1, value := v } : PermitTransition))
      = ((u.table[n]).map fun e => (e.defn, e.storedPermit)).bind fun x =>
          (match x.2, x.1.permitValue u.levels changed with
            | some old, some new => if old = new then none else some new
            | _, _ => none).map fun v => { entry := n, value := v } := by
    cases u.table[n] <;> rfl
  unfold State.transitionsOf State.occupied
  simp only [List.filterMap_filterMap]
  refine List.filterMap_congr fun n _ => ?_
  exact ((hslot t n).trans (by rw [h n, hlevels])).trans (hslot s n).symm

section
variable {s : State}

/-- The part under a release when its active entries are interrupted. -/
def State.interrupted (s : State) : State := ((s.setMode .suspended).dropArrivals.resolveActive .interrupted).state

/-- The zones, the lock and the signals as a release leaves them, before its change event. -/
def State.cleared (s : State) : State := ({ s with zones := allFree, flags := 0 } : State).unhold.unlock.clearAllLatches

theorem State.interrupted_frame (s : State) : s.interrupted = { s with
    table := s.interrupted.table, zones := s.interrupted.zones, owed := s.dropArrivals.owed
    engine := { s.engine with mode := .suspended } } := by
  have h : s.interrupted = { (s.setMode .suspended).dropArrivals with
      table := s.interrupted.table, zones := s.interrupted.zones } := State.apply_frame _ _
  generalize s.interrupted = t at *
  exact h

theorem State.interrupted_slot (s : State) (n : EntryIx) : s.interrupted.table[n]
    = (s.table[n]).map fun e => if e.phase.isActive then e.settled .interrupted .armed else e := by
  have hidle : (s.setMode .suspended).dropArrivals.view.live = false :=
    State.view_live_of_mode (show Mode.suspended ≠ .live by decide)
  rw [State.interrupted, State.resolveActive, State.apply_table]
  refine congrArg (fun f => (s.table[n]).map f) (funext fun e => ?_)
  split
  · refine (Entry.settle_passed (s := (s.setMode .suspended).dropArrivals) fun h => ?_).1
    exact Bool.false_ne_true (hidle.symm.trans h.2.1)
  · rfl

theorem State.clearSignals_of_levels {x : State} (h : x.levels = s.levels) :
    ({ x with zones := allFree } : State).unhold.unlock.clearSignals = x.cleared.changeEvent s.levels := by
  have hlevels : (({ x with zones := allFree } : State).unhold.unlock).levels = s.levels := h
  unfold State.clearSignals
  rw [hlevels]
  rfl

theorem State.interrupted_levels (s : State) : s.interrupted.levels = s.levels := by
  have h := s.interrupted_frame
  generalize s.interrupted = t at *
  refine State.levels_congr ?_ fun k => ?_ <;> rw [h]

theorem State.release_eq (s : State) : s.release = (s.interrupted.cleared.changeEvent s.levels).clearNotices.freshInterface := by
  rw [← State.clearSignals_of_levels s.interrupted_levels]
  rfl

/-- The part that a release makes its change event of. -/
def State.releaseBase (s : State) : State := s.interrupted.cleared

theorem State.releaseBase_frame (s : State) : s.releaseBase = { s with
    table := s.releaseBase.table, owed := s.dropArrivals.owed, zones := allFree, flags := 0
    engine := { s.engine with mode := .suspended, held := false }, site := { s.site with lock := false }
    sensors := Vector.ofFn fun k => { s.sensors[k] with latch := false } } := by
  have h := s.interrupted_frame
  unfold State.releaseBase
  generalize s.interrupted = t at *
  rw [h]
  rfl

theorem State.releaseBase_slot (s : State) (n : EntryIx) : s.releaseBase.table[n]
    = (s.table[n]).map fun e => if e.phase.isActive then e.settled .interrupted .armed else e := s.interrupted_slot n

theorem State.release_of_base (s : State) : s.release = (s.releaseBase.changeEvent s.levels).clearNotices.freshInterface := s.release_eq

theorem State.clearNotices_slot (s : State) (n : EntryIx) : s.clearNotices.table[n] = (s.table[n]).map fun e => { e with pending := 0 } :=
  Vector.getElem_ofFn _

theorem State.release_slot (s : State) (n : EntryIx) :
    s.release.table[n] = ((s.releaseBase.changeEvent s.levels).table[n]).map fun e => { e with pending := 0 } := by
  rw [State.release_of_base, State.freshInterface_table, State.clearNotices_slot]

/-- The clearing of the notices and the interface leaves the signals and what is on its way. -/
theorem State.clearNotices_freshInterface (t : State) : t.clearNotices.freshInterface.flags = t.flags
    ∧ t.clearNotices.freshInterface.sensors = t.sensors ∧ t.clearNotices.freshInterface.owed = t.owed := by
  rw [State.freshInterface_flags, State.freshInterface_sensors, State.freshInterface_owed, State.clearNotices_frame]
  exact ⟨rfl, rfl, rfl⟩

theorem State.release_flags (s : State) : s.release.flags = 0 :=
  calc s.release.flags = (s.releaseBase.changeEvent s.levels).clearNotices.freshInterface.flags := congrArg State.flags s.release_of_base
    _ = (s.releaseBase.changeEvent s.levels).flags := (State.clearNotices_freshInterface _).1
    _ = s.releaseBase.flags := State.changeEvent_flags _ _
    _ = 0 := congrArg State.flags s.releaseBase_frame

theorem State.release_sensors (s : State) : s.release.sensors = Vector.ofFn fun k => { s.sensors[k] with latch := false } :=
  calc s.release.sensors = (s.releaseBase.changeEvent s.levels).clearNotices.freshInterface.sensors :=
        congrArg State.sensors s.release_of_base
    _ = (s.releaseBase.changeEvent s.levels).sensors := (State.clearNotices_freshInterface _).2.1
    _ = s.releaseBase.sensors := State.changeEvent_sensors _ _
    _ = _ := congrArg State.sensors s.releaseBase_frame

theorem State.release_owed (s : State) : s.release.owed = (s.releaseBase.changeEvent s.levels).owed :=
  (congrArg State.owed s.release_of_base).trans (State.clearNotices_freshInterface _).2.2

/-- The stored values of the slot of a release are those of its change event made of the table as it was. -/
theorem State.release_signalled {y : State} (hy : y = { s with
      flags := s.release.flags, sensors := s.release.sensors, engine := s.release.engine, owed := s.dropArrivals.owed }) :
    s.release.owed = (y.changeEvent s.levels).owed
    ∧ ∀ n : EntryIx, (s.release.table[n]).map (fun e => (e.storedPattern, e.storedPermit))
        = ((y.changeEvent s.levels).table[n]).map fun e => (e.storedPattern, e.storedPermit) := by
  rw [State.release_flags, State.release_sensors, State.release_engine] at hy
  have hslot (n : EntryIx) : s.releaseBase.table[n] = (s.table[n]).map fun e => if e.phase.isActive then e.settled .interrupted .armed else e :=
    s.releaseBase_slot n
  have hbase := s.releaseBase_frame
  rw [State.release_owed]
  have hrelease (n : EntryIx) := s.release_slot n
  generalize s.releaseBase = b at *
  have htable (n : EntryIx) : y.table[n] = s.table[n] := by rw [hy]
  have hlevels : b.levels = y.levels := by rw [hbase, hy]; rfl
  have hlive : b.isLive = false ∧ y.isLive = false := by
    rw [hbase, hy]; exact ⟨by simp [State.isLive], by simp [State.isLive]⟩
  have htakes : b.takesArrivals = y.takesArrivals := by rw [hbase, hy]; rfl
  have howed : b.owed = y.owed := by rw [hbase, hy]
  have hstored (e : Entry) : (if e.phase.isActive then e.settled .interrupted .armed else e).defn = e.defn
      ∧ (if e.phase.isActive then e.settled .interrupted .armed else e).storedPermit = e.storedPermit
      ∧ (if e.phase.isActive then e.settled .interrupted .armed else e).storedPattern = e.storedPattern := by
    split <;> exact ⟨rfl, rfl, rfl⟩
  by_cases hchanged : s.levels ^^^ y.levels = 0
  · rw [State.changeEvent_of_none (s := y) hchanged, State.changeEvent_of_none (s := b) (by rw [hlevels]; exact hchanged)] at *
    refine ⟨howed, fun n => ?_⟩
    rw [hrelease, hslot, htable, Option.map_map, Option.map_map]
    refine congrArg (fun f => (s.table[n]).map f) (funext fun e => ?_)
    obtain ⟨-, hpermit, hpattern⟩ := hstored e
    exact Prod.ext hpattern hpermit
  · refine ⟨?_, fun n => ?_⟩
    · have htransitions : b.transitionsOf (s.levels ^^^ y.levels) = y.transitionsOf (s.levels ^^^ y.levels) := by
        refine State.transitionsOf_congr hlevels fun n => ?_
        rw [hslot, htable, Option.map_map]
        refine congrArg (fun f => (s.table[n]).map f) (funext fun e => ?_)
        obtain ⟨hdefn, hpermit, -⟩ := hstored e
        exact Prod.ext hdefn hpermit
      rw [State.changeEvent_of_change hchanged, State.changeEvent_of_change (s := b) (by rwa [hlevels]), hlive.1, hlive.2, htakes, howed,
        hlevels, htransitions]
      rfl
    · rw [hrelease, State.changeEvent_table, State.changeEvent_table, if_neg hchanged, hlevels, if_neg hchanged, hslot, htable,
        Option.map_map, Option.map_map, Option.map_map, Option.map_map]
      refine congrArg (fun f => (s.table[n]).map f) (funext fun e => ?_)
      obtain ⟨hdefn, -, -⟩ := hstored e
      exact Prod.ext (by simp only [Function.comp_apply, Entry.storeAt, hdefn]) (by simp only [Function.comp_apply, Entry.storeAt, hdefn])

end

theorem exec_resetRelease_held {s : State} (hp : s.powered = true) (hmain : s.supply.condition = .main) (hheld : s.engine.held = true) :
    exec .resetRelease s = .next (s.setResetLine false).release := by
  refine congrArg Host.Outcome.next ?_
  refine if_pos ?_
  rw [hp, hmain, hheld]
  rfl

/-- Settles O46: the change event is described by the lists it hands on, and each row that moves a level is shown to be one. -/
theorem changeEventDelivers : Obligations.ChangeEventDelivers := by
  refine ⟨fun s k => ⟨?_, s.levels_flag k⟩, fun sp levels changed i => specHolds_iff, fun p levels changed =>
    ⟨Pattern.satisfied_all, Pattern.satisfied_any, Pattern.hasTransition_iff⟩, fun d levels changed =>
    ⟨Definition.hasPermit_iff, Definition.permitHolds_iff, Definition.isLevel_iff d, Definition.patternValue_eq d levels changed, rfl⟩,
    fun y before changed hchanged => ⟨fun h => State.changeEvent_of_none (hchanged ▸ h), fun h => ?event⟩, fun s c hrow => ?rows,
    fun s hp hmain hheld => ?release, fun order f u hf => ⟨_, rfl, wakeEvent_signalled hf u⟩⟩
  · rw [State.levels_sensor, Sensor.level, Bool.or_comm]
  case event =>
    subst hchanged
    have hevent := State.changeEvent_of_change h
    refine ⟨_, _, y.changeEvent before, rfl, hevent, fun n => ?_, fun hlive => ?_, fun hlive x => ?_, fun htakes => ?_, fun htakes x => ?_⟩
    · rw [State.changeEvent_table, if_neg h]
      rfl
    · rw [hlive]; rfl
    · rw [hlive, if_pos rfl, State.mem_triggersOf]
      exact and_congr_right fun _ => exists_congr fun e => and_congr_right fun _ => Entry.triggeredAt_iff
    · rw [htakes]; rfl
    · rw [htakes, if_pos rfl, State.mem_transitionsOf]
      simp only [Entry.transitionAt_iff, exists_and_left]
  case rows =>
    have hfinish {t : State} (hexec : exec c s = .next t) (h : s.Signalled (s.withSignals t) t) :
        ∃ t y, exec c s = .next t ∧ y = { s with flags := t.flags, sensors := t.sensors, site := t.site }
          ∧ t.table = (y.changeEvent s.levels).table
          ∧ t.owed = { (y.changeEvent s.levels).owed with pulses := t.owed.pulses, walks := t.owed.walks } :=
      ⟨t, _, hexec, rfl, h.table, h.owed⟩
    rcases hrow with ⟨rfl, h⟩ | ⟨rfl, h⟩ | ⟨k, level, rfl, h⟩ | ⟨k, rfl, h, hfilter⟩ | ⟨rfl, h, hmode, hlock, hchecks⟩
    · exact hfinish (exec_setFlags h) (State.signalAnswer_signalled rfl)
    · exact hfinish (exec_clearLatches h) (State.signalAnswer_signalled rfl)
    · have hpin := (s.setPin k level).watchPin_signalled k
      refine hfinish (exec_sensorPinChange_watched h) (State.Signalled.congr (x := (s.setPin k level).withSignals _) ?_ rfl rfl rfl rfl rfl)
      exact ⟨State.setPin_levels (s := s) ▸ hpin.table, State.setPin_levels (s := s) ▸ hpin.owed⟩
    · obtain ⟨f, hf⟩ := Option.isSome_iff_exists.mp hfilter
      exact hfinish (exec_sensorAcceptance_watched h hf) ((State.accept_signalled s k _).congr rfl
        (State.withSignals_levels.trans (State.accept_levels s k _)) rfl rfl rfl)
    · refine hfinish (exec_configure h) ?_
      rw [State.configureAnswer_taken hmode hlock ((configChecks_spec s.input).1.mp hchecks)]
      exact State.configure_signalled _ _
  case release =>
    obtain ⟨howed, hstored⟩ := State.release_signalled (s := s.setResetLine false) rfl
    have hexec := exec_resetRelease_held hp hmain hheld
    generalize (s.setResetLine false).release = r at *
    obtain ⟨htable, howed'⟩ := State.changeEvent_congr (before := s.levels)
      (s := { s with flags := r.flags, sensors := r.sensors, engine := r.engine, owed := s.dropArrivals.owed })
      (t := { s.setResetLine false with flags := r.flags, sensors := r.sensors, engine := r.engine, owed := s.dropArrivals.owed })
      rfl rfl rfl rfl rfl
    refine ⟨r, _, hexec, rfl, howed.trans howed', fun n => (hstored n).trans ?_⟩
    exact congrArg (fun table : Vector (Option Entry) 48 => (table[n]).map fun e => (e.storedPattern, e.storedPermit)) htable

end Sys2Proof.Machine
end

section
/-! ## The RESET line and the zone outputs (R117, R148, R149) -/
namespace Sys2Proof.Machine

section
variable {s : State} {z : ZoneIx}

theorem State.isLive_iff : s.isLive = true ↔ s.engine.mode = .live ∧ s.engine.held = false ∧ s.powered = true := by
  simp only [State.isLive, Bool.and_eq_true, beq_iff_eq, Bool.not_eq_true', and_assoc]

theorem State.takesArrivals_iff : s.takesArrivals = true ↔ s.powered = true ∧ s.engine.held = false := by
  simp only [State.takesArrivals, Bool.and_eq_true, Bool.not_eq_true']

theorem State.busHeard_iff : s.busHeard = true ↔ s.powered = true ∧ s.engine.held = false ∧ s.supply.condition = .main := by
  simp only [State.busHeard, Bool.and_eq_true, beq_iff_eq, Bool.not_eq_true', and_assoc]

theorem State.watchesPins_iff : s.watchesPins = true ↔ s.powered = true ∧ s.supply.condition = .main := by
  simp only [State.watchesPins, Bool.and_eq_true, beq_iff_eq]

theorem Zone.energised_iff {z : Zone} : z.energised = true ↔ (∃ n, z = .ownedOn n) ∨ z = .manualOn := by
  cases z <;> simp [Zone.energised]

theorem State.zoneOutput_main (hp : s.powered = true) (hmain : s.supply.condition = .main) : s.zoneOutput z =
    if (s.zones[z].energised && !s.engine.held) ^^ s.settings.zonePolarity.getLsbD z.val then .high else .low := by
  unfold State.zoneOutput
  rw [hp, hmain]
  rfl

theorem State.zoneOutput_active (hp : s.powered = true) (hmain : s.supply.condition = .main) (hheld : s.engine.held = false)
    (hzone : (∃ n, s.zones[z] = .ownedOn n) ∨ s.zones[z] = .manualOn) :
    s.zoneOutput z = if s.settings.zonePolarity.getLsbD z.val then .low else .high := by
  rw [State.zoneOutput_main hp hmain, hheld, Zone.energised_iff.mpr hzone]
  cases s.settings.zonePolarity.getLsbD z.val <;> rfl

theorem State.zoneOutput_inactive (hp : s.powered = true) (hmain : s.supply.condition = .main)
    (hzone : s.engine.held = true ∨ ((∀ n, s.zones[z] ≠ .ownedOn n) ∧ s.zones[z] ≠ .manualOn)) :
    s.zoneOutput z = if s.settings.zonePolarity.getLsbD z.val then .high else .low := by
  have hoff : (s.zones[z].energised && !s.engine.held) = false := by
    rcases hzone with hheld | ⟨howned, hmanual⟩
    · rw [hheld, Bool.not_true, Bool.and_false]
    · rw [Bool.eq_false_iff.mpr fun h => (Zone.energised_iff.mp h).elim (fun ⟨n, hn⟩ => howned n hn) hmanual, Bool.false_and]
  rw [State.zoneOutput_main hp hmain, hoff, Bool.false_xor]

theorem State.zoneOutput_unpowered (h : s.powered = false ∨ s.supply.condition = .battery) : s.zoneOutput z = .highImpedance := by
  unfold State.zoneOutput
  rcases h with h | h <;> rw [h]
  · rfl
  · exact if_neg (by simp)

/-- The part under an assertion of RESET. -/
def State.asserted (s : State) : State := (s.setResetLine true).hold.dropArrivals.cutInterface

theorem exec_resetAssert_taken (hp : s.powered = true) (hmain : s.supply.condition = .main) (hheld : s.engine.held = false) :
    exec .resetAssert s = .next s.asserted := by
  refine congrArg Host.Outcome.next ?_
  refine if_pos ?_
  rw [hp, hmain, hheld]
  rfl

theorem exec_resetAssert_battery (h : s.supply.condition = .battery) : exec .resetAssert s = .next (s.setResetLine true) := by
  refine congrArg Host.Outcome.next ?_
  refine if_neg ?_
  rw [h]
  simp

theorem exec_resetRelease_battery (h : s.supply.condition = .battery) : exec .resetRelease s = .next (s.setResetLine false) := by
  refine congrArg Host.Outcome.next ?_
  refine if_neg ?_
  rw [h]
  simp

/-! ### What a release leaves -/

/-- R149: an active entry is interrupted, every notice is cleared, and the change event replaces the stored values. -/
theorem State.release_entry {n : EntryIx} {e : Entry} (he : s.table[n] = some e) : ∃ e', s.release.table[n] = some e'
    ∧ (e.phase.isActive = true → e' = { e with
        phase := .armed, lastOutcome := some .interrupted, pending := 0
        storedPattern := e'.storedPattern, storedPermit := e'.storedPermit })
    ∧ (e.phase.isActive = false → e' = { e with
        pending := 0, storedPattern := e'.storedPattern, storedPermit := e'.storedPermit }) := by
  have hbase : s.releaseBase.table[n] = some (if e.phase.isActive then e.settled .interrupted .armed else e) := by
    rw [State.releaseBase_slot, he, Option.map_some]
  obtain ⟨x, hx, hframe⟩ := State.changeEvent_entry (before := s.levels) hbase
  refine ⟨{ x with pending := 0 }, by rw [State.release_slot, hx, Option.map_some], fun h => ?_, fun h => ?_⟩
  · rw [if_pos h] at hframe
    rw [hframe]
    rfl
  · rw [h, if_neg Bool.false_ne_true] at hframe
    rw [hframe]

theorem State.release_empty {n : EntryIx} (he : s.table[n] = none) : s.release.table[n] = none := by
  have hbase : s.releaseBase.table[n] = none := by rw [State.releaseBase_slot, he, Option.map_none]
  rw [State.release_slot, State.changeEvent_empty hbase, Option.map_none]

theorem State.clearNotices_freshInterface_parts (t : State) : t.clearNotices.freshInterface.site = t.site
    ∧ t.clearNotices.freshInterface.device = 0 ∧ t.clearNotices.freshInterface.iface = Interface.fresh := by
  rw [State.freshInterface_site, State.freshInterface_device, State.freshInterface_iface, State.clearNotices_frame]
  exact ⟨rfl, rfl, rfl⟩

theorem State.release_site (s : State) : s.release.site = { s.site with lock := false } :=
  calc s.release.site = (s.releaseBase.changeEvent s.levels).clearNotices.freshInterface.site := congrArg State.site s.release_of_base
    _ = (s.releaseBase.changeEvent s.levels).site := (State.clearNotices_freshInterface_parts _).1
    _ = s.releaseBase.site := State.changeEvent_site _ _
    _ = _ := congrArg State.site s.releaseBase_frame

theorem State.release_device (s : State) : s.release.device = 0 :=
  (congrArg State.device s.release_of_base).trans (State.clearNotices_freshInterface_parts _).2.1

theorem State.release_iface (s : State) : s.release.iface = Interface.fresh :=
  (congrArg State.iface s.release_of_base).trans (State.clearNotices_freshInterface_parts _).2.2

theorem State.release_sensor (s : State) (k : SensorIx) : s.release.sensors[k] = { s.sensors[k] with latch := false } := by
  rw [State.release_sensors]
  exact Vector.getElem_ofFn _

theorem State.release_zone (s : State) (z : ZoneIx) : s.release.zones[z] = .free := by
  rw [State.release_zones]
  exact Vector.getElem_replicate _

theorem State.release_noNotice (s : State) : s.release.noticePending = false := by
  rw [Bool.eq_false_iff, Ne, State.noticePending_iff]
  rintro (h | ⟨n, x, hx, hpending⟩)
  · exact h s.release_device
  · rw [State.release_slot] at hx
    obtain ⟨_, -, rfl⟩ := Option.map_eq_some_iff.mp hx
    exact hpending rfl

end

/-- Settles O53: the outputs and the gates are read off their definitions, and the release is its change event between the interruption of the
active entries and the clearing of the notices. -/
theorem resetLineRows : Obligations.ResetLineRows := by
  refine ⟨fun s => ⟨State.isLive_iff, State.takesArrivals_iff, State.busHeard_iff, State.watchesPins_iff, rfl⟩,
    fun s z => ⟨fun hp hmain => ⟨State.zoneOutput_active hp hmain, State.zoneOutput_inactive hp hmain⟩, State.zoneOutput_unpowered⟩,
    fun s hp => ⟨fun hbattery => ⟨exec_resetAssert_battery hbattery, exec_resetRelease_battery hbattery⟩, fun hmain hheld => ?_,
      fun hmain hheld => ?_⟩⟩
  · refine ⟨s.asserted, exec_resetAssert_taken hp hmain hheld, rfl, ?_, ?_, fun z => ?_, rfl, rfl, rfl, rfl, rfl, rfl, rfl⟩
    · exact State.isLive_of_held rfl
    · exact State.busHeard_of_held rfl
    · exact State.zoneOutput_inactive (s := s.asserted) hp hmain (Or.inl rfl)
  · have hframe := (s.setResetLine false).release_releaseFrame
    unfold State.releaseFrame at hframe
    refine ⟨(s.setResetLine false).release, exec_resetRelease_held hp hmain hheld, State.release_engine _,
      fun n e he => State.release_entry he, fun n he => State.release_empty he, State.release_zone _, State.release_site _,
      State.release_flags _, State.release_sensor _, State.release_device _, State.release_noNotice _, State.release_iface _, ?_⟩
    generalize (s.setResetLine false).release = t at *
    exact hframe

end Sys2Proof.Machine
end

section
/-! ## The supply (R77, R125, R145 to R147) -/
namespace Sys2Proof.Machine

/-! ### The mains at the entry to BACKUP -/

section
variable {s : State}

/-- R77: the part after the fallback of an active mains source. -/
def State.fallen (s : State) : State := if s.timebase.active.isMains then s.fallback s.timebase.sincePrescaler else s

theorem State.fallen_mains (h : s.timebase.active.isMains = true) : s.fallen = s.fallback s.timebase.sincePrescaler := if_pos h

theorem State.fallen_other (h : s.timebase.active.isMains = false) : s.fallen = s := if_neg (Bool.eq_false_iff.mp h)

/-- The fallback abandons a candidate INTERNAL alone. -/
theorem State.fallen_selector (s : State) : s.fallen.timebase.selector
    = if s.timebase.active.isMains = true ∧ s.timebase.selector.candidate = some .internal then .steady else s.timebase.selector := by
  cases h : s.timebase.active.isMains with
  | true =>
    rw [State.fallen_mains h, State.fallback_selector]
    simp only [true_and]
  | false =>
    rw [State.fallen_other h]
    exact (if_neg (by simp)).symm

theorem State.fallen_device (s : State) : s.fallen.device = if s.timebase.active.isMains then s.device ||| noticeClockFault else s.device := by
  cases h : s.timebase.active.isMains with
  | true => rw [State.fallen_mains h]; rfl
  | false => rw [State.fallen_other h]; rfl

theorem State.loseMains_failed {c : Source} (h : s.fallen.timebase.selector.candidate = some c) (hc : c.isMains = true) :
    s.loseMains = s.fallen.failCandidate := by
  show (match s.fallen.timebase.selector.candidate with
    | some c => if c.isMains then s.fallen.failCandidate else s.fallen
    | none => s.fallen) = _
  rw [h]
  exact if_pos hc

theorem State.loseMains_kept (h : ∀ c, s.fallen.timebase.selector.candidate = some c → c.isMains = false) : s.loseMains = s.fallen := by
  show (match s.fallen.timebase.selector.candidate with
    | some c => if c.isMains then s.fallen.failCandidate else s.fallen
    | none => s.fallen) = _
  split
  · next c hc => exact if_neg (Bool.eq_false_iff.mp (h c hc))
  · rfl

/-- A mains candidate is none that the fallback abandons. -/
theorem State.fallen_mainsCandidate {c : Source} (hc : c.isMains = true) :
    s.fallen.timebase.selector.candidate = some c ↔ s.timebase.selector.candidate = some c := by
  rw [State.fallen_selector]
  split
  · next h =>
    rw [h.2]
    refine iff_of_false nofun fun h' => ?_
    rw [← Option.some.inj h'] at hc
    exact nomatch hc
  · rfl

/-- The two ways of the loss: a mains candidate fails, or there is none. -/
theorem State.loseMains_cases (s : State) :
    (∃ c, s.timebase.selector.candidate = some c ∧ c.isMains = true ∧ s.loseMains = s.fallen.failCandidate)
    ∨ ((∀ c, s.timebase.selector.candidate = some c → c.isMains = false) ∧ s.loseMains = s.fallen) := by
  by_cases h : ∃ c, s.timebase.selector.candidate = some c ∧ c.isMains = true
  · obtain ⟨c, hc, hmains⟩ := h
    exact Or.inl ⟨c, hc, hmains, State.loseMains_failed ((State.fallen_mainsCandidate hmains).mpr hc) hmains⟩
  · have hnone (c : Source) (hc : s.timebase.selector.candidate = some c) : c.isMains = false :=
      Bool.eq_false_iff.mpr fun hmains => h ⟨c, hc, hmains⟩
    refine Or.inr ⟨hnone, State.loseMains_kept fun c hc => Bool.eq_false_iff.mpr fun hmains => h ⟨c, ?_, hmains⟩⟩
    exact (State.fallen_mainsCandidate hmains).mp hc

/-- The failure of a candidate leaves the active source and its count. -/
theorem State.loseMains_active (s : State) : s.loseMains.timebase.active = s.fallen.timebase.active
    ∧ s.loseMains.timebase.prescaler = s.fallen.timebase.prescaler ∧ s.loseMains.owed = s.fallen.owed := by
  rcases s.loseMains_cases with ⟨c, -, -, h⟩ | ⟨-, h⟩ <;> rw [h] <;> exact ⟨rfl, rfl, rfl⟩

theorem State.loseMains_position (h : s.timebase.active.isMains = true) :
    s.loseMains.timebase.active = .internal ∧ s.loseMains.timebase.prescaler < 32000
    ∧ ∃ position : Nat,
      s.timebase.prescaler * 32000 < (position + 1) * s.timebase.active.divisor
        ∧ position * s.timebase.active.divisor < s.timebase.prescaler * 32000 + s.timebase.active.divisor
        ∧ s.owed.seconds ≤ s.loseMains.owed.seconds
        ∧ (s.loseMains.owed.seconds - s.owed.seconds) * 32000 + s.loseMains.timebase.prescaler = position + s.timebase.sincePrescaler := by
  obtain ⟨hactive, hprescaler, howed⟩ := s.loseMains_active
  rw [hactive, hprescaler, howed, State.fallen_mains h]
  obtain ⟨hle, hposition, hlt⟩ := State.fallback_position (s := s) s.timebase.sincePrescaler
  obtain ⟨hlow, hhigh⟩ := takenPosition_near s.timebase.prescaler s.timebase.active.divisor_pos
  exact ⟨rfl, hlt, _, hlow, hhigh, hle, hposition⟩

theorem State.loseMains_other (h : s.timebase.active.isMains = false) : s.loseMains.timebase.active = s.timebase.active
    ∧ s.loseMains.timebase.prescaler = s.timebase.prescaler ∧ s.loseMains.owed.seconds = s.owed.seconds := by
  obtain ⟨hactive, hprescaler, howed⟩ := s.loseMains_active
  rw [hactive, hprescaler, howed, State.fallen_other h]
  exact ⟨rfl, rfl, rfl⟩

theorem State.loseMains_steady {c : Source} (hc : s.timebase.selector.candidate = some c) (hmains : c.isMains = true) :
    s.loseMains.timebase.selector = .steady := by
  rw [State.loseMains_failed ((State.fallen_mainsCandidate hmains).mpr hc) hmains]
  rfl

theorem State.loseMains_selector (h : ∀ c, s.timebase.selector.candidate = some c → c.isMains = false) : s.loseMains.timebase.selector
    = if s.timebase.active.isMains = true ∧ s.timebase.selector.candidate = some .internal then .steady else s.timebase.selector := by
  rcases s.loseMains_cases with ⟨c, hc, hmains, -⟩ | ⟨-, heq⟩
  · exact nomatch hmains.symm.trans (h c hc)
  · rw [heq, State.fallen_selector]

theorem State.loseMains_nothing (ha : s.timebase.active.isMains = false)
    (hc : ∀ c, s.timebase.selector.candidate = some c → c.isMains = false) : s.loseMains = s := by
  rcases s.loseMains_cases with ⟨c, h, hmains, -⟩ | ⟨-, heq⟩
  · exact nomatch hmains.symm.trans (hc c h)
  · rw [heq, State.fallen_other ha]

theorem or_noticeClockFault_twice (d : DeviceSet) : d ||| noticeClockFault ||| noticeClockFault = d ||| noticeClockFault := by
  rw [BitVec.or_assoc, BitVec.or_self]

theorem State.loseMains_device
    (h : s.timebase.active.isMains = true ∨ ∃ c, s.timebase.selector.candidate = some c ∧ c.isMains = true) :
    s.loseMains.device = s.device ||| noticeClockFault := by
  rcases s.loseMains_cases with ⟨c, -, -, heq⟩ | ⟨hnone, heq⟩
  · rw [heq, State.failCandidate_device, State.fallen_device]
    split
    · exact or_noticeClockFault_twice _
    · rfl
  · rcases h with h | ⟨c, hc, hmains⟩
    · rw [heq, State.fallen_device, if_pos h]
    · exact nomatch hmains.symm.trans (hnone c hc)

/-! ### The entry to BACKUP -/

/-- The part under the entry to BACKUP when its entries and zones have left their runs. -/
def State.darkened (s : State) : State := (s.enterBattery.dropArrivals.resolveActive .interrupted).state.zonesInBackup

theorem State.darkened_frame (s : State) : s.darkened = { s with
    supply := { s.supply with condition := .battery, qualification := 0 }
    engine := { s.engine with mode := .backup, remembered := s.engine.mode.remembered s.engine.remembered }
    table := s.darkened.table, zones := s.darkened.zones, owed := s.dropArrivals.owed } := by
  have h : (s.enterBattery.dropArrivals.resolveActive .interrupted).state = { s.enterBattery.dropArrivals with
      table := (s.enterBattery.dropArrivals.resolveActive .interrupted).state.table
      zones := (s.enterBattery.dropArrivals.resolveActive .interrupted).state.zones } := State.apply_frame _ _
  unfold State.darkened
  generalize (s.enterBattery.dropArrivals.resolveActive .interrupted).state = t at *
  rw [h]
  rfl

theorem State.darkened_slot (s : State) (n : EntryIx) : s.darkened.table[n] = (s.table[n]).map fun e =>
    if e.phase.isActive then { e with phase := .armed, lastOutcome := some .interrupted } else e := by
  have hidle : s.enterBattery.dropArrivals.view.live = false := State.view_live_of_mode (show Mode.backup ≠ .live by decide)
  show (s.enterBattery.dropArrivals.resolveActive .interrupted).state.table[n] = _
  rw [State.resolveActive, State.apply_table]
  refine congrArg (fun f => (s.table[n]).map f) (funext fun e => ?_)
  split
  · refine (Entry.settle_passed (s := s.enterBattery.dropArrivals) fun h => ?_).1
    exact Bool.false_ne_true (hidle.symm.trans h.2.1)
  · rfl

/-- R120: the resolution of every active entry releases zones or leaves them. -/
theorem State.resolveActive_zone (s : State) (o : EntryOutcome) (z : ZoneIx) :
    (s.resolveActive o).state.zones[z] = s.zones[z] ∨ (s.resolveActive o).state.zones[z] = s.zones[z].release (s.restTime z) := by
  rw [State.resolveActive]
  rcases s.apply_zones_cases (fun _ e => if e.phase.isActive then e.resolve s.view o else Effect.only e) z
    with ⟨n, e, -, hmoves, -, hzone⟩ | ⟨-, hkept⟩
  · rw [hzone]
    split at hmoves
    · next hactive =>
      rw [if_pos hactive, Entry.resolve_zones]
      split
      · exact Or.inr rfl
      · exact Or.inl rfl
    · exact absurd rfl hmoves
  · exact Or.inl hkept

theorem Zone.inBackup_release (z : Zone) (r : Nat) : (z.release r).inBackup = z.inBackup := by
  cases z with
  | ownedOn =>
    show (if r = 0 then Zone.free else .resting r).inBackup = _
    split <;> rfl
  | ownedOff _ rest => cases rest <;> rfl
  | free | resting | manualOn | manualOff => rfl

theorem State.darkened_zone (s : State) (z : ZoneIx) : s.darkened.zones[z] = s.zones[z].inBackup := by
  have h : s.darkened.zones[z] = (s.enterBattery.dropArrivals.resolveActive .interrupted).state.zones[z].inBackup :=
    Vector.getElem_ofFn _
  rw [h]
  rcases s.enterBattery.dropArrivals.resolveActive_zone .interrupted z with h | h <;> rw [h]
  · rfl
  · exact Zone.inBackup_release _ _

theorem exec_entryToBackup (hp : s.powered = true) (hmain : s.supply.condition = .main) :
    exec .entryToBackup s = .next s.darkened.loseMains.abandonFilters.cutInterface := by
  refine congrArg Host.Outcome.next ?_
  refine if_pos ?_
  rw [hp, hmain]
  rfl

/-! ### What the supply waits for -/

/-- The rows that VDD qualifies for. -/
def isSupplyRow : Instr → Bool
  | .returnFromBackup _ | .coldStart => true
  | _ => false

theorem State.not_mem_waitingArrivals_of_supply {i : Instr} (h : isSupplyRow i = true) : i ∉ s.waitingArrivals := by
  unfold State.waitingArrivals
  simp only [List.mem_append, List.mem_map, List.mem_eraseDups]
  rintro (((⟨_, -, rfl⟩ | ⟨t, -, rfl⟩) | ⟨_, -, rfl⟩) | ⟨_, -, rfl⟩)
  · cases h
  · split at h <;> cases h
  · cases h
  · cases h

theorem State.not_mem_waitingTimebase_of_supply {i : Instr} (h : isSupplyRow i = true) : i ∉ s.waitingTimebase := by
  have hsingle {j : Instr} (hj : isSupplyRow j = false) : i ∉ [j] := fun hi => by
    rw [List.mem_singleton.mp hi, hj] at h
    exact nomatch h
  unfold State.waitingTimebase
  split
  · rw [List.mem_append]
    rintro (hi | hi)
    · split at hi
      · cases hi
      · split at hi
        · split at hi
          · exact hsingle rfl hi
          · exact hsingle rfl hi
        · split at hi
          · exact hsingle rfl hi
          · cases hi
      · split at hi
        · exact hsingle rfl hi
        · cases hi
    · split at hi
      · exact hsingle rfl hi
      · cases hi
  · exact List.not_mem_nil

/-- No other part of the block waits with a row of the supply. -/
theorem State.mem_waiting_supply {i : Instr} (h : isSupplyRow i = true) : i ∈ s.waiting ↔ i ∈ s.waitingSupply := by
  have hcompletion : i ∉ s.waitingCompletion := fun h' => by
    have hcommand := State.mem_waitingCompletion h'
    cases i with
    | returnFromBackup | coldStart => cases hcommand
    | _ => cases h
  have hsecond : i ∉ s.waitingSecond := by
    unfold State.waitingSecond
    split
    · rintro h'
      rw [List.mem_singleton.mp h'] at h
      cases h
    · exact List.not_mem_nil
  have hwalk : i ∉ s.waitingWalk := by
    unfold State.waitingWalk
    split
    · rintro h'
      rw [List.mem_singleton.mp h'] at h
      cases h
    · exact List.not_mem_nil
  have hacceptances : i ∉ s.waitingAcceptances := by
    unfold State.waitingAcceptances
    split
    · rw [List.mem_map]
      rintro ⟨k, -, rfl⟩
      cases h
    · exact List.not_mem_nil
  have harrivals : i ∉ s.waitingArrivals.filter s.nextTransition := fun h' =>
    State.not_mem_waitingArrivals_of_supply h (List.mem_filter.mp h').1
  simp only [State.waiting, List.mem_append, hcompletion, hsecond, harrivals, hwalk, State.not_mem_waitingTimebase_of_supply h,
    hacceptances, false_or]

theorem State.return_waits : (∃ order, .returnFromBackup order ∈ s.waiting) ↔
    s.powered = true ∧ s.supply.condition = .battery ∧ 3200 ≤ s.supply.qualification := by
  have hrow (order : ReturnOrder) : .returnFromBackup order ∈ s.waiting ↔ .returnFromBackup order ∈ s.waitingSupply :=
    State.mem_waiting_supply rfl
  simp only [hrow]
  unfold State.waitingSupply
  by_cases hlimit : s.supply.qualification < qualificationLimit
  · rw [if_pos hlimit]
    exact iff_of_false (fun ⟨_, h⟩ => nomatch h) fun h => absurd h.2.2 (Nat.not_le.mpr hlimit)
  · rw [if_neg hlimit]
    have hle : 3200 ≤ s.supply.qualification := Nat.not_lt.mp hlimit
    cases s.powered <;> cases s.supply.condition <;> simp [hle]

theorem State.coldStart_waits : .coldStart ∈ s.waiting ↔ s.powered = false ∧ 3200 ≤ s.supply.qualification := by
  rw [State.mem_waiting_supply rfl]
  unfold State.waitingSupply
  by_cases hlimit : s.supply.qualification < qualificationLimit
  · rw [if_pos hlimit]
    exact iff_of_false List.not_mem_nil fun h => absurd h.2 (Nat.not_le.mpr hlimit)
  · rw [if_neg hlimit]
    have hle : 3200 ≤ s.supply.qualification := Nat.not_lt.mp hlimit
    cases s.powered <;> cases s.supply.condition <;> simp [hle]

theorem State.tickSupply_supply (h : s.supply.condition = .battery ∨ s.powered = false) : s.tickSupply.supply = { s.supply with
    qualification := if Config.vddAbove s.ticks = true then s.supply.qualification + 1 else 0 } := by
  have hcond : (s.supply.condition == .battery || !s.powered) = true := by
    rcases h with h | h <;> simp [h]
  unfold State.tickSupply
  rw [if_pos hcond]

theorem State.tickFilters_supply (s : State) : s.tickFilters.supply = s.supply ∧ s.tickFilters.ticks = s.ticks := by
  unfold State.tickFilters
  split <;> exact ⟨rfl, rfl⟩

theorem State.tick_supply (h : s.supply.condition = .battery ∨ s.powered = false) : s.tick.supply = { s.supply with
    qualification := if Config.vddAbove s.ticks = true then s.supply.qualification + 1 else 0 } := by
  have hclock : (if s.powered then s.tickTimebase else s).supply = s.supply
      ∧ (if s.powered then s.tickTimebase else s).ticks = s.ticks := by
    split
    · have hframe : s.timebaseFrame s.tickTimebase := s.tickTimebase_timebaseFrame
      unfold State.timebaseFrame at hframe
      rw [hframe]
      exact ⟨rfl, rfl⟩
    · exact ⟨rfl, rfl⟩
  unfold State.tick
  generalize (if s.powered then s.tickTimebase else s) = u at *
  obtain ⟨hsupply, hticks⟩ := u.tickFilters_supply
  rw [hclock.1] at hsupply
  rw [hclock.2] at hticks
  rw [State.tickSupply_supply (by rw [State.powered, hsupply]; exact h), hsupply, hticks]

theorem exec_supplyDip_taken (h : s.supply.condition = .battery ∨ s.powered = false) :
    exec .supplyDip s = .next { s with supply := { s.supply with qualification := 0 } } := by
  refine congrArg Host.Outcome.next ?_
  refine if_pos ?_
  rcases h with h | h <;> rw [h]
  · rfl
  · exact Bool.or_true _

end

/-- Settles O51: the entry to BACKUP is the interruption of the active entries, the zones of BACKUP, and the loss of the mains. -/
theorem supplyRows : Obligations.SupplyRows := by
  refine ⟨fun s => ⟨State.tick_supply, State.return_waits, State.coldStart_waits⟩, fun s hp hmain => ?_,
    fun s => ⟨exec_supplyDip_taken, s.afterRow .retentionMarkLost, rfl, rfl, rfl, rfl, fun z => State.zoneOutput_unpowered (Or.inl rfl), rfl⟩⟩
  refine ⟨_, exec_entryToBackup hp hmain, ?_⟩
  have hdark := s.darkened_frame
  have hslot := s.darkened_slot
  have hzone := s.darkened_zone
  generalize s.darkened = u at *
  have htimebase : u.timebase = s.timebase := by rw [hdark]
  have hdevice : u.device = s.device := by rw [hdark]
  have hseconds : u.owed.seconds = s.owed.seconds := by rw [hdark]; rfl
  have hposition := u.loseMains_position
  have hother := u.loseMains_other
  have hsteady {c : Source} := u.loseMains_steady (c := c)
  have hselector := u.loseMains_selector
  have hnothing := u.loseMains_nothing
  have hfault := u.loseMains_device
  rw [htimebase, hseconds] at hposition hother
  rw [htimebase] at hsteady hselector hnothing hfault
  rw [hdevice] at hfault
  have hlose : u.timebaseFrame u.loseMains := u.loseMains_timebaseFrame
  unfold State.timebaseFrame at hlose
  generalize u.loseMains = v at *
  have hsupply : v.supply = { s.supply with condition := .battery, qualification := 0 } := by rw [hlose, hdark]
  have hengine : v.engine = { s.engine with mode := .backup, remembered := s.engine.mode.remembered s.engine.remembered } := by
    rw [hlose, hdark]
  have htable : v.table = u.table := by rw [hlose]
  have hzones : v.zones = u.zones := by rw [hlose]
  have hsensors : v.sensors = s.sensors := by rw [hlose, hdark]
  have hiface : v.iface = s.iface := by rw [hlose, hdark]
  have howed : v.owed = { s.dropArrivals.owed with seconds := v.owed.seconds } := by rw [hlose, hdark]
  have hrest : v = { s with
      supply := v.supply, engine := v.engine, table := v.table, zones := v.zones, timebase := v.timebase, device := v.device
      owed := v.owed } := by rw [hlose, hdark]
  clear hlose hdark
  refine ⟨hsupply, congrArg Engine.mode hengine, ?_, fun hmode => ?_, fun hmode => ?_, fun n => ?_,
    fun z => ⟨fun r hr => ?_, fun hr => ?_, State.zoneOutput_unpowered (Or.inr (congrArg Supply.condition hsupply))⟩, fun k => ?_, hposition,
    hother, fun c => hsteady, fun h => ?_, fun hc => ⟨fun ha => ?_, fun ha => ?_⟩, fun ha hc => ?_, hfault, fun ha hc => ?_,
    congrArg Owed.triggers howed, congrArg Owed.transitions howed, congrArg Owed.pulses howed, congrArg Owed.follows howed,
    congrArg Owed.walks howed, ?_, ?_⟩
  · show v.engine.held = _
    rw [hengine]
  · exact (congrArg Engine.remembered hengine).trans (by rw [hmode]; rfl)
  · exact (congrArg Engine.remembered hengine).trans (by rw [hmode]; rfl)
  · show v.table[n] = _
    rw [htable, hslot]
  · show v.zones[z] = _
    rw [hzones, hzone, hr]
    rfl
  · show v.zones[z] = _
    rw [hzones, hzone]
    generalize s.zones[z] = zone at hr
    cases zone with
    | manualOff r => exact absurd rfl (hr r)
    | free | resting | ownedOn | ownedOff | manualOn => rfl
  · have hsensor : v.abandonFilters.cutInterface.sensors[k] = { v.sensors[k] with filter := none } := Vector.getElem_ofFn _
    rw [hsensor, hsensors]
  · refine (hselector fun c hc => (h c hc).1).trans (if_neg fun hboth => ?_)
    exact (h _ hboth.2).2 rfl
  · exact (hselector fun c h => by rw [← Option.some.inj (hc.symm.trans h)]; rfl).trans (if_pos ⟨ha, hc⟩)
  · refine (hselector fun c h => by rw [← Option.some.inj (hc.symm.trans h)]; rfl).trans (if_neg fun hboth => ?_)
    exact nomatch ha.symm.trans hboth.1
  · exact (congrArg State.timebase (hnothing ha hc)).trans htimebase
  · exact (congrArg State.device (hnothing ha hc)).trans hdevice
  · show ({ v.iface with code := none, busy := false, phase := .closed, reply := .released } : Interface) = _
    rw [hiface]
  · rw [State.cutInterface, State.abandonFilters]
    show ({ v with sensors := _, iface := _ } : State) = _
    rw [hrest]

end Sys2Proof.Machine
end

section
/-! ## The engine takes LIVE, and the return from BACKUP (R97, R138, R146, R148) -/
namespace Sys2Proof.Machine

/-! ### The engine takes LIVE -/

section
variable {s : State}

/-- R47, R138: the re-checks hand on no follow event, and the walk is one. -/
theorem State.goLive_eq (s : State) : s.goLive = s.recheckAll.state.oweWalks 1 := by
  have hevents : (s.recheckAll.groups.flatMap fun g => g.events) = [] := by
    rw [List.flatMap_eq_nil_iff]
    intro g hg
    obtain ⟨n, e, -, rfl, -⟩ := State.mem_apply_groups.mp hg
    simp [State.effectGroup]
  have hall : ((s.recheckAll.groups ++ [({ walk := true, events := [] } : FollowGroup)]).flatMap fun g => g.events) = [] := by
    rw [List.flatMap_append, hevents]
    rfl
  have hwalk : ((s.recheckAll.groups ++ [({ walk := true, events := [] } : FollowGroup)]).any fun g => g.walk) = true := by
    rw [List.any_append]
    exact Bool.or_true _
  show s.recheckAll.state.oweGroup
    { walk := (s.recheckAll.groups ++ [({ walk := true, events := [] } : FollowGroup)]).any fun g => g.walk
      events := (s.recheckAll.groups ++ [({ walk := true, events := [] } : FollowGroup)]).flatMap fun g => g.events } = _
  rw [hall, hwalk]
  rfl

theorem State.recheckAll_zones (s : State) : s.recheckAll.state.zones = s.zones :=
  State.apply_zones_keep fun _ _ _ => Entry.recheck_zones _ _

theorem State.goLive_frame (s : State) : s.goLive = { s with
    table := s.goLive.table, owed := { s.owed with walks := s.owed.walks + 1 } } := by
  have hzones := s.recheckAll_zones
  have hframe : s.recheckAll.state = { s with table := s.recheckAll.state.table, zones := s.recheckAll.state.zones } :=
    State.apply_frame _ _
  rw [State.goLive_eq]
  generalize s.recheckAll.state = t at *
  rw [hzones] at hframe
  rw [hframe]
  rfl

theorem State.goLive_slot (hlive : s.isLive = true) (n : EntryIx) : s.goLive.table[n] = (s.table[n]).map fun e =>
    if e.phase = .armed ∧ e.defn.isLevel = true ∧ e.defn.pattern.satisfied s.levels 0 = true
    then { e with phase := .due freshWait, snapshot := some s.levels } else e := by
  rw [State.goLive_eq, State.oweWalks_table, State.recheckAll, State.apply_table]
  refine congrArg (fun f => (s.table[n]).map f) (funext fun e => ?_)
  split
  · next h =>
    obtain ⟨harmed, hlevel, hsat⟩ := h
    obtain ⟨hkind, hsense⟩ := (Definition.isLevel_iff _).mp hlevel
    rw [Entry.recheck_taken harmed ⟨hlive, hkind, hsense, hsat⟩]; rfl
  · next h =>
    rw [Entry.recheck_passed fun hp => h ⟨hp.1, (Definition.isLevel_iff _).mpr ⟨hp.2.2.1, hp.2.2.2.1⟩, hp.2.2.2.2⟩]
    rfl

theorem State.isLive_setMode_live (s : State) : (s.setMode .live).isLive = s.takesArrivals := by
  unfold State.isLive State.takesArrivals State.setMode
  cases s.engine.held <;> simp [State.powered]

theorem State.restoreMode_suspended (s : State) : s.restoreMode .suspended = { s with engine := { s.engine with mode := .suspended } } := by
  have hidle : ¬ (s.setMode .suspended).isLive = true := by simp [State.isLive, State.setMode]
  show (if (s.setMode .suspended).isLive then (s.setMode .suspended).goLive else s.setMode .suspended) = s.setMode .suspended
  exact if_neg hidle

theorem State.restoreMode_live (h : s.takesArrivals = true) : s.restoreMode .live = (s.setMode .live).goLive :=
  if_pos (s.isLive_setMode_live.trans h)

theorem State.restoreMode_idle (h : s.takesArrivals = false) : s.restoreMode .live = s.setMode .live :=
  if_neg (Bool.eq_false_iff.mp (s.isLive_setMode_live.trans h))

theorem State.restoreMode_frame (s : State) (m : Mode) : s.restoreMode m = { s with
    engine := { s.engine with mode := m }, table := (s.restoreMode m).table, owed := (s.restoreMode m).owed } := by
  unfold State.restoreMode
  simp only
  split
  · have h := (s.setMode m).goLive_frame
    generalize (s.setMode m).goLive = t at *
    rw [h]
    rfl
  · rfl

theorem State.restoreMode_live_slot (h : s.takesArrivals = true) (n : EntryIx) : (s.restoreMode .live).table[n] = (s.table[n]).map fun e =>
    if e.phase = .armed ∧ e.defn.isLevel = true ∧ e.defn.pattern.satisfied s.levels 0 = true
    then { e with phase := .due freshWait, snapshot := some s.levels } else e := by
  rw [State.restoreMode_live h, State.goLive_slot (s.isLive_setMode_live.trans h)]
  rfl

theorem State.restoreMode_live_owed (h : s.takesArrivals = true) :
    (s.restoreMode .live).owed = { s.owed with walks := s.owed.walks + 1 } := by
  rw [State.restoreMode_live h, State.goLive_frame]
  rfl

end

/-! ### The events of the conditioner -/

/-- The sensor that a watch of its pin leaves. -/
def State.watchedSensor (s : State) (k : SensorIx) (x : Sensor) : Sensor :=
  let level := x.pin ^^ s.settings.sensorPolarity.getLsbD k
  if level = x.accepted then { x with filter := none }
  else if s.filterTime k = 0 then
    { x with accepted := level, filter := none, latch := x.latch || (level && s.latchMode k) }
  else if x.filter.isSome then x
  else { x with filter := some { candidate := level, held := 0 } }

section
variable {s t u : State} {k : SensorIx}

theorem State.watchPin_sensor (s : State) (k : SensorIx) : (s.watchPin k).sensors[k] = s.watchedSensor k s.sensors[k] := by
  unfold State.watchPin State.watchedSensor
  show (if s.pinLevel k = s.sensors[k].accepted then _ else _ : State).sensors[k] = if s.pinLevel k = s.sensors[k].accepted then _ else _
  split
  · exact State.putSensor_same s k _
  split
  · exact (State.accept_row s k _).1
  split
  · rfl
  · exact State.putSensor_same s k _

theorem State.watchPin_sensor_other {j : SensorIx} (h : j ≠ k) : (s.watchPin k).sensors[j] = s.sensors[j] := by
  unfold State.watchPin
  simp only
  split
  · exact State.putSensor_other h
  split
  · exact (State.accept_row s k _).2.2.2.1 j h
  split
  · rfl
  · exact State.putSensor_other h

theorem State.watchedSensor_congr (h : t.settings = s.settings) (x : Sensor) : t.watchedSensor k x = s.watchedSensor k x := by
  unfold State.watchedSensor State.filterTime State.latchMode
  rw [h]

/-- From `s` to `t` nothing changes but the sensors, the table and what is on its way. -/
def State.wakeFrame (s t : State) : Prop := t = { s with sensors := t.sensors, table := t.table, owed := t.owed }

theorem State.wakeFrame.trans (h : s.wakeFrame t) (h' : t.wakeFrame u) : s.wakeFrame u := by
  unfold State.wakeFrame at *
  rw [h', h]

theorem State.clearAllLatches_wakeFrame (s : State) : s.wakeFrame (s.clearAllLatches.changeEvent s.levels) := by
  have hframe := State.changeEvent_frame s.clearAllLatches s.levels
  have hsensors := State.changeEvent_sensors s.clearAllLatches s.levels
  unfold State.wakeFrame
  generalize s.clearAllLatches.changeEvent s.levels = t at *
  rw [hsensors]
  exact hframe

/-- What an event of the conditioner does but to the sensors: the stored values of the table, and no walk. -/
structure State.Woken (s t : State) : Prop where
  frame : s.wakeFrame t
  stores : ∀ (n : EntryIx) (e : Entry), s.table[n] = some e → ∃ e', t.table[n] = some e'
    ∧ e' = { e with storedPattern := e'.storedPattern, storedPermit := e'.storedPermit }
  walks : t.owed.walks = s.owed.walks

theorem State.Woken.refl (s : State) : s.Woken s := ⟨rfl, fun _ e he => ⟨e, he, rfl⟩, rfl⟩

theorem State.Woken.trans (h : s.Woken t) (h' : t.Woken u) : s.Woken u where
  frame := h.frame.trans h'.frame
  stores n e he := by
    obtain ⟨x, hx, hxe⟩ := h.stores n e he
    obtain ⟨y, hy, hyx⟩ := h'.stores n x hx
    exact ⟨y, hy, by rw [hyx, hxe]⟩
  walks := h'.walks.trans h.walks

theorem wakeEvent_woken {order : ReturnOrder} {f : State → State} (hf : f ∈ wakeEvents order.sensors) (u : State) : u.Woken (f u) := by
  obtain ⟨htable, howed⟩ := wakeEvent_signalled hf u
  refine ⟨?_, fun n e he => ?_, ?_⟩
  · rw [wakeEvents, List.mem_cons, List.mem_map] at hf
    rcases hf with rfl | ⟨k, -, rfl⟩
    · exact u.clearAllLatches_wakeFrame
    · exact u.watchPin_frame k
  · rw [htable]
    exact State.changeEvent_entry he
  · rw [howed, State.changeEvent_owed]

theorem State.through_woken {order : ReturnOrder} {events : List (State → State)} (h : ∀ f, f ∈ events → f ∈ wakeEvents order.sensors)
    (s : State) : s.Woken (s.through events) :=
  State.through_of (R := State.Woken) State.Woken.refl (fun _ _ _ => State.Woken.trans) events s fun _ hf => wakeEvent_woken (h _ hf)

/-! ### The sensors at a return -/

/-- Two states that the conditioner sees alike. -/
def State.sameSensing (s t : State) : Prop := t.sensors = s.sensors ∧ t.settings = s.settings

theorem State.Woken.settings (h : s.Woken t) : t.settings = s.settings := by
  have hframe := h.frame
  unfold State.wakeFrame at hframe
  rw [hframe]
  rfl

theorem Vector.ext_fin {x y : Vector Sensor 8} (h : ∀ k : SensorIx, x[k] = y[k]) : x = y := Vector.ext fun i hi => h ⟨i, hi⟩

theorem wakeEvent_sameSensing {order : ReturnOrder} {f : State → State} (hf : f ∈ wakeEvents order.sensors) (h : s.sameSensing t) :
    (f s).sameSensing (f t) := by
  obtain ⟨hsensors, hsettings⟩ := h
  refine ⟨?_, ((wakeEvent_woken hf t).settings.trans hsettings).trans (wakeEvent_woken hf s).settings.symm⟩
  rw [wakeEvents, List.mem_cons, List.mem_map] at hf
  rcases hf with rfl | ⟨k, -, rfl⟩
  · show (t.clearAllLatches.changeEvent t.levels).sensors = (s.clearAllLatches.changeEvent s.levels).sensors
    rw [State.changeEvent_sensors, State.changeEvent_sensors, State.clearAllLatches, State.clearAllLatches]
    show (Vector.ofFn fun k => _) = Vector.ofFn fun k => _
    rw [hsensors]
  · refine Vector.ext_fin fun j => ?_
    show (t.watchPin k).sensors[j] = (s.watchPin k).sensors[j]
    by_cases hj : j = k
    · subst hj
      rw [State.watchPin_sensor, State.watchPin_sensor, State.watchedSensor_congr hsettings, hsensors]
    · rw [State.watchPin_sensor_other hj, State.watchPin_sensor_other hj, hsensors]

theorem State.through_sameSensing {order : ReturnOrder} : ∀ {events : List (State → State)} {s t : State},
    (∀ f, f ∈ events → f ∈ wakeEvents order.sensors) → s.sameSensing t → (s.through events).sameSensing (t.through events)
  | [], _, _, _, h => h
  | f :: rest, _, _, hevents, h =>
    State.through_sameSensing (events := rest) (fun g hg => hevents g (List.mem_cons_of_mem f hg))
      (wakeEvent_sameSensing (hevents f List.mem_cons_self) h)

/-- A pin watched twice is as one watched once. -/
theorem State.through_watches {g : Sensor} {l : List SensorIx} (hg : s.watchedSensor k g = g)
    (hstart : u.sensors[k] = g ∨ (k ∈ l ∧ s.watchedSensor k u.sensors[k] = g)) (hsettings : u.settings = s.settings) :
    (u.through (l.map fun j x => x.watchPin j)).sensors[k] = g := by
  induction l generalizing u with
  | nil =>
    rcases hstart with h | ⟨h, -⟩
    · exact h
    · cases h
  | cons j l ih =>
    have hkept : (u.watchPin j).settings = s.settings := by rw [State.watchPin_frame]; exact hsettings
    refine ih ?_ hkept
    by_cases hj : k = j
    · subst hj
      rw [State.watchPin_sensor, State.watchedSensor_congr hsettings]
      rcases hstart with h | ⟨-, h⟩
      · rw [h]; exact Or.inl hg
      · exact Or.inl h
    · rw [State.watchPin_sensor_other hj]
      exact hstart.imp_right fun ⟨hmem, h⟩ => ⟨(List.mem_cons.mp hmem).resolve_left hj, h⟩

theorem State.through_wakeEvents {g : Sensor} (first : List SensorIx) (hg : s.watchedSensor k g = g)
    (hwatched : s.watchedSensor k { s.sensors[k] with latch := false } = g) :
    (s.through (wakeEvents first)).sensors[k] = g := by
  have hclear : (s.clearAllLatches.changeEvent s.levels).sensors[k] = { s.sensors[k] with latch := false } := by
    rw [State.changeEvent_sensors]; exact Vector.getElem_ofFn _
  have hsettings : (s.clearAllLatches.changeEvent s.levels).settings = s.settings := by
    rw [State.settings, State.changeEvent_site]; rfl
  have hmem : k ∈ first ++ List.finRange 8 := List.mem_append.mpr (Or.inr (List.mem_finRange k))
  have hthrough := State.through_watches (s := s) (u := s.clearAllLatches.changeEvent s.levels) (l := first ++ List.finRange 8) hg
    (Or.inr ⟨hmem, by rw [hclear]; exact hwatched⟩) hsettings
  exact hthrough

end

/-! ### The return from BACKUP -/

section
variable {s : State} {order : ReturnOrder}

/-- The part at a return when the line's level is taken, and SUPPLY_RETURN is set. -/
def State.lined (s : State) : State := s.leaveBattery.freshInterface.lineAtReturn.1.report noticeSupplyReturn

/-- The mode that a return restores. -/
def State.modeAtReturn (s : State) : Mode := s.leaveBattery.freshInterface.lineAtReturn.2

/-- The part at a return when the engine takes its mode: the events before its place have come. -/
def State.beforeMode (s : State) (order : ReturnOrder) : State := s.lined.through ((wakeEvents order.sensors).take order.place)

theorem State.returned_eq (s : State) (order : ReturnOrder) : s.returned order
    = ((s.beforeMode order).restoreMode s.modeAtReturn).through ((wakeEvents order.sensors).drop order.place) := rfl

theorem exec_returnFromBackup (hp : s.powered = true) (hbattery : s.supply.condition = .battery) :
    exec (.returnFromBackup order) s = .next (s.returned order) := by
  refine congrArg Host.Outcome.next ((afterRow_returnFromBackup order s).trans (if_pos ?_))
  rw [hp, hbattery]
  rfl

theorem State.lineAtReturn_asserted (h : s.pins.reset = true) :
    s.lineAtReturn = (s.hold.dropArrivals, s.engine.remembered.toMode) := if_pos h

theorem State.lineAtReturn_kept (h : s.pins.reset = false) (hheld : s.engine.held = false) :
    s.lineAtReturn = (s, s.engine.remembered.toMode) :=
  (if_neg (Bool.eq_false_iff.mp h)).trans (if_neg (Bool.eq_false_iff.mp hheld))

theorem State.lineAtReturn_released (h : s.pins.reset = false) (hheld : s.engine.held = true) :
    s.lineAtReturn = (s.release, .suspended) :=
  (if_neg (Bool.eq_false_iff.mp h)).trans (if_pos hheld)

theorem State.lineAtReturn_sensing (s : State) : s.lineAtReturn.1.settings = s.settings
    ∧ ∀ k : SensorIx, ({ s.lineAtReturn.1.sensors[k] with latch := false } : Sensor) = { s.sensors[k] with latch := false } := by
  by_cases hreset : s.pins.reset = true
  · rw [State.lineAtReturn_asserted hreset]
    exact ⟨rfl, fun _ => rfl⟩
  · have hreset := Bool.eq_false_iff.mpr hreset
    by_cases hheld : s.engine.held = true
    · rw [State.lineAtReturn_released hreset hheld]
      refine ⟨?_, fun k => ?_⟩
      · show (if s.release.site.valid then s.release.site.config else SiteConfig.cold) = _
        rw [State.release_site]
        rfl
      · show ({ s.release.sensors[k] with latch := false } : Sensor) = _
        rw [State.release_sensor]
    · rw [State.lineAtReturn_kept hreset (Bool.eq_false_iff.mpr hheld)]
      exact ⟨rfl, fun _ => rfl⟩

theorem State.beforeMode_woken (s : State) (order : ReturnOrder) : s.lined.Woken (s.beforeMode order) :=
  State.through_woken (fun _ => List.mem_of_mem_take) _

theorem State.returned_woken (s : State) (order : ReturnOrder) :
    ((s.beforeMode order).restoreMode s.modeAtReturn).Woken (s.returned order) :=
  State.through_woken (fun _ => List.mem_of_mem_drop) _

/-- The mode does not move the sensors: the whole return is, for them, the events one after another. -/
theorem State.returned_sensors (s : State) (order : ReturnOrder) :
    (s.returned order).sensors = (s.lined.through (wakeEvents order.sensors)).sensors := by
  have hmode : (s.beforeMode order).sameSensing ((s.beforeMode order).restoreMode s.modeAtReturn) := by
    rw [State.restoreMode_frame]
    exact ⟨rfl, rfl⟩
  have hrest := State.through_sameSensing (order := order) (events := (wakeEvents order.sensors).drop order.place)
    (fun _ => List.mem_of_mem_drop) hmode
  have hwhole : s.lined.through (wakeEvents order.sensors)
      = (s.beforeMode order).through ((wakeEvents order.sensors).drop order.place) := by
    unfold State.beforeMode State.through
    rw [← List.foldl_append, List.take_append_drop]
  rw [State.returned_eq, hrest.1, hwhole]

theorem State.lined_settings (s : State) : s.lined.settings = s.settings := s.leaveBattery.freshInterface.lineAtReturn_sensing.1

theorem State.returned_sensor {k : SensorIx} {g : Sensor} (hg : s.watchedSensor k g = g)
    (hwatched : s.watchedSensor k { s.sensors[k] with latch := false } = g) : (s.returned order).sensors[k] = g := by
  have hsettings := s.lined_settings
  have hlatch : ({ s.lined.sensors[k] with latch := false } : Sensor) = { s.sensors[k] with latch := false } :=
    s.leaveBattery.freshInterface.lineAtReturn_sensing.2 k
  rw [State.returned_sensors]
  refine State.through_wakeEvents _ ((State.watchedSensor_congr hsettings g).trans hg) ?_
  rw [hlatch]
  exact (State.watchedSensor_congr hsettings _).trans hwatched

/-- R97: what the return leaves of a sensor. -/
theorem State.returned_sensor_cases (s : State) (order : ReturnOrder) (k : SensorIx) :
    (s.pinLevel k = s.sensors[k].accepted → (s.returned order).sensors[k] = { s.sensors[k] with latch := false, filter := none })
    ∧ (s.pinLevel k ≠ s.sensors[k].accepted → s.filterTime k ≠ 0 → s.sensors[k].filter = none →
      (s.returned order).sensors[k] = { s.sensors[k] with latch := false, filter := some { candidate := s.pinLevel k, held := 0 } })
    ∧ (s.pinLevel k ≠ s.sensors[k].accepted → s.filterTime k = 0 →
      (s.returned order).sensors[k] = { s.sensors[k] with
        accepted := s.pinLevel k, latch := s.pinLevel k && s.latchMode k, filter := none }) := by
  refine ⟨fun h => State.returned_sensor ?_ ?_, fun h htime hfilter => State.returned_sensor ?_ ?_,
    fun h htime => State.returned_sensor ?_ ?_⟩
  · exact if_pos h
  · exact if_pos h
  · exact (if_neg h).trans ((if_neg htime).trans (if_pos rfl))
  · refine (if_neg h).trans ((if_neg htime).trans ((if_neg ?_).trans rfl))
    show ¬ s.sensors[k].filter.isSome = true
    rw [hfilter]
    exact nofun
  · exact if_pos rfl
  · exact (if_neg h).trans ((if_pos htime).trans (by rw [Bool.false_or]; rfl))

end

end Sys2Proof.Machine
end

section
/-! ## The row of the return from BACKUP (R97, R146, R148, R149) -/
namespace Sys2Proof.Machine

section
variable {s : State} {order : ReturnOrder}

/-- The part at a return before the line's level is taken. -/
def State.supplied (s : State) : State := s.leaveBattery.freshInterface

theorem State.returned_frame (s : State) (order : ReturnOrder) : s.returned order = { s.lined with
    engine := { s.lined.engine with mode := s.modeAtReturn }
    sensors := (s.returned order).sensors, table := (s.returned order).table, owed := (s.returned order).owed } := by
  have hbefore := (s.beforeMode_woken order).frame
  have hmode := (s.beforeMode order).restoreMode_frame s.modeAtReturn
  have hreturned := (s.returned_woken order).frame
  unfold State.wakeFrame at hbefore hreturned
  generalize s.returned order = t at *
  generalize (s.beforeMode order).restoreMode s.modeAtReturn = r at *
  generalize s.beforeMode order = b at *
  rw [hreturned, hmode, hbefore]

theorem State.lined_asserted (h : s.pins.reset = true) : s.modeAtReturn = s.engine.remembered.toMode
    ∧ s.lined = { s.supplied with
      engine := { s.engine with held := true }
      device := s.device ||| noticeSupplyReturn
      owed := s.dropArrivals.owed } := by
  unfold State.modeAtReturn State.lined
  rw [State.lineAtReturn_asserted (s := s.leaveBattery.freshInterface) h]
  exact ⟨rfl, rfl⟩

theorem State.lined_kept (h : s.pins.reset = false) (hheld : s.engine.held = false) : s.modeAtReturn = s.engine.remembered.toMode
    ∧ s.lined = { s.supplied with device := s.device ||| noticeSupplyReturn } := by
  unfold State.modeAtReturn State.lined
  rw [State.lineAtReturn_kept (s := s.leaveBattery.freshInterface) h hheld]
  exact ⟨rfl, rfl⟩

theorem State.lined_released (h : s.pins.reset = false) (hheld : s.engine.held = true) : s.modeAtReturn = .suspended
    ∧ s.lined = { s.supplied.release with device := s.supplied.release.device ||| noticeSupplyReturn } := by
  unfold State.modeAtReturn State.lined
  rw [State.lineAtReturn_released (s := s.leaveBattery.freshInterface) h hheld]
  exact ⟨rfl, rfl⟩

theorem State.setResetLine_same {b : Bool} (h : s.pins.reset = b) : s.setResetLine b = s := by
  subst h; rfl

theorem exec_resetRelease_supplied (hp : s.powered = true) (h : s.pins.reset = false) (hheld : s.engine.held = true) :
    exec .resetRelease s.supplied = .next s.supplied.release := by
  rw [exec_resetRelease_held (s := s.supplied) hp rfl hheld, State.setResetLine_same (s := s.supplied) h]

theorem State.lined_supply (s : State) : s.lined.supply = { s.supply with condition := .main, qualification := 0 } := by
  by_cases hreset : s.pins.reset = true
  · rw [(State.lined_asserted hreset).2]; rfl
  · have hreset := Bool.eq_false_iff.mpr hreset
    by_cases hheld : s.engine.held = true
    · obtain ⟨-, hlined⟩ := State.lined_released hreset hheld
      have hsupply : s.supplied.release.supply = s.supplied.supply := State.release_supply s.supplied
      generalize s.supplied.release = r at *
      rw [hlined]
      exact hsupply
    · rw [(State.lined_kept hreset (Bool.eq_false_iff.mpr hheld)).2]; rfl

theorem State.returned_supply (s : State) (order : ReturnOrder) :
    (s.returned order).supply = { s.supply with condition := .main, qualification := 0 } := by
  have h := s.returned_frame order
  generalize s.returned order = t at *
  rw [h, s.lined_supply]

theorem State.returned_engine (s : State) (order : ReturnOrder) :
    (s.returned order).engine = { s.lined.engine with mode := s.modeAtReturn } := by
  have h := s.returned_frame order
  generalize s.returned order = t at *
  rw [h]

theorem State.lined_remembered (s : State) : s.lined.engine.remembered = s.engine.remembered := by
  by_cases hreset : s.pins.reset = true
  · rw [(State.lined_asserted hreset).2]
  · have hreset := Bool.eq_false_iff.mpr hreset
    by_cases hheld : s.engine.held = true
    · obtain ⟨-, hlined⟩ := State.lined_released hreset hheld
      have hengine := State.release_engine s.supplied
      generalize s.supplied.release = r at *
      rw [hlined]
      show r.engine.remembered = _
      rw [hengine]
      rfl
    · rw [(State.lined_kept hreset (Bool.eq_false_iff.mpr hheld)).2]; rfl

/-- R148: without a release the return leaves the flags, the zones and the site as they are. -/
theorem State.returned_unreleased (h : s.pins.reset = true ∨ s.engine.held = false) :
    (s.returned order).device = s.device ||| noticeSupplyReturn
      ∧ s.returned order = { s with
          supply := (s.returned order).supply, iface := (s.returned order).iface, engine := (s.returned order).engine
          device := (s.returned order).device, sensors := (s.returned order).sensors, table := (s.returned order).table
          owed := (s.returned order).owed } := by
  have hframe := s.returned_frame order
  have hlined : s.lined.device = s.device ||| noticeSupplyReturn ∧ s.lined = { s with
      supply := s.lined.supply, iface := s.lined.iface, engine := s.lined.engine, device := s.lined.device, owed := s.lined.owed } := by
    by_cases hreset : s.pins.reset = true
    · rw [(State.lined_asserted hreset).2]; exact ⟨rfl, rfl⟩
    · rw [(State.lined_kept (Bool.eq_false_iff.mpr hreset) (h.resolve_left hreset)).2]; exact ⟨rfl, rfl⟩
  generalize s.returned order = t at *
  generalize s.lined = y at *
  obtain ⟨hdevice, hrest⟩ := hlined
  refine ⟨by rw [hframe]; exact hdevice, ?_⟩
  rw [hframe, hrest]

theorem State.release_keeps {n : EntryIx} {e : Entry} (he : s.table[n] = some e) :
    ∃ e', s.release.table[n] = some e' ∧ e'.defn = e.defn ∧ e'.pending = 0 := by
  obtain ⟨e', he', hactive, hidle⟩ := State.release_entry he
  refine ⟨e', he', ?_⟩
  cases hphase : e.phase.isActive with
  | true => rw [hactive hphase]; exact ⟨rfl, rfl⟩
  | false => rw [hidle hphase]; exact ⟨rfl, rfl⟩

/-- R149: the part after a release made at the return, before the conditioner's events. -/
theorem State.lined_released_parts (h : s.pins.reset = false) (hheld : s.engine.held = true) :
    s.lined.engine = { s.engine with mode := .suspended, held := false } ∧ s.lined.device = noticeSupplyReturn ∧ s.lined.flags = 0
      ∧ s.lined.site = { s.site with lock := false } ∧ (∀ z : ZoneIx, s.lined.zones[z] = .free)
      ∧ ∀ (n : EntryIx) e, s.table[n] = some e → ∃ e', s.lined.table[n] = some e' ∧ e'.defn = e.defn ∧ e'.pending = 0 := by
  obtain ⟨-, hlined⟩ := State.lined_released h hheld
  have hengine := State.release_engine s.supplied
  have hdevice := State.release_device s.supplied
  have hflags := State.release_flags s.supplied
  have hsite := State.release_site s.supplied
  have hzones := State.release_zone s.supplied
  have hslots (n : EntryIx) (e : Entry) (he : s.table[n] = some e) := State.release_keeps (s := s.supplied) he
  generalize s.supplied.release = r at *
  rw [hlined]
  refine ⟨hengine, ?_, hflags, hsite, hzones, hslots⟩
  rw [hdevice]
  exact BitVec.zero_or

/-- R148, R149: a release made at the return. -/
theorem State.returned_released (h : s.pins.reset = false) (hheld : s.engine.held = true) :
    (s.returned order).engine = { s.engine with mode := .suspended, held := false }
      ∧ (s.returned order).device = noticeSupplyReturn ∧ (s.returned order).flags = 0
      ∧ (s.returned order).site = { s.site with lock := false }
      ∧ (∀ z : ZoneIx, (s.returned order).zones[z] = .free)
      ∧ (∀ (n : EntryIx) e, s.table[n] = some e → ∃ e', (s.returned order).table[n] = some e' ∧ e'.defn = e.defn ∧ e'.pending = 0) := by
  obtain ⟨hmode, -⟩ := State.lined_released h hheld
  have hframe := s.returned_frame order
  obtain ⟨hengine, hdevice, hflags, hsite, hzones, hslots⟩ := State.lined_released_parts h hheld
  refine ⟨?_, ?_, ?_, ?_, fun z => ?_, fun n e he => ?_⟩
  · rw [State.returned_engine, hengine, hmode]
  · rw [hframe]; exact hdevice
  · rw [hframe]; exact hflags
  · rw [hframe]; exact hsite
  · have : (s.returned order).zones = s.lined.zones := by rw [hframe]
    rw [this]; exact hzones z
  · obtain ⟨e₀, he₀, hdefn, hpending⟩ := hslots n e he
    obtain ⟨e₁, he₁, hstored₁⟩ := (s.beforeMode_woken order).stores n e₀ he₀
    have hkept : ((s.beforeMode order).restoreMode s.modeAtReturn).table[n] = some e₁ := by
      rw [hmode, State.restoreMode_suspended, he₁]
    obtain ⟨e₂, he₂, hstored₂⟩ := (s.returned_woken order).stores n e₁ hkept
    refine ⟨e₂, he₂, ?_, ?_⟩
    · rw [hstored₂, hstored₁]; exact hdefn
    · rw [hstored₂, hstored₁]; exact hpending

/-- R146: a return in LIVE causes one walk and re-checks the entries at its place among the conditioner's events. -/
theorem State.returned_live (hp : s.powered = true) (h : s.pins.reset = false) (hheld : s.engine.held = false)
    (hremembered : s.engine.remembered = .live) : (s.returned order).owed.walks = s.owed.walks + 1
      ∧ ∃ levels : Levels,
        (order.place = 0 → levels = s.levels) ∧ (9 + order.sensors.length ≤ order.place → levels = (s.returned order).levels)
        ∧ ∀ (n : EntryIx) (e : Entry), s.table[n] = some e →
        ∃ e', (s.returned order).table[n] = some e'
          ∧ ((e.phase = .armed ∧ e.defn.isLevel = true ∧ e.defn.pattern.satisfied levels 0 = true) →
              e' = { e with
                phase := .due freshWait, snapshot := some levels
                storedPattern := e'.storedPattern, storedPermit := e'.storedPermit })
          ∧ (¬ (e.phase = .armed ∧ e.defn.isLevel = true ∧ e.defn.pattern.satisfied levels 0 = true) →
              e' = { e with storedPattern := e'.storedPattern, storedPermit := e'.storedPermit }) := by
  obtain ⟨hmode, hlined⟩ := State.lined_kept h hheld
  have hlive : s.modeAtReturn = .live := by rw [hmode, hremembered]; rfl
  have htakes : (s.beforeMode order).takesArrivals = true := by
    have hframe := (s.beforeMode_woken order).frame
    unfold State.wakeFrame at hframe
    rw [hframe, hlined]
    exact State.takesArrivals_iff.mpr ⟨hp, hheld⟩
  refine ⟨?_, (s.beforeMode order).levels, fun hplace => ?_, fun hplace => ?_, fun n e he => ?_⟩
  · rw [(s.returned_woken order).walks, hlive, State.restoreMode_live_owed htakes, (s.beforeMode_woken order).walks, hlined]
    rfl
  · have hnone : s.beforeMode order = s.lined := by
      unfold State.beforeMode
      rw [hplace]
      rfl
    rw [hnone, hlined]
    rfl
  · have hall : s.returned order = (s.beforeMode order).restoreMode s.modeAtReturn := by
      have hlength : (wakeEvents order.sensors).length ≤ order.place := by
        simp only [wakeEvents, List.length_cons, List.length_map, List.length_append, List.length_finRange]
        omega
      rw [State.returned_eq, List.drop_eq_nil_of_le hlength]
      rfl
    rw [hall, State.restoreMode_frame]
    rfl
  · obtain ⟨e₁, he₁, hstored₁⟩ := (s.beforeMode_woken order).stores n e (by rw [hlined]; exact he)
    have hparts : e₁.phase = e.phase ∧ e₁.defn = e.defn := by rw [hstored₁]; exact ⟨rfl, rfl⟩
    have hslot := State.restoreMode_live_slot htakes n
    rw [he₁, Option.map_some, hparts.1, hparts.2, ← hlive] at hslot
    obtain ⟨e₂, he₂, hstored₂⟩ := (s.returned_woken order).stores n _ hslot
    refine ⟨e₂, he₂, fun hrecheck => ?_, fun hrecheck => ?_⟩
    · rw [if_pos hrecheck] at hstored₂
      rw [hstored₂, hstored₁]
    · rw [if_neg hrecheck] at hstored₂
      rw [hstored₂, hstored₁]

theorem State.setPin_same (s : State) (k : SensorIx) : s.setPin k s.sensors[k].pin = s := by
  have hsame : s.sensors.set k { s.sensors[k] with pin := s.sensors[k].pin } = s.sensors := Vector.set_getElem_self k.isLt
  rw [State.setPin_eq, hsame]

end

/-- Settles O52: the return is the line's level, the conditioner's events, and the mode at its place among them; each of these keeps what the
others have left. -/
theorem returnRow : Obligations.ReturnRow := by
  refine ⟨fun u f rest => ⟨rfl, rfl⟩, fun first => rfl, fun u k hwatched => ?_, State.restoreMode_suspended, fun u v hv => ?_,
    fun s order hp hbattery => ?_⟩
  · rw [exec_sensorPinChange_watched hwatched, State.setPin_same]
  · subst hv
    refine ⟨State.restoreMode_engine u .live, ?_, fun htakes => ?_, fun htakes =>
      ⟨State.restoreMode_live_owed htakes, State.restoreMode_live_slot htakes⟩⟩
    · have h := u.restoreMode_frame .live
      generalize u.restoreMode .live = v at *
      rw [h]
    · rw [State.restoreMode_idle htakes]
      exact ⟨rfl, rfl⟩
  · have hsupply := s.returned_supply order
    have hiface := s.returned_iface order
    refine ⟨s.returned order, exec_returnFromBackup hp hbattery, ⟨s.supplied, s.lined, s.modeAtReturn, ?_, State.lined_asserted,
      State.lined_kept, fun h hheld => ?_, State.returned_eq s order⟩, hsupply, hiface, ?_, State.returned_sensor_cases s order,
      fun h => ?_, fun h hheld => ?_, State.returned_unreleased, State.returned_live hp, State.returned_released⟩
    · rw [hsupply, hiface]
      rfl
    · obtain ⟨hmode, hlined⟩ := State.lined_released h hheld
      exact ⟨hmode, _, exec_resetRelease_supplied hp h hheld, hlined⟩
    · rw [State.returned_engine]
      exact s.lined_remembered
    · obtain ⟨hmode, hlined⟩ := State.lined_asserted h
      rw [State.returned_engine, hmode, hlined]
    · obtain ⟨hmode, hlined⟩ := State.lined_kept h hheld
      rw [State.returned_engine, hmode, hlined]
      rfl

end Sys2Proof.Machine
end

section
/-! ## ENGINE START and ENGINE SUSPEND (R138 to R140) -/
namespace Sys2Proof.Machine

section
variable {s : State}

/-! ### What is finished before the engine leaves LIVE -/

theorem State.countSecond_raised_ticks (order : SecondOrder) :
    ((if s.owed.seconds = 0 then s.raiseSecond else s).countSecond order).ticks = s.ticks := by
  rw [State.countSecond_ticks]
  split
  · rw [State.raiseSecond_frame]
  · rfl

/-- R140: a second event that has reached some counter is counted by its own row. -/
theorem State.finishUnderway_row (hp : s.powered = true) (h : s.owed.underway ≠ Underway.nothing) :
    ∃ order u, exec (.secondEvent order) s = .next u ∧ s.finishUnderway = { u with ticks := s.ticks + 1 } := by
  refine ⟨s.orderNow, _, exec_secondEvent_of_powered hp _, ?_⟩
  rw [State.finishUnderway_taken h, State.nextTick, State.countSecond_raised_ticks]

theorem State.takeLink_underway_nothing (h : s.owed.underway = Underway.nothing) (l : FollowLink) (walk : Bool) :
    (s.takeLink l walk).owed.underway = Underway.nothing := by
  have hnot : ¬ s.owed.underway.group.events.contains l = true := by rw [h]; exact nofun
  unfold State.takeLink
  rw [if_neg hnot]
  exact h

theorem State.deliverLink_underway_nothing (h : s.owed.underway = Underway.nothing) (l : FollowLink) :
    (s.deliverLink l).owed.underway = Underway.nothing :=
  State.takeLink_underway_nothing (by rw [State.applyAt_state_owed]; exact h) l _

theorem State.deliverLinks_underway_nothing : ∀ (links : List FollowLink) {s : State}, s.owed.underway = Underway.nothing →
    (s.deliverLinks links).owed.underway = Underway.nothing
  | [], _, h => h
  | l :: rest, _, h => State.deliverLinks_underway_nothing rest (State.deliverLink_underway_nothing h l)

/-- A walk causes walks alone. -/
theorem walkOver_owed : ∀ (l : List EntryIx) (s : State), (walkOver l s).owed = { s.owed with walks := (walkOver l s).owed.walks }
  | [], s => by rw [walkOver_nil]
  | n :: rest, s => by
    cases he : s.table[n] with
    | none => rw [walkOver_empty rest he]; exact walkOver_owed rest s
    | some e =>
      by_cases hdue : ∃ w, e.phase = .due w
      · obtain ⟨w, hdue⟩ := hdue
        rw [walkOver_due rest he hdue]
        split
        · exact walkOver_owed rest (s.grant n e w)
        split
        · exact congrArg State.owed (s.preempt_frame (s.victims e))
        · exact walkOver_owed rest s
      · rw [walkOver_notDue rest he fun w hw => hdue ⟨w, hw⟩]
        exact walkOver_owed rest s

theorem State.makeWalk_owed (s : State) : s.makeWalk.owed = { s.owed with walks := s.makeWalk.owed.walks } := by
  unfold State.makeWalk
  split
  · exact walkOver_owed _ _
  · rfl

theorem State.makeWalks_owed : ∀ (k : Nat) (s : State), (s.makeWalks k).owed = { s.owed with walks := (s.makeWalks k).owed.walks }
  | 0, _ => rfl
  | k + 1, s => by
    rw [State.makeWalks, State.makeWalks_owed k s.makeWalk, s.makeWalk_owed]

/-- The part when what came before an ENGINE SUSPEND has reached every entry, and the walks are still to be made. -/
def State.delivered (s : State) : State := s.finishUnderway.deliverLinks s.finishUnderway.links

theorem State.settleEnds_eq (s : State) : s.settleEnds = s.delivered.makeWalks s.delivered.owed.walks := rfl

theorem diff_self_eq_nil : ∀ l : List FollowLink, l.diff l = []
  | [] => rfl
  | a :: l => by rw [List.diff_cons, List.erase_cons_head]; exact diff_self_eq_nil l

theorem State.delivered_links (s : State) : s.delivered.links = [] := by
  rw [State.delivered, State.deliverLinks_links]
  exact diff_self_eq_nil _

theorem State.settleEnds_underway (s : State) : s.settleEnds.owed.underway = Underway.nothing := by
  rw [State.settleEnds_eq, State.makeWalks_owed]
  exact State.deliverLinks_underway_nothing _ s.finishUnderway_underway

theorem State.links_of_owed_walks {t : State} {k : Nat} (h : t.owed = { s.owed with walks := k }) : t.links = s.links := by
  unfold State.links
  rw [h]

theorem State.settleEnds_links (s : State) : s.settleEnds.links = [] := by
  rw [State.settleEnds_eq, State.links_of_owed_walks (State.makeWalks_owed _ _), State.delivered_links]

theorem State.settleEnds_walk (hu : s.owed.underway = Underway.nothing) (hl : s.links = []) (hw : s.owed.walks = 1) :
    s.settleEnds = s.makeWalk := by
  have hdelivered : s.delivered = s := by
    unfold State.delivered
    rw [State.finishUnderway_none s hu, hl]
    rfl
  rw [State.settleEnds_eq, hdelivered, hw]
  rfl

/-- With no second event under way the first follow event on its way comes, and then the rest. -/
theorem State.settleEnds_link {l : FollowLink} {rest : List FollowLink} (hu : s.owed.underway = Underway.nothing)
    (hl : s.links = l :: rest) : (s.deliverLink l).links = rest ∧ s.settleEnds = (s.deliverLink l).settleEnds := by
  have hlinks : (s.deliverLink l).links = rest := by rw [State.deliverLink_links, hl, List.erase_cons_head]
  have hdelivered : s.delivered = (s.deliverLink l).delivered := by
    unfold State.delivered
    rw [State.finishUnderway_none s hu, State.finishUnderway_none _ (State.deliverLink_underway_nothing hu l), hl, hlinks]
    rfl
  exact ⟨hlinks, by rw [State.settleEnds_eq, State.settleEnds_eq, hdelivered]⟩

theorem State.settleEnds_finished (s : State) : s.finishUnderway.settleEnds = s.settleEnds := by
  have hdelivered : s.finishUnderway.delivered = s.delivered := by
    unfold State.delivered
    rw [State.finishUnderway_none _ s.finishUnderway_underway]
  rw [State.settleEnds_eq, State.settleEnds_eq, hdelivered]

/-! ### ENGINE START -/

/-- The answer of an ENGINE START where `live` is the part in LIVE, before its re-checks. -/
def State.startAnswer (live : State) : State :=
  live.goLive.complete .ok (byteOf (setSize (live.entriesWhere (Entry.recheckTakes live.view))))
    (some (findResult (live.entriesWhere (Entry.recheckTakes live.view)) none))

/-- The answer of ENGINE START. -/
def State.engineStartAnswer (s : State) : State :=
  if s.engine.mode = .live then s.complete .ok 0 (some (findResult 0 none))
  else if s.site.valid then (s.finishUnderway.setMode .live).startAnswer
  else s.refuse .noConfig 0

theorem exec_engineStart (h : s.inProgress 0x52 = true) : exec .engineStart s = .next s.engineStartAnswer :=
  congrArg Host.Outcome.next (onCompletion_taken 0x52 State.engineStartAnswer s h)

theorem State.mem_recheckTakes (hlive : s.isLive = true) (n : EntryIx) :
    (s.entriesWhere (Entry.recheckTakes s.view)).getLsbD n.val = true ↔ ∃ e, s.table[n] = some e ∧ e.phase = .armed
      ∧ e.defn.kind = .pattern ∧ e.defn.pattern.sense = .level ∧ e.defn.pattern.satisfied s.levels 0 = true := by
  simp only [State.getLsbD_entriesWhere, Entry.recheckTakes_iff, State.levelHolds, hlive, true_and]

end

section
variable {s x : State}

/-- The parts of the answer of ENGINE START, made of `x`, the part when what came first is counted. -/
theorem State.startAnswer_row (htakes : x.takesArrivals = true) (hiface : x.iface = s.iface) : ∃ set : EntrySet,
    (∀ n : EntryIx, set.getLsbD n.val = true ↔ ∃ e, x.table[n] = some e ∧ e.phase = .armed
      ∧ e.defn.kind = .pattern ∧ e.defn.pattern.sense = .level ∧ e.defn.pattern.satisfied x.levels 0 = true)
    ∧ (∀ n : EntryIx, (x.setMode .live).startAnswer.table[n] = (x.table[n]).map fun e =>
        if set.getLsbD n.val then { e with phase := .due freshWait, snapshot := some x.levels } else e)
    ∧ (x.setMode .live).startAnswer.engine = { x.engine with mode := .live }
    ∧ (x.setMode .live).startAnswer.owed = { x.owed with walks := x.owed.walks + 1 }
    ∧ s.completes (x.setMode .live).startAnswer .ok (byteOf (setSize set)) ∧ (x.setMode .live).startAnswer.shows (findResult set none)
    ∧ (x.setMode .live).startAnswer = { x with
        engine := (x.setMode .live).startAnswer.engine, table := (x.setMode .live).startAnswer.table
        owed := (x.setMode .live).startAnswer.owed, iface := (x.setMode .live).startAnswer.iface } := by
  have hlive : (x.setMode .live).isLive = true := x.isLive_setMode_live.trans htakes
  have hframe := (x.setMode .live).goLive_frame
  have hmem : ∀ n : EntryIx, _ := State.mem_recheckTakes hlive
  have hslot (n : EntryIx) := State.goLive_slot hlive n
  have hanswer : (x.setMode .live).startAnswer = { (x.setMode .live).goLive with iface := (x.setMode .live).startAnswer.iface } :=
    State.complete_frame _ _ _ _
  have hcompletes := State.completes_of_iface (s := s) (u := (x.setMode .live).goLive) ((State.goLive_iface _).trans hiface) .ok
    (byteOf (setSize ((x.setMode .live).entriesWhere (Entry.recheckTakes (x.setMode .live).view))))
    (some (findResult ((x.setMode .live).entriesWhere (Entry.recheckTakes (x.setMode .live).view)) none))
  have hshows : (x.setMode .live).startAnswer.shows
      (findResult ((x.setMode .live).entriesWhere (Entry.recheckTakes (x.setMode .live).view)) none) := State.complete_shows _ _ _ _
  refine ⟨(x.setMode .live).entriesWhere (Entry.recheckTakes (x.setMode .live).view), hmem, fun n => ?_, ?_, ?_, hcompletes, hshows, ?_⟩
  · have htable : (x.setMode .live).startAnswer.table = (x.setMode .live).goLive.table := by rw [hanswer]
    rw [htable, hslot]
    show (x.table[n]).map _ = _
    cases he : x.table[n] with
    | none => rfl
    | some e =>
      have hset : ((x.setMode .live).entriesWhere (Entry.recheckTakes (x.setMode .live).view)).getLsbD n.val = true
          ↔ e.phase = .armed ∧ e.defn.isLevel = true ∧ e.defn.pattern.satisfied (x.setMode .live).levels 0 = true := by
        rw [hmem n, Definition.isLevel_iff]
        show (∃ e', x.table[n] = some e' ∧ _) ↔ _
        rw [he]
        constructor
        · rintro ⟨_, ⟨⟩, hphase, hkind, hsense, hsat⟩
          exact ⟨hphase, ⟨hkind, hsense⟩, hsat⟩
        · rintro ⟨hphase, ⟨hkind, hsense⟩, hsat⟩
          exact ⟨e, rfl, hphase, hkind, hsense, hsat⟩
      rw [Option.map_some, Option.map_some]
      simp only [hset]
      rfl
  all_goals
    generalize (x.setMode .live).startAnswer = t at *
    generalize (x.setMode .live).goLive = g at *
    rw [hanswer, hframe]
    rfl

/-! ### ENGINE SUSPEND -/

/-- The part after ENGINE SUSPEND has resolved the active entries. -/
def State.stoppedAll (x : State) : State := ((x.setMode .suspended).dropArrivals.resolveActive .stopped).asOne

/-- The answer of ENGINE SUSPEND. -/
def State.engineSuspendAnswer (s : State) : State :=
  if s.engine.mode = .live then
    s.settleEnds.stoppedAll.complete .ok (byteOf (setSize (s.settleEnds.entriesWhere fun e => e.phase.isActive)))
      (some (findResult (s.settleEnds.entriesWhere fun e => e.phase.isActive) none))
  else s.complete .ok 0 (some (findResult 0 none))

theorem exec_engineSuspend (h : s.inProgress 0x53 = true) : exec .engineSuspend s = .next s.engineSuspendAnswer :=
  congrArg Host.Outcome.next (onCompletion_taken 0x53 State.engineSuspendAnswer s h)

/-- An arrival that ends nothing hands on no follow event. -/
theorem State.apply_asOne_noEnd {f : EntryIx → Entry → Effect} (h : ∀ n e, (f n e).ended = none) :
    ∃ k, (s.apply f).asOne = (s.apply f).state.oweWalks k := by
  have hevents : ((s.apply f).groups.flatMap fun g => g.events) = [] := by
    rw [List.flatMap_eq_nil_iff]
    intro g hg
    obtain ⟨n, e, -, rfl, -⟩ := State.mem_apply_groups.mp hg
    simp [State.effectGroup, h]
  refine ⟨if ((s.apply f).groups.any fun g => g.walk) then 1 else 0, ?_⟩
  rw [Arrival.asOne, hevents, State.oweGroup_none]

theorem State.view_suspended (x : State) : (x.setMode .suspended).dropArrivals.view.live = false :=
  State.view_live_of_mode (show Mode.suspended ≠ .live by decide)

theorem State.stoppedAll_eq (x : State) :
    ∃ k, x.stoppedAll = ((x.setMode .suspended).dropArrivals.resolveActive .stopped).state.oweWalks k := by
  refine State.apply_asOne_noEnd fun n e => ?_
  split
  · rw [Entry.resolve, Entry.settle, x.view_suspended]
    rfl
  · rfl

theorem State.stoppedAll_frame (x : State) : ∃ k, x.stoppedAll = { x with
    engine := { x.engine with mode := .suspended }, table := x.stoppedAll.table, zones := x.stoppedAll.zones
    owed := { x.dropArrivals.owed with walks := k } } := by
  obtain ⟨k, hk⟩ := x.stoppedAll_eq
  have hframe : ((x.setMode .suspended).dropArrivals.resolveActive .stopped).state = { (x.setMode .suspended).dropArrivals with
      table := ((x.setMode .suspended).dropArrivals.resolveActive .stopped).state.table
      zones := ((x.setMode .suspended).dropArrivals.resolveActive .stopped).state.zones } := State.apply_frame _ _
  generalize ((x.setMode .suspended).dropArrivals.resolveActive .stopped).state = r at *
  refine ⟨0 + k, ?_⟩
  rw [hk, hframe]
  rfl

theorem State.stoppedAll_table (x : State) : x.stoppedAll.table
    = ((x.setMode .suspended).dropArrivals.resolveActive .stopped).state.table := by
  obtain ⟨k, hk⟩ := x.stoppedAll_eq
  rw [hk, State.oweWalks_table]

theorem State.stoppedAll_zones (x : State) : x.stoppedAll.zones
    = ((x.setMode .suspended).dropArrivals.resolveActive .stopped).state.zones := by
  obtain ⟨k, hk⟩ := x.stoppedAll_eq
  rw [hk, State.oweWalks_zones]

theorem State.stoppedAll_slot (x : State) (n : EntryIx) : x.stoppedAll.table[n] = (x.table[n]).map fun e =>
    if e.phase.isActive then
      { e with
        phase := if e.defn.rep = .once then .spent else .armed
        lastOutcome := some .stopped
        pending := e.noted .ending }
    else e := by
  rw [State.stoppedAll_table, State.resolveActive, State.apply_table]
  refine congrArg (fun f => (x.table[n]).map f) (funext fun e => ?_)
  split
  · have hsettled := (Entry.settle_passed (s := (x.setMode .suspended).dropArrivals) (e := e) (o := .stopped)
      (next := e.defn.nextPhase .stopped) fun h => Bool.false_ne_true (x.view_suspended.symm.trans h.2.1)).1
    rw [Entry.resolve, hsettled, Entry.settled_of_end rfl, ← Definition.afterUse_eq]
    rfl
  · rfl

/-- R120: the active entries that own zones are those whose resolution releases them. -/
theorem State.stoppedAll_zone (x : State) (z : ZoneIx) :
    (∀ n : EntryIx, slotOwns x.table[n] z = true → x.stoppedAll.zones[z] = (x.zones[z]).release (x.restTime z))
    ∧ ((∀ n : EntryIx, slotOwns x.table[n] z = false) → x.stoppedAll.zones[z] = x.zones[z]) := by
  have howns (n : EntryIx) (e : Entry) (he : x.table[n] = some e)
      (h : (if e.phase.isActive then e.resolve (x.setMode .suspended).dropArrivals.view .stopped else Effect.only e).zones ≠ .keep) :
      (if e.phase.isActive then e.resolve (x.setMode .suspended).dropArrivals.view .stopped else Effect.only e).zones = .release
        ∧ e.phase.ownsZones = true
        ∧ (if e.phase.isActive then e.resolve (x.setMode .suspended).dropArrivals.view .stopped else Effect.only e).entry.defn = e.defn := by
    split at h
    · next hactive =>
      rw [if_pos hactive, Entry.resolve_zones, Entry.resolve_defn]
      rw [Entry.resolve_zones] at h
      split at h
      · next ho => exact ⟨if_pos ho, ho, rfl⟩
      · exact absurd rfl h
    · exact absurd rfl h
  rw [State.stoppedAll_zones, State.resolveActive]
  rcases (x.setMode .suspended).dropArrivals.apply_zones_cases
      (fun _ e => if e.phase.isActive then e.resolve (x.setMode .suspended).dropArrivals.view .stopped else Effect.only e) z
    with ⟨n, e, he, hmoves, hclaim, hzone⟩ | ⟨hnone, hkept⟩
  · obtain ⟨hrelease, ho, hdefn⟩ := howns n e he hmoves
    refine ⟨fun _ _ => ?_, fun h => ?_⟩
    · rw [hzone, hrelease]
      rfl
    · have hno := h n
      rw [show x.table[n] = some e from he, slotOwns, ho, ← hdefn, hclaim] at hno
      exact nomatch hno
  · refine ⟨fun n hn => ?_, fun _ => hkept⟩
    cases he : x.table[n] with
    | none => rw [he] at hn; exact nomatch hn
    | some e =>
      rw [he, slotOwns, Bool.and_eq_true] at hn
      have hactive : e.phase.isActive = true := by
        cases hphase : e.phase with
        | running | paused => rfl
        | armed | held | due | confirming | spent => rw [hphase] at hn; exact nomatch hn.1
      have hkeep := hnone n e he (by rw [if_pos hactive, Entry.resolve_defn]; exact hn.2)
      rw [if_pos hactive, Entry.resolve_zones, if_pos hn.1] at hkeep
      exact nomatch hkeep

end

/-- Settles O50: ENGINE START and ENGINE SUSPEND act on the part in which what came before them is finished. -/
theorem engineModeRows : Obligations.EngineModeRows := by
  refine fun s => ⟨fun h => ⟨_, exec_engineStart h, fun hmode => ?_, fun hmode hvalid => ?_, fun hmode hvalid htakes x hx =>
    ⟨fun hu => hx.trans (State.finishUnderway_none s hu), fun hu => ?_, ?_⟩⟩,
    fun h => ⟨_, exec_engineSuspend h, fun hmode => ?_, fun hmode x hx =>
    ⟨fun hu => ?_, fun hu hp => ?_, hx ▸ s.settleEnds_links, hx ▸ s.settleEnds_underway, ?_⟩⟩⟩
  · rw [State.engineStartAnswer, if_pos hmode]
    exact ⟨s.complete_completes _ _ _, s.complete_shows _ _ _, s.complete_frame _ _ _⟩
  · rw [State.engineStartAnswer, if_neg hmode, if_neg (by rw [hvalid]; decide)]
    exact s.refuse_refuses _ _
  · obtain ⟨order, u, hexec, hu⟩ := State.finishUnderway_row (State.takesArrivals_iff.mp htakes).1 hu
    exact ⟨order, u, hexec, hx.trans hu⟩
  · have hframe := s.finishUnderway_frame
    rw [State.engineStartAnswer, if_neg hmode, if_pos hvalid, ← hx]
    rw [← hx] at hframe
    have hiface : x.iface = s.iface := by rw [hframe]
    have hengine : x.engine = s.engine := by rw [hframe]
    have hstill : x.takesArrivals = true := by
      rw [State.takesArrivals, State.powered, hframe]
      exact htakes
    rw [← hengine]
    exact State.startAnswer_row hstill hiface
  · rw [State.engineSuspendAnswer, if_neg hmode]
    exact ⟨s.complete_completes _ _ _, s.complete_shows _ _ _, s.complete_frame _ _ _⟩
  · refine ⟨fun hl hw => hx.trans (State.settleEnds_none s hl hw hu), fun hl hw => ?_, fun l rest hl => ?_, ?_⟩
    · rw [exec_grantWalk, hx, State.settleEnds_walk hu hl hw]
    · obtain ⟨hlinks, hsettled⟩ := State.settleEnds_link hu hl
      have hway : s.linkOnItsWay { source := l.source, follower := l.follower } = true := by
        rw [State.linkOnItsWay, hl]
        simp
      exact ⟨_, exec_followEvent hway, hlinks, hx.trans hsettled⟩
    · rw [hx]; exact State.settleEnds_frame s hu
  · obtain ⟨order, u, hexec, hfinished⟩ := State.finishUnderway_row hp hu
    exact ⟨order, u, hexec, by rw [hx, ← hfinished, State.settleEnds_finished]⟩
  · have hframe : s.eventFrame x := hx ▸ s.settleEnds_eventFrame
    unfold State.eventFrame at hframe
    have hiface : x.stoppedAll.iface = s.iface := (State.stopAll_iface x).trans (by rw [hframe])
    have hengine : x.engine = s.engine := by rw [hframe]
    have hslot := x.stoppedAll_slot
    have hzone := x.stoppedAll_zone
    obtain ⟨k, hstopped⟩ := x.stoppedAll_frame
    rw [State.engineSuspendAnswer, if_pos hmode, ← hx]
    refine ⟨x.entriesWhere fun e => e.phase.isActive, fun n => State.getLsbD_entriesWhere _ _ _, fun n => ?_, fun n z hn => ?_, fun z hz => ?_,
      ?_, ?_, ?_, ?_, ?_, State.completes_of_iface hiface .ok _ _, State.complete_shows _ _ _ _, ?_⟩
    · rw [State.complete_table, hslot]
      cases he : x.table[n] with
      | none => rfl
      | some e =>
        have hset : (x.entriesWhere fun e => e.phase.isActive).getLsbD n.val = true ↔ e.phase.isActive = true := by
          rw [State.getLsbD_entriesWhere, he]
          exact ⟨fun ⟨_, heq, hactive⟩ => Option.some.inj heq ▸ hactive, fun hactive => ⟨e, rfl, hactive⟩⟩
        rw [Option.map_some, Option.map_some]
        simp only [hset]
    · rw [State.complete_zones]; exact (hzone z).1 n hn
    · rw [State.complete_zones]; exact (hzone z).2 hz
    · rw [State.complete_engine, hstopped, hengine]
    · rw [State.complete_owed, hstopped]; rfl
    · rw [State.complete_owed, hstopped]; rfl
    · rw [State.complete_owed, hstopped]; rfl
    · have howed := State.complete_owed x.stoppedAll .ok (byteOf (setSize (x.entriesWhere fun e => e.phase.isActive)))
        (some (findResult (x.entriesWhere fun e => e.phase.isActive) none))
      unfold State.links
      rw [howed, hstopped]
      rfl
    · generalize x.stoppedAll = y at *
      rw [State.complete_frame, hstopped]

end Sys2Proof.Machine
end

section
/-! ## The second event (R57 to R60, R100 to R105, R119, R128, R134) -/
namespace Sys2Proof.Machine

/-- R57: whether the second event offers the entry a time that its match takes. -/
def State.matchesNow (s : State) (e : Entry) : Bool :=
  s.isLive && s.timeValid && e.defn.kind == .calendar && e.defn.calendarMatch.matchesTime s.calendar.advance

/-- What a second event does at an entry. -/
def State.secondEffect (s : State) (order : SecondOrder) (n : EntryIx) (e : Entry) : Effect :=
  e.secondEvent s.view (s.matchesNow e) (order.matchFirst.getLsbD n.val) (s.owed.underway.entries.getLsbD n.val)

/-- The part when the second event has reached the calendar and the rests that come before the entries. -/
def State.restedFirst (s : State) (order : SecondOrder) : State := s.advanced.restsCounted (s.restsDue &&& order.restFirst)

/-- The arrival of the second event at the entries. -/
def State.secondArrival (s : State) (order : SecondOrder) : Arrival := (s.restedFirst order).apply (s.secondEffect order)

/-- R128: the one walk and the follow events of a second event. -/
def State.secondGroup (s : State) (order : SecondOrder) : FollowGroup where
  walk := s.owed.underway.group.walk || someZoneFreed s.zones (s.restedFirst order).zones
    || ((s.secondArrival order).groups.any fun g => g.walk)
    || someZoneFreed (s.secondArrival order).state.zones (s.secondCounted order).zones
  events := s.owed.underway.group.events ++ (s.secondArrival order).groups.flatMap fun g => g.events

section
variable {s : State} {order : SecondOrder}

theorem State.secondCounted_eq (s : State) (order : SecondOrder) :
    s.secondCounted order = (s.secondArrival order).state.restsCounted (s.restsDue &&& ~~~order.restFirst) := rfl

theorem Arrival.quiet_walkIf_groups (x : State) (b : Bool) :
    (((Arrival.quiet x).walkIf b).groups.any fun g => g.walk) = b ∧ (((Arrival.quiet x).walkIf b).groups.flatMap fun g => g.events) = [] := by
  cases b <;> exact ⟨rfl, rfl⟩

theorem State.countSecond_eq (h : s.takesArrivals = true) :
    s.countSecond order = (s.secondCounted order).oweGroup (s.secondGroup order) := by
  have hfirst := Arrival.quiet_walkIf_groups (s.restedFirst order) (someZoneFreed s.zones (s.restedFirst order).zones)
  have hlast := Arrival.quiet_walkIf_groups (s.secondCounted order)
    (someZoneFreed (s.secondArrival order).state.zones (s.secondCounted order).zones)
  have hcount : s.countSecond order = ({
      state := s.secondCounted order
      groups := s.owed.underway.group
        :: ((((Arrival.quiet (s.restedFirst order)).walkIf (someZoneFreed s.zones (s.restedFirst order).zones)).groups
          ++ (s.secondArrival order).groups)
          ++ ((Arrival.quiet (s.secondCounted order)).walkIf
              (someZoneFreed (s.secondArrival order).state.zones (s.secondCounted order).zones)).groups) } : Arrival).asOne := by
    unfold State.countSecond
    simp only [Arrival.andThen, State.countRests_state]
    exact if_pos h
  rw [hcount, Arrival.asOne]
  refine congrArg (State.oweGroup _) ?_
  simp only [List.any_cons, List.any_append, List.flatMap_cons, List.flatMap_append, hfirst, hlast, List.nil_append, List.append_nil]
  unfold State.secondGroup
  rw [Bool.or_assoc, Bool.or_assoc, Bool.or_assoc]

/-- The part when the second event is raised. -/
def State.raised (s : State) : State := if s.owed.seconds = 0 then s.raiseSecond else s

theorem State.raised_frame (s : State) : s.raised = { s with
    timebase := s.raised.timebase, device := s.raised.device, owed := { s.owed with seconds := s.raised.owed.seconds } } := by
  unfold State.raised
  split
  · exact s.raiseSecond_timebaseFrame
  · rfl

theorem State.raised_group (s : State) (order : SecondOrder) : s.raised.secondGroup order = s.secondGroup order := by
  have h := s.raised_frame
  generalize s.raised = r at *
  rw [h]
  rfl

theorem State.raised_counted (s : State) (order : SecondOrder) : (s.raised.secondCounted order).table = (s.secondCounted order).table
    ∧ (s.raised.secondCounted order).zones = (s.secondCounted order).zones := by
  have h := s.raised_frame
  generalize s.raised = r at *
  rw [h]
  exact ⟨rfl, rfl⟩

end

section
variable {s : State} {order : SecondOrder}

/-! ### What a second event leaves -/

theorem State.raised_seconds (s : State) : s.raised.owed.seconds - 1 = s.owed.seconds - 1 := by
  unfold State.raised
  split
  · next h =>
    have hraised : s.raiseSecond.owed.seconds = s.owed.seconds + 1 := by
      unfold State.raiseSecond
      split <;> rfl
    rw [hraised, h]
  · rfl

/-- What is on its way when the second event is no longer raised or under way. -/
def State.secondTaken (s : State) : State :=
  { s with owed := { s.owed with seconds := s.owed.seconds - 1, underway := Underway.nothing } }

theorem State.raised_advanced_owed (s : State) : s.raised.advanced.owed = s.secondTaken.owed := by
  have h := s.raised_frame
  have hseconds := s.raised_seconds
  generalize s.raised = r at *
  show ({ r.owed with seconds := r.owed.seconds - 1, underway := Underway.nothing } : Owed) = _
  rw [hseconds, h]
  rfl

theorem State.raised_takesArrivals (s : State) : s.raised.takesArrivals = s.takesArrivals := by
  have h := s.raised_frame
  generalize s.raised = r at *
  rw [h]
  rfl

/-- The state that SECOND_EVENT leaves. -/
def State.afterSecond (s : State) (order : SecondOrder) : State := s.raised.countSecond order

theorem exec_secondEvent (hp : s.powered = true) : exec (.secondEvent order) s = .next (s.afterSecond order) :=
  exec_secondEvent_of_powered hp order

theorem State.afterSecond_eq (h : s.takesArrivals = true) :
    s.afterSecond order = (s.raised.secondCounted order).oweGroup (s.secondGroup order) := by
  rw [State.afterSecond, State.countSecond_eq (s.raised_takesArrivals.trans h), State.raised_group]

theorem State.afterSecond_idle (h : s.takesArrivals = false) : s.afterSecond order = s.raised.advanced :=
  State.countSecond_idle order (s.raised_takesArrivals.trans h)

theorem State.afterSecond_table (h : s.takesArrivals = true) : (s.afterSecond order).table = (s.secondCounted order).table := by
  rw [State.afterSecond_eq h, State.oweGroup_table, (s.raised_counted order).1]

theorem State.afterSecond_zones (h : s.takesArrivals = true) : (s.afterSecond order).zones = (s.secondCounted order).zones := by
  rw [State.afterSecond_eq h, State.oweGroup_zones, (s.raised_counted order).2]

theorem State.afterSecond_handsOn (h : s.takesArrivals = true) : s.secondTaken.handsOn (s.afterSecond order) (s.secondGroup order) := by
  have howed : s.secondTaken.owed = (s.raised.secondCounted order).owed :=
    ((State.secondCounted_owed _ _).trans s.raised_advanced_owed).symm
  have hgroup := (s.raised.secondCounted order).oweGroup_handsOn (s.secondGroup order)
  have hstate : s.afterSecond order = (s.raised.secondCounted order).oweGroup (s.secondGroup order) := State.afterSecond_eq h
  generalize s.afterSecond order = t at *
  generalize s.raised.secondCounted order = c at *
  subst hstate
  exact hgroup.of_owed howed rfl

/-! ### The entries -/

theorem State.restsCounted_table (s : State) (set : ZoneSet) : (s.restsCounted set).table = s.table := rfl

theorem State.secondArrival_slot (n : EntryIx) :
    (s.secondArrival order).state.table[n] = (s.table[n]).map fun e => (s.secondEffect order n e).entry :=
  (s.restedFirst order).apply_table (s.secondEffect order) n

theorem State.secondCounted_table : (s.secondCounted order).table = (s.secondArrival order).state.table := by
  rw [State.secondCounted_eq, State.restsCounted_table]

theorem State.secondCounted_slot (n : EntryIx) : (s.secondCounted order).table[n] = (s.table[n]).map fun e => (s.secondEffect order n e).entry := by
  rw [State.secondCounted_table, State.secondArrival_slot]

theorem State.afterSecond_slot (h : s.takesArrivals = true) {n : EntryIx} {e : Entry} (he : s.table[n] = some e) :
    (s.afterSecond order).table[n] = some (s.secondEffect order n e).entry := by
  rw [State.afterSecond_table h, State.secondCounted_slot, he, Option.map_some]

/-! ### What is handed on -/

theorem State.restedFirst_table : (s.restedFirst order).table = s.table := rfl

theorem State.mem_secondArrival_groups {g : FollowGroup} : g ∈ (s.secondArrival order).groups ↔ ∃ n e, s.table[n] = some e
    ∧ g = s.effectGroup n (s.secondEffect order n e) ∧ (g.walk || g.events != []) = true :=
  State.mem_apply_groups

theorem State.mem_effectGroup_events {n : EntryIx} {x : Effect} {l : FollowLink} :
    l ∈ (s.effectGroup n x).events ↔ ∃ o, x.ended = some o ∧ l ∈ s.followLinks n o := by
  unfold State.effectGroup
  cases x.ended with
  | none => simp
  | some o => simp

/-- The follow events of a second event are those of the counters reached before, and those of the entries that it ends. -/
theorem State.mem_secondGroup_events {l : FollowLink} : l ∈ (s.secondGroup order).events ↔ l ∈ s.owed.underway.group.events
    ∨ ∃ n e o, s.table[n] = some e ∧ (s.secondEffect order n e).ended = some o ∧ l ∈ s.followLinks n o := by
  unfold State.secondGroup
  rw [List.mem_append, List.mem_flatMap]
  refine or_congr_right ⟨?_, ?_⟩
  · rintro ⟨g, hg, hl⟩
    obtain ⟨n, e, he, rfl, -⟩ := State.mem_secondArrival_groups.mp hg
    obtain ⟨o, ho, hlink⟩ := State.mem_effectGroup_events.mp hl
    exact ⟨n, e, o, he, ho, hlink⟩
  · rintro ⟨n, e, o, he, ho, hlink⟩
    have hl : l ∈ (s.effectGroup n (s.secondEffect order n e)).events := State.mem_effectGroup_events.mpr ⟨o, ho, hlink⟩
    refine ⟨_, State.mem_secondArrival_groups.mpr ⟨n, e, he, rfl, ?_⟩, hl⟩
    rw [Bool.or_eq_true, bne_iff_ne]
    exact Or.inr (List.ne_nil_of_mem hl)

/-- The walk of a second event: kept for it, of an entry, or of a rest that ends. -/
theorem State.secondGroup_walk_iff : (s.secondGroup order).walk = true ↔ s.owed.underway.group.walk = true
    ∨ (∃ z : ZoneIx, s.zones[z] ≠ .free ∧ (s.restedFirst order).zones[z] = .free)
    ∨ (∃ n e, s.table[n] = some e ∧ (s.secondEffect order n e).causesWalk = true)
    ∨ ∃ z : ZoneIx, (s.secondArrival order).state.zones[z] ≠ .free ∧ (s.secondCounted order).zones[z] = .free := by
  unfold State.secondGroup
  simp only [Bool.or_eq_true, someZoneFreed_iff, or_assoc]
  refine or_congr_right (or_congr_right (or_congr_left ?_))
  rw [List.any_eq_true]
  constructor
  · rintro ⟨g, hg, hwalk⟩
    obtain ⟨n, e, he, rfl, -⟩ := State.mem_secondArrival_groups.mp hg
    exact ⟨n, e, he, hwalk⟩
  · rintro ⟨n, e, he, hwalk⟩
    have hgroup : (s.effectGroup n (s.secondEffect order n e)).walk = true := hwalk
    exact ⟨_, State.mem_secondArrival_groups.mpr ⟨n, e, he, rfl, by rw [hgroup, Bool.true_or]⟩, hgroup⟩

theorem State.walkCaused_of_handsOn {t : State} {g : FollowGroup} (h : s.handsOn t g) (hw : g.walk = true) : s.walkCaused t := by
  by_cases hevents : g.events = []
  · left
    rw [h.1 hevents, if_pos hw]
    exact ⟨rfl, rfl⟩
  · right
    rw [h.2 hevents]
    exact ⟨rfl, g, rfl, hw⟩

/-- A walk that a second event causes. -/
theorem State.afterSecond_walkCaused (h : s.takesArrivals = true) (hw : (s.secondGroup order).walk = true) :
    s.walkCaused (s.afterSecond order) :=
  State.walkCaused_of_handsOn (s := s.secondTaken) (State.afterSecond_handsOn h) hw

theorem State.afterSecond_links (h : s.takesArrivals = true) {l : FollowLink} (hl : l ∈ (s.secondGroup order).events) :
    l ∈ (s.afterSecond order).links := by
  have howed := (State.afterSecond_handsOn (order := order) h).2 (List.ne_nil_of_mem hl)
  unfold State.links
  rw [howed, List.mem_flatMap]
  exact ⟨_, List.mem_cons_of_mem _ (List.mem_append.mpr (Or.inr (List.mem_singleton.mpr rfl))), hl⟩

/-! ### The zones -/

theorem State.restsCounted_zone (set : ZoneSet) (z : ZoneIx) : (s.restsCounted set).zones[z]
    = if set.getLsbD z.val then s.zones[z].countRest (s.ownerRunning s.zones[z]) else s.zones[z] := Vector.getElem_ofFn _

/-- R119: the rest of the zone is running, and the second event has not reached it yet. -/
def State.restDue (s : State) (z : ZoneIx) : Prop := s.zones[z].rest.isSome = true ∧ s.owed.underway.zones.getLsbD z.val = false

theorem State.restsDue_bit (z : ZoneIx) : s.restsDue.getLsbD z.val = true ↔ s.restDue z := by
  have hresting : s.restingZones.getLsbD z.val = s.zones[z].rest.isSome := by
    have h := getLsbD_bitsOf 16 (fun i => if h : i < 16 then s.zones[i].rest.isSome else false) z.val
    simp only [z.isLt, decide_true, Bool.true_and, dite_true] at h
    exact h
  unfold State.restsDue State.restDue
  rw [BitVec.getLsbD_and, BitVec.getLsbD_not, hresting, decide_eq_true z.isLt, Bool.true_and, Bool.and_eq_true, Bool.not_eq_true']

theorem State.restedFirst_zone_kept {z : ZoneIx} (h : ¬ s.restDue z ∨ order.restFirst.getLsbD z.val = false) :
    (s.restedFirst order).zones[z] = s.zones[z] := by
  rw [State.restedFirst, State.restsCounted_zone, BitVec.getLsbD_and, if_neg]
  · rfl
  · rw [Bool.and_eq_true, State.restsDue_bit]
    rintro ⟨hdue, hfirst⟩
    rcases h with h | h
    · exact h hdue
    · exact nomatch h.symm.trans hfirst

theorem State.restedFirst_zone_counted {z : ZoneIx} (h : s.restDue z) (hfirst : order.restFirst.getLsbD z.val = true) :
    (s.restedFirst order).zones[z] = s.zones[z].countRest (s.ownerRunning s.zones[z]) := by
  rw [State.restedFirst, State.restsCounted_zone, BitVec.getLsbD_and, if_pos]
  · rfl
  · rw [Bool.and_eq_true, State.restsDue_bit]
    exact ⟨h, hfirst⟩

theorem State.secondCounted_zone_kept {z : ZoneIx} (h : ¬ s.restDue z ∨ order.restFirst.getLsbD z.val = true) :
    (s.secondCounted order).zones[z] = (s.secondArrival order).state.zones[z] := by
  rw [State.secondCounted_eq, State.restsCounted_zone, BitVec.getLsbD_and, BitVec.getLsbD_not, if_neg]
  rw [Bool.and_eq_true, State.restsDue_bit, Bool.and_eq_true, Bool.not_eq_true']
  rintro ⟨hdue, -, hlast⟩
  rcases h with h | h
  · exact h hdue
  · exact nomatch h.symm.trans hlast

theorem State.secondCounted_zone_counted {z : ZoneIx} (h : s.restDue z) (hlast : order.restFirst.getLsbD z.val = false) :
    (s.secondCounted order).zones[z] = (s.secondArrival order).state.zones[z].countRest
      ((s.secondArrival order).state.ownerRunning (s.secondArrival order).state.zones[z]) := by
  rw [State.secondCounted_eq, State.restsCounted_zone, BitVec.getLsbD_and, BitVec.getLsbD_not, if_pos]
  rw [Bool.and_eq_true, State.restsDue_bit, Bool.and_eq_true, Bool.not_eq_true']
  exact ⟨h, decide_eq_true z.isLt, hlast⟩

end

end Sys2Proof.Machine
end

section
/-! ## The second event at one entry and at one zone (R59, R60, R119, R120) -/
namespace Sys2Proof.Machine

/-! ### The effect at one entry -/

section
variable {e : Entry} {v : View} {matchFirst skip : Bool}

theorem Entry.count_on (h : e.secondEnds = none) : e.count v = Effect.only e.countOn := by
  rw [Entry.count, h]

theorem Entry.count_inactive (h : e.phase.isActive = false) : e.count v = Effect.only e := by
  unfold Entry.count Entry.secondEnds Entry.countOn
  cases hphase : e.phase with
  | due | running | paused => rw [hphase] at h; exact nomatch h
  | armed | held | confirming | spent => rfl

/-- What the counts of a second event do at an entry that they reach, or that they do not. -/
def Entry.takeCount (v : View) (counts : Bool) (e : Entry) : Effect := if counts then e.count v else Effect.only e

/-- What the calendar match of a second event does at an entry that it takes the time of, or that it does not. -/
def Entry.takeMatch (v : View) (matched : Bool) (e : Entry) : Effect := if matched then e.trigger v v.levels none else Effect.only e

theorem Entry.secondEvent_first (e : Entry) (matched : Bool) : e.secondEvent v matched true skip
    = (e.takeMatch v matched).andThen (Entry.takeCount v (e.phase.isActive && !skip)) := rfl

theorem Entry.secondEvent_last (e : Entry) (matched : Bool) : e.secondEvent v matched false skip
    = (e.takeCount v (e.phase.isActive && !skip)).andThen (Entry.takeMatch v matched) := rfl

/-- An entry that the counts do not reach takes the match alone. -/
theorem Entry.secondEvent_uncounting (matched : Bool) (h : (e.phase.isActive && !skip) = false) :
    e.secondEvent v matched matchFirst skip = e.takeMatch v matched := by
  cases matchFirst with
  | true => rw [Entry.secondEvent_first, h]; exact Effect.andThen_only rfl
  | false => rw [Entry.secondEvent_last, h]; exact Effect.only_andThen _ _

theorem Entry.secondEvent_reached (e : Entry) (matched : Bool) :
    e.secondEvent v matched matchFirst true = e.takeMatch v matched :=
  Entry.secondEvent_uncounting matched (by rw [Bool.not_true, Bool.and_false])

theorem Entry.secondEvent_inactive (h : e.phase.isActive = false) :
    e.secondEvent v true matchFirst skip = e.trigger v v.levels none :=
  Entry.secondEvent_uncounting true (by rw [h, Bool.false_and])

theorem Entry.secondEvent_unmatched (e : Entry) : e.secondEvent v false matchFirst false = e.count v := by
  cases hactive : e.phase.isActive with
  | false =>
    rw [Entry.count_inactive hactive]
    exact Entry.secondEvent_uncounting false (by rw [hactive, Bool.false_and])
  | true =>
    cases matchFirst with
    | true => rw [Entry.secondEvent_first, hactive]; exact Effect.only_andThen _ _
    | false => rw [Entry.secondEvent_last, hactive]; exact Effect.andThen_only rfl

theorem Entry.secondEvent_matchFirst (h : e.phase.isActive = true) :
    e.secondEvent v true true false = (e.trigger v v.levels none).andThen (Entry.count v) := by
  rw [Entry.secondEvent_first, h]
  rfl

theorem Entry.secondEvent_countFirst (h : e.phase.isActive = true) :
    e.secondEvent v true false false = (e.count v).andThen (Entry.trigger v v.levels none) := by
  rw [Entry.secondEvent_last, h]
  rfl

theorem Entry.count_zones (v : View) (e : Entry) : (e.count v).zones = .keep ∨ (e.count v).zones = .release := by
  unfold Entry.count
  split
  · rw [Entry.resolve_zones]
    split
    · exact Or.inr rfl
    · exact Or.inl rfl
  · exact Or.inl rfl

/-- R120: a second event pauses and resumes nothing. -/
theorem Entry.secondEvent_zones (v : View) (matched matchFirst skip : Bool) (e : Entry) :
    (e.secondEvent v matched matchFirst skip).zones = .keep ∨ (e.secondEvent v matched matchFirst skip).zones = .release := by
  have hboth {a : Effect} (f : Entry → Effect) (ha : a.zones = .keep ∨ a.zones = .release)
      (hf : ∀ x, (f x).zones = .keep ∨ (f x).zones = .release) : (a.andThen f).zones = .keep ∨ (a.andThen f).zones = .release := by
    show (if (f a.entry).zones = .keep then a.zones else (f a.entry).zones) = _ ∨ (if _ then _ else _) = _
    split
    · exact ha
    · exact hf a.entry
  have hcount (counts : Bool) (x : Entry) : (x.takeCount v counts).zones = .keep ∨ (x.takeCount v counts).zones = .release := by
    cases counts with
    | true => exact x.count_zones v
    | false => exact Or.inl rfl
  have hmatch (x : Entry) : (x.takeMatch v matched).zones = .keep ∨ (x.takeMatch v matched).zones = .release := by
    cases matched with
    | true => exact Or.inl (Entry.trigger_zones _ _ _ _)
    | false => exact Or.inl rfl
  cases matchFirst with
  | true => exact hboth _ (hmatch e) (hcount _)
  | false => exact hboth _ (hcount _ e) hmatch

end

section
variable {s : State} {order : SecondOrder} {n : EntryIx} {e : Entry} {z : ZoneIx}

theorem State.matchesNow_eq_false : s.matchesNow e = false ↔ e.defn.kind ≠ .calendar ∨ s.timeValid = false ∨ s.isLive = false
    ∨ e.defn.calendarMatch.matchesTime s.calendar.advance = false := by
  unfold State.matchesNow
  simp only [Bool.and_eq_false_iff, beq_eq_false_iff_ne]
  tauto

theorem State.uncounted_iff : s.uncounted n = true ↔ s.owed.underway.entries.getLsbD n.val = false := by
  unfold State.uncounted
  rw [Bool.not_eq_true']

theorem State.secondEffect_reached (h : s.matchesNow e = false) (hn : s.uncounted n = false) :
    s.secondEffect order n e = Effect.only e := by
  have hskip : s.owed.underway.entries.getLsbD n.val = true := by
    unfold State.uncounted at hn
    simpa using hn
  unfold State.secondEffect
  rw [h, hskip, Entry.secondEvent_reached]
  rfl

theorem State.secondEffect_counted (h : s.matchesNow e = false) (hn : s.uncounted n = true) :
    s.secondEffect order n e = e.count s.view := by
  unfold State.secondEffect
  rw [h, State.uncounted_iff.mp hn, Entry.secondEvent_unmatched]

theorem State.secondEffect_lawful : (s.secondEffect order n e).Lawful s.view e := Entry.secondEvent_lawful _ _ _ _ _

theorem State.secondEffect_defn : (s.secondEffect order n e).entry.defn = e.defn := Entry.secondEvent_defn _ _ _ _ _

/-- R120: zones move in a second event by the end of a run alone. -/
theorem State.secondEffect_zones (h : (s.secondEffect order n e).zones ≠ .keep) : (s.secondEffect order n e).zones = .release
    ∧ e.phase.ownsZones = true ∧ (s.secondEffect order n e).entry.phase.ownsZones = false := by
  have hrelease : (s.secondEffect order n e).zones = .release := (Entry.secondEvent_zones _ _ _ _ _).resolve_left h
  have hagrees := (State.secondEffect_lawful (s := s) (order := order) (n := n) (e := e)).zones
  rw [hrelease] at hagrees
  exact ⟨hrelease, hagrees.1, hagrees.2⟩

/-! ### One zone among the entries -/

theorem State.restedFirst_owner (z : ZoneIx) : (s.restedFirst order).zones[z].owner = s.zones[z].owner := by
  by_cases h : s.restDue z ∧ order.restFirst.getLsbD z.val = true
  · rw [State.restedFirst_zone_counted h.1 h.2, Zone.countRest_owner]
  · rw [State.restedFirst_zone_kept]
    by_cases hdue : s.restDue z
    · exact Or.inr (Bool.eq_false_iff.mpr fun hfirst => h ⟨hdue, hfirst⟩)
    · exact Or.inl hdue

theorem State.restedFirst_ownerLaw (hs : s.ownerLaw) : (s.restedFirst order).ownerLaw := fun n z => by
  rw [State.restedFirst_owner, State.restedFirst_table]
  exact hs n z

/-- A zone that no entry owns moves with its rest alone. -/
theorem State.secondArrival_zone_unowned (h : s.zones[z].owner = none) :
    (s.secondArrival order).state.zones[z] = (s.restedFirst order).zones[z] := by
  rcases (s.restedFirst order).apply_zones_cases (s.secondEffect order) z with ⟨n, e, -, -, -, hzone⟩ | ⟨-, hkept⟩
  · exact hzone.trans (ZoneEffect.apply_of_unowned (Or.inr ((State.restedFirst_owner z).trans h)))
  · exact hkept

/-- An owned zone moves as its owner does. -/
theorem State.secondArrival_zone_owned (hs : s.ownerLaw) (h : s.zones[z].owner = some n) (he : s.table[n] = some e) :
    (s.secondArrival order).state.zones[z]
      = (s.secondEffect order n e).zones.apply (s.restTime z) (s.restedFirst order).zones[z] := by
  have howner : (s.restedFirst order).zones[z].owner = some n := (State.restedFirst_owner z).trans h
  have hzone := (s.restedFirst order).apply_zones_of_owner (f := s.secondEffect order) (State.restedFirst_ownerLaw hs)
    (fun _ _ _ => State.secondEffect_defn) (fun _ _ _ hmoves => (State.secondEffect_zones hmoves).2.1) z
  rw [State.zoneMove_owned howner he] at hzone
  exact hzone

theorem State.owner_of_owns (hs : s.ownerLaw) (he : s.table[n] = some e) (hown : e.phase.ownsZones = true)
    (hclaim : e.defn.claim.getLsbD z.val = true) : s.zones[z].owner = some n := by
  rw [hs, he, slotOwns, hown, hclaim]
  rfl

/-- The owner of a zone, under the ownership law. -/
theorem State.owns_of_owner (hs : s.ownerLaw) (h : s.zones[z].owner = some n) :
    ∃ e, s.table[n] = some e ∧ e.phase.ownsZones = true ∧ e.defn.claim.getLsbD z.val = true := by
  have hslot := (hs n z).mp h
  cases he : s.table[n] with
  | none => rw [he] at hslot; exact nomatch hslot
  | some e =>
    rw [he, slotOwns, Bool.and_eq_true] at hslot
    exact ⟨e, rfl, hslot.1, hslot.2⟩

/-- A zone that no entry owns takes its rest, before the entries or after them. -/
theorem State.secondCounted_zone_unowned (h : s.zones[z].owner = none) :
    (s.secondCounted order).zones[z] = if s.zones[z].rest.isSome ∧ s.owed.underway.zones.getLsbD z.val = false
      then s.zones[z].countRest false else s.zones[z] := by
  have hrunning (x : State) (y : Zone) (hy : y.owner = none) : x.ownerRunning y = false := by
    unfold State.ownerRunning
    rw [hy]
  split
  · next hdue =>
    cases hfirst : order.restFirst.getLsbD z.val with
    | true =>
      rw [State.secondCounted_zone_kept (Or.inr hfirst), State.secondArrival_zone_unowned h,
        State.restedFirst_zone_counted hdue hfirst, hrunning _ _ h]
    | false =>
      rw [State.secondCounted_zone_counted hdue hfirst, State.secondArrival_zone_unowned h,
        State.restedFirst_zone_kept (Or.inr hfirst), hrunning _ _ h]
  · next hdue =>
    rw [State.secondCounted_zone_kept (Or.inl hdue), State.secondArrival_zone_unowned h, State.restedFirst_zone_kept (Or.inl hdue)]

/-- R119, R128: a rest that ends and frees its zone joins the walk of its second event. -/
theorem State.secondGroup_walk_of_freed (h : s.zones[z].owner = none) (hz : s.zones[z] ≠ .free)
    (hfreed : (s.secondCounted order).zones[z] = .free) : (s.secondGroup order).walk = true := by
  rw [State.secondGroup_walk_iff]
  have harrival := State.secondArrival_zone_unowned (order := order) h
  by_cases hfirst : (s.restedFirst order).zones[z] = .free
  · exact Or.inr (Or.inl ⟨z, hz, hfirst⟩)
  · exact Or.inr (Or.inr (Or.inr ⟨z, by rw [harrival]; exact hfirst, hfreed⟩))

/-- A zone whose owner the second event passes over, or moves on, takes its rest by the owner's state before the second event. -/
theorem State.secondCounted_zone_owned (hs : s.ownerLaw) (h : s.zones[z].owner = some n) (he : s.table[n] = some e)
    (hkeep : (s.secondEffect order n e).zones = .keep) :
    (s.secondCounted order).zones[z] = if s.zones[z].rest.isSome ∧ s.owed.underway.zones.getLsbD z.val = false
      then s.zones[z].countRest (slotRunning s.table[n]) else s.zones[z] := by
  have hrunning : s.ownerRunning s.zones[z] = slotRunning s.table[n] := by
    unfold State.ownerRunning
    rw [h]
  have harrival : (s.secondArrival order).state.zones[z] = (s.restedFirst order).zones[z] := by
    rw [State.secondArrival_zone_owned hs h he, hkeep]
    rfl
  have hafter : (s.secondArrival order).state.ownerRunning s.zones[z] = slotRunning s.table[n] := by
    have hagrees := (State.secondEffect_lawful (s := s) (order := order) (n := n) (e := e)).zones
    rw [hkeep] at hagrees
    unfold State.ownerRunning
    rw [h]
    show slotRunning (s.secondArrival order).state.table[n] = _
    rw [State.secondArrival_slot, he, Option.map_some]
    exact hagrees.2
  split
  · next hdue =>
    cases hfirst : order.restFirst.getLsbD z.val with
    | true =>
      rw [State.secondCounted_zone_kept (Or.inr hfirst), harrival, State.restedFirst_zone_counted hdue hfirst, hrunning]
    | false =>
      rw [State.secondCounted_zone_counted hdue hfirst, harrival, State.restedFirst_zone_kept (Or.inr hfirst), hafter]
  · next hdue =>
    rw [State.secondCounted_zone_kept (Or.inl hdue), harrival, State.restedFirst_zone_kept (Or.inl hdue)]

end

end Sys2Proof.Machine
end

section
/-! ## Rests (R119) -/
namespace Sys2Proof.Machine

section
variable {s : State} {order : SecondOrder} {z : ZoneIx} {r : Nat}

/-! ### REST_END -/

theorem zoneBit_self (z : ZoneIx) : (zoneBit z).getLsbD z.val = true := by
  unfold zoneBit
  simp

/-- The zones after the rest of one zone is counted. -/
def State.restEnded (s : State) (z : ZoneIx) : State := s.putZone z (s.zones[z].countRest (s.ownerRunning s.zones[z]))

theorem State.restEnded_same (s : State) (z : ZoneIx) : (s.restEnded z).zones[z] = s.zones[z].countRest (s.ownerRunning s.zones[z]) :=
  Vector.getElem_set_self z.isLt

theorem State.restEnded_other {x : ZoneIx} (h : x ≠ z) : (s.restEnded z).zones[x] = s.zones[x] :=
  Vector.getElem_set_ne z.isLt x.isLt fun heq => h (Fin.ext heq.symm)

theorem State.endRest_eq (s : State) (z : ZoneIx) : s.endRest z = { s.restEnded z with owed := (s.endRest z).owed } := by
  have hstate := Arrival.walkIf_state (Arrival.quiet (s.restEnded z)) (someZoneFreed s.zones (s.restEnded z).zones)
  have hframe : s.endRest z = { ((Arrival.quiet (s.restEnded z)).walkIf (someZoneFreed s.zones (s.restEnded z).zones)).state with
      owed := (s.endRest z).owed } := rfl
  rw [hstate] at hframe
  exact hframe

theorem State.endRest_underway (s : State) (z : ZoneIx) : (s.endRest z).owed.underway.zones = s.owed.underway.zones ||| zoneBit z
    ∧ (s.endRest z).owed.underway.group.walk = (s.owed.underway.group.walk || someZoneFreed s.zones (s.restEnded z).zones) := by
  have hstate := Arrival.walkIf_state (Arrival.quiet (s.restEnded z)) (someZoneFreed s.zones (s.restEnded z).zones)
  have hgroups := (Arrival.quiet_walkIf_groups (s.restEnded z) (someZoneFreed s.zones (s.restEnded z).zones)).1
  have hend : s.endRest z
      = ((Arrival.quiet (s.restEnded z)).walkIf (someZoneFreed s.zones (s.restEnded z).zones)).underway 0 (zoneBit z) := rfl
  rw [hend]
  unfold Arrival.underway
  rw [hstate, hgroups]
  exact ⟨rfl, rfl⟩

theorem exec_restEnd (ht : s.takesArrivals = true) (hu : s.owed.underway.zones.getLsbD z.val = false) (hr : s.zones[z].rest = some r)
    (hends : r ≤ 1) : exec (.restEnd z) s = .next (s.endRest z) := by
  refine congrArg Host.Outcome.next (if_pos ?_)
  unfold Zone.restEnds
  rw [ht, hu, hr]
  exact decide_eq_true hends

/-- R119: REST_END at one zone. -/
theorem State.endRest_row (hr : s.zones[z].rest = some r) (hends : r ≤ 1) :
    (∀ x : ZoneIx, x ≠ z → (s.endRest z).zones[x] = s.zones[x])
      ∧ (s.zones[z] = .resting r → (s.endRest z).zones[z] = .free ∧ (s.endRest z).owed.underway.group.walk = true)
      ∧ (s.zones[z] = .manualOff (some r) → (s.endRest z).zones[z] = .manualOff none)
      ∧ (∀ n : EntryIx, s.zones[z] = .ownedOff n (some r) →
          (s.endRest z).zones[z] = if slotRunning s.table[n] then .ownedOn n else .ownedOff n none)
      ∧ (s.endRest z).owed.underway.zones.getLsbD z.val = true
      ∧ s.endRest z = { s with zones := (s.endRest z).zones, owed := (s.endRest z).owed } := by
  obtain ⟨hmark, hwalk⟩ := s.endRest_underway z
  have hzones : (s.endRest z).zones = (s.restEnded z).zones := by rw [State.endRest_eq]
  have hframe := s.endRest_eq z
  rw [hzones]
  refine ⟨fun x hx => State.restEnded_other hx, fun hz => ?_, fun hz => ?_, fun n hz => ?_, ?_, ?_⟩
  · have hfree : (s.restEnded z).zones[z] = .free := by
      rw [State.restEnded_same, hz]
      exact if_pos hends
    refine ⟨hfree, ?_⟩
    rw [hwalk, (someZoneFreed_iff _ _).mpr ⟨z, by rw [hz]; exact nofun, hfree⟩, Bool.or_true]
  · rw [State.restEnded_same, hz]
    exact if_pos hends
  · rw [State.restEnded_same, hz]
    exact if_pos hends
  · rw [hmark, BitVec.getLsbD_or, zoneBit_self, Bool.or_true]
  · generalize s.endRest z = t at *
    rw [hframe]
    rfl

end

/-- Settles O37: a rest is counted before the entries or after them, and the owner's state is the same at both where the second event ends no
run of it. -/
theorem restRows : Obligations.RestRows := by
  intro s z r htakes hunder
  refine ⟨fun order => ⟨s.afterSecond order, exec_secondEvent (State.takesArrivals_iff.mp htakes).1, ?_⟩, fun hr hends =>
    ⟨s.endRest z, exec_restEnd htakes hunder hr hends, State.endRest_row hr hends⟩⟩
  rw [State.afterSecond_zones htakes]
  have hcounted {x : Zone} (hz : s.zones[z] = x) (howner : x.owner = none) (hrest : x.rest.isSome = true) :
      (s.secondCounted order).zones[z] = x.countRest false := by
    subst hz
    rw [State.secondCounted_zone_unowned howner, if_pos ⟨hrest, hunder⟩]
  refine ⟨fun hz => ⟨hcounted hz rfl rfl, fun hends => ?_⟩, fun hz => ?_, fun hz => ?_, fun n e hz howner he hnone hunmatched => ?_⟩
  · have hfreed : (s.secondCounted order).zones[z] = .free := (hcounted hz rfl rfl).trans (if_pos hends)
    exact State.afterSecond_walkCaused htakes (State.secondGroup_walk_of_freed (by rw [hz]; rfl) (by rw [hz]; exact nofun) hfreed)
  · rw [hcounted hz rfl rfl]
    show (if r ≤ 1 then Zone.manualOff none else .manualOff (some (r - 1))) = _
    split <;> rfl
  · rw [State.secondCounted_zone_unowned (by rw [hz]; rfl), hz]
    exact if_neg fun h => nomatch h.1
  · have hmatch : s.matchesNow e = false := State.matchesNow_eq_false.mpr hunmatched
    have hkeep : (s.secondEffect order n e).zones = .keep := by
      cases hn : s.uncounted n with
      | true => rw [State.secondEffect_counted hmatch hn, Entry.count_on hnone]; rfl
      | false => rw [State.secondEffect_reached hmatch hn]; rfl
    rw [State.secondCounted_zone_owned howner (by rw [hz]; rfl) he hkeep, hz]
    exact if_pos ⟨rfl, hunder⟩

end Sys2Proof.Machine
end

section
/-! ## What a second event counts (R68, R100 to R105, R112, R119, R128) -/
namespace Sys2Proof.Machine

section
variable {s : State} {order : SecondOrder} {n : EntryIx} {e : Entry} {z : ZoneIx} {o : EntryOutcome}

/-! ### The part as a whole -/

theorem State.afterSecond_idle_parts (h : s.takesArrivals = false) : (s.afterSecond order).table = s.table
    ∧ (s.afterSecond order).zones = s.zones ∧ (s.afterSecond order).owed = s.secondTaken.owed := by
  have howed := s.raised_advanced_owed
  have hframe := s.raised_frame
  rw [State.afterSecond_idle h]
  generalize s.raised = r at *
  refine ⟨?_, ?_, howed⟩
  · rw [hframe]; rfl
  · rw [hframe]; rfl

theorem State.afterSecond_frame (s : State) (order : SecondOrder) : s.afterSecond order = { s with
    table := (s.afterSecond order).table, zones := (s.afterSecond order).zones, calendar := s.calendar.advance
    timebase := s.raised.timebase, device := s.raised.device, owed := (s.afterSecond order).owed } := by
  have hcount := State.countSecond_frame s.raised order
  have hcalendar := State.countSecond_calendar s.raised order
  have hraised := s.raised_frame
  unfold State.afterSecond
  generalize s.raised.countSecond order = t at *
  generalize s.raised = r at *
  rw [hcalendar] at hcount
  rw [hcount, hraised]

theorem State.raised_taken (h : 0 < s.owed.seconds) : s.raised = s := if_neg (Nat.ne_of_gt h)

theorem State.raised_none (h : s.owed.seconds = 0) : s.raised = s.raiseSecond := if_pos h

/-- R67: a second event raised at a prescaler without a READY candidate. -/
theorem State.raiseSecond_unready (h : ∀ x code quiet, s.timebase.selector ≠ .ready x code quiet) :
    s.raiseSecond.timebase = { s.timebase with prescaler := 0, sincePrescaler := 0, quiet := 0 } ∧ s.raiseSecond.device = s.device := by
  unfold State.raiseSecond
  cases hselector : s.timebase.selector with
  | ready x code quiet => exact absurd hselector (h x code quiet)
  | steady | starting => exact ⟨rfl, rfl⟩

/-- R74: a READY candidate becomes active at the second event. -/
theorem State.raiseSecond_ready_parts {x : Source} {code quiet : Nat} (h : s.timebase.selector = .ready x code quiet) :
    s.raiseSecond.timebase = { active := x, selector := .steady, prescaler := 0, sincePrescaler := 0, quiet := quiet
                               crystalRunning := x == .crystal }
      ∧ s.raiseSecond.device = s.device ||| noticeClockSwitched := by
  unfold State.raiseSecond
  rw [h]
  refine ⟨?_, rfl⟩
  show (s.timebase.switchTo x quiet) = _
  unfold Timebase.switchTo Timebase.withOscillator
  simp [Selector.candidate]

/-- R116: an entry that owns its zones after a second event has owned them all along. -/
theorem State.afterSecond_zone_owned (hs : s.ownerLaw) (he : (s.afterSecond order).table[n] = some e) (ho : e.phase.ownsZones = true)
    (howner : s.zones[z].owner = some n) (hrest : s.zones[z].rest = none) : (s.afterSecond order).zones[z] = s.zones[z] := by
  cases htakes : s.takesArrivals with
  | false => rw [(State.afterSecond_idle_parts htakes).2.1]
  | true =>
    obtain ⟨x, hx, -, -⟩ := State.owns_of_owner hs howner
    rw [State.afterSecond_slot htakes hx] at he
    have hkeep : (s.secondEffect order n x).zones = .keep := by
      by_contra hmoves
      have hnot := (State.secondEffect_zones hmoves).2.2
      rw [Option.some.inj he, ho] at hnot
      exact nomatch hnot
    rw [State.afterSecond_zones htakes, State.secondCounted_zone_owned hs howner hx hkeep, hrest]
    exact if_neg fun h => nomatch h.1

/-! ### The group that a second event hands on -/

/-- An entry that a second event ends is one whose counts it reaches; unmatched, its outcome is that of its count. -/
theorem State.secondEffect_ended (h : (s.secondEffect order n e).ended = some o) :
    s.uncounted n = true ∧ (s.matchesNow e = false → e.secondEnds = some o) := by
  have huncounted : s.uncounted n = true := by
    rw [State.uncounted_iff]
    by_contra hreached
    unfold State.secondEffect at h
    rw [Bool.of_not_eq_false hreached, Entry.secondEvent_reached] at h
    unfold Entry.takeMatch at h
    split at h
    · rw [Entry.trigger_ended] at h; exact nomatch h
    · exact nomatch h
  refine ⟨huncounted, fun hmatch => ?_⟩
  rw [State.secondEffect_counted hmatch huncounted] at h
  cases hends : e.secondEnds with
  | none => rw [Entry.count_on hends] at h; exact nomatch h
  | some o' =>
    rw [Entry.count_ends hends, Entry.resolve, Entry.settle_ended] at h
    split at h
    · exact h
    · exact nomatch h

theorem State.followLinks_nodup (s : State) (n : EntryIx) (o : EntryOutcome) : (s.followLinks n o).Nodup :=
  ((List.nodup_finRange 48).filter _).map fun a b h => congrArg FollowLink.follower h

theorem State.effectGroup_events_source {x : Effect} {l : FollowLink} (h : l ∈ (s.effectGroup n x).events) : l.source = n := by
  obtain ⟨o, -, hl⟩ := State.mem_effectGroup_events.mp h
  exact (State.mem_followLinks.mp hl).1

theorem State.effectGroup_events_nodup (s : State) (n : EntryIx) (x : Effect) : (s.effectGroup n x).events.Nodup := by
  unfold State.effectGroup
  cases x.ended with
  | none => exact List.nodup_nil
  | some o => exact s.followLinks_nodup n o

/-- The follow events of an arrival are each from the entry that they are of, so none comes twice. -/
theorem State.apply_events_nodup (s : State) (f : EntryIx → Entry → Effect) : ((s.apply f).groups.flatMap fun g => g.events).Nodup := by
  rw [List.nodup_flatMap]
  refine ⟨fun g hg => ?_, ?_⟩
  · obtain ⟨n, e, -, rfl, -⟩ := State.mem_apply_groups.mp hg
    exact s.effectGroup_events_nodup n _
  · unfold State.apply
    refine List.Pairwise.filter _ (List.pairwise_map.mpr (List.pairwise_filterMap.mpr ((List.nodup_finRange 48).imp fun {a b} hab => ?_)))
    rintro ⟨m, x⟩ hx ⟨k, y⟩ hy
    obtain ⟨_, -, hx⟩ := Option.map_eq_some_iff.mp hx
    obtain ⟨_, -, hy⟩ := Option.map_eq_some_iff.mp hy
    obtain ⟨rfl, rfl⟩ := Prod.mk.inj hx
    obtain ⟨rfl, rfl⟩ := Prod.mk.inj hy
    intro l hl hl'
    exact hab ((State.effectGroup_events_source hl).symm.trans (State.effectGroup_events_source hl'))

theorem State.secondGroup_nodup (h : s.owed.underway.group.events = []) : (s.secondGroup order).events.Nodup := by
  unfold State.secondGroup
  rw [h, List.nil_append]
  exact (s.restedFirst order).apply_events_nodup _

end

end Sys2Proof.Machine
end

section
/-! ## The counts of a second event: the zones of an ended run, and a quiet second event (R112, R119, R120, R128) -/
namespace Sys2Proof.Machine

section
variable {s : State} {order : SecondOrder} {n : EntryIx} {e : Entry} {z : ZoneIx} {o : EntryOutcome}

/-! ### The zones of a run that ends -/

theorem Zone.release_owner (restTime : Nat) (x : Zone) : (x.release restTime).owner = none := by
  unfold Zone.release
  split
  · split <;> rfl
  · rfl
  · rfl
  · rfl
  · rfl
  · rfl
  · rfl

/-- R119, R120: a zone that an ended run releases takes its rest before the release or after it. -/
theorem State.secondCounted_zone_released (hs : s.ownerLaw) (h : s.zones[z].owner = some n) (he : s.table[n] = some e)
    (hrelease : (s.secondEffect order n e).zones = .release) : (s.secondCounted order).zones[z]
      = if s.zones[z].rest.isSome ∧ s.owed.underway.zones.getLsbD z.val = false then
          if order.restFirst.getLsbD z.val then (s.zones[z].countRest (slotRunning s.table[n])).release (s.restTime z)
          else (s.zones[z].release (s.restTime z)).countRest false
        else s.zones[z].release (s.restTime z) := by
  have harrival : (s.secondArrival order).state.zones[z] = ((s.restedFirst order).zones[z]).release (s.restTime z) := by
    rw [State.secondArrival_zone_owned hs h he, hrelease]
    rfl
  have hrunning : s.ownerRunning s.zones[z] = slotRunning s.table[n] := by
    unfold State.ownerRunning
    rw [h]
  split
  · next hdue =>
    split
    · next hfirst =>
      rw [State.secondCounted_zone_kept (Or.inr hfirst), harrival, State.restedFirst_zone_counted hdue hfirst, hrunning]
    · next hfirst =>
      have hlast := Bool.eq_false_iff.mpr hfirst
      rw [State.secondCounted_zone_counted hdue hlast, harrival, State.restedFirst_zone_kept (Or.inr hlast)]
      refine congrArg (Zone.countRest · _) ?_
      unfold State.ownerRunning
      rw [Zone.release_owner]
  · next hdue =>
    rw [State.secondCounted_zone_kept (Or.inl hdue), harrival, State.restedFirst_zone_kept (Or.inl hdue)]

/-- R119: a switched-off zone without a rest, and an engaged one, are released as the end of the run says. -/
theorem State.secondCounted_zone_released_unresting (hs : s.ownerLaw) (h : s.zones[z].owner = some n) (he : s.table[n] = some e)
    (hrelease : (s.secondEffect order n e).zones = .release) (hrest : s.zones[z].rest = none) :
    (s.secondCounted order).zones[z] = s.zones[z].release (s.restTime z) := by
  rw [State.secondCounted_zone_released hs h he hrelease, hrest]
  exact if_neg fun hdue => nomatch hdue.1

/-- R119: the rest of a switched-off zone goes on past the end of the run, and is counted once. -/
theorem State.secondCounted_zone_released_resting (hs : s.ownerLaw) (he : s.table[n] = some e)
    (hrelease : (s.secondEffect order n e).zones = .release) {r : Nat} (hz : s.zones[z] = .ownedOff n (some r)) :
    (s.owed.underway.zones.getLsbD z.val = true → (s.secondCounted order).zones[z] = .resting r)
      ∧ (s.owed.underway.zones.getLsbD z.val = false →
        (2 ≤ r → (s.secondCounted order).zones[z] = .resting (r - 1))
        ∧ (r ≤ 1 → (slotRunning s.table[n] = false ∨ order.restFirst.getLsbD z.val = false) →
            (s.secondCounted order).zones[z] = .free)
        ∧ (r ≤ 1 → slotRunning s.table[n] = true → order.restFirst.getLsbD z.val = true →
            (s.secondCounted order).zones[z] = if s.restTime z = 0 then .free else .resting (s.restTime z))) := by
  rw [State.secondCounted_zone_released hs (by rw [hz]; rfl) he hrelease, hz]
  have hcount (running : Bool) : (Zone.ownedOff n (some r)).countRest running
      = if r ≤ 1 then (if running then .ownedOn n else .ownedOff n none) else .ownedOff n (some (r - 1)) := rfl
  have hlast : (Zone.resting r).countRest false = if r ≤ 1 then .free else .resting (r - 1) := rfl
  have hreleased : (Zone.ownedOff n (some r)).release (s.restTime z) = .resting r := rfl
  rw [hcount, hreleased, hlast]
  refine ⟨fun hreached => if_neg fun hdue => ?_, fun hdue => ?_⟩
  · rw [hreached] at hdue; exact nomatch hdue.2
  rw [if_pos ⟨rfl, hdue⟩]
  refine ⟨fun hlong => ?_, fun hshort hoff => ?_, fun hshort hrunning hfirst => ?_⟩
  · have hr : ¬ r ≤ 1 := by omega
    rw [if_neg hr, if_neg hr]
    exact ite_self _
  · rw [if_pos hshort, if_pos hshort]
    rcases hoff with hoff | hoff
    · rw [hoff]; exact ite_self _
    · rw [hoff]; rfl
  · rw [if_pos hshort, if_pos hfirst, if_pos hrunning]
    rfl

/-! ### A second event that ends, triggers and frees nothing -/

theorem Zone.countRest_frees {running : Bool} {x : Zone} (h : x.countRest running = .free) : x = .free ∨ ∃ r, x = .resting r ∧ r ≤ 1 := by
  unfold Zone.countRest at h
  split at h
  case h_1 r =>
    split at h
    · next hr => exact Or.inr ⟨r, rfl, hr⟩
    · exact nomatch h
  case h_2 =>
    split at h
    · split at h <;> exact nomatch h
    · exact nomatch h
  case h_3 => split at h <;> exact nomatch h
  case h_6 => exact Or.inl rfl
  all_goals exact nomatch h

/-- An entry whose match does not take the time, and whose count ends nothing, counts on. -/
theorem State.secondEffect_quiet (hmatch : s.matchesNow e = false) (hends : s.uncounted n = true → e.secondEnds = none) :
    ∃ x, s.secondEffect order n e = Effect.only x := by
  cases huncounted : s.uncounted n with
  | false => exact ⟨e, State.secondEffect_reached hmatch huncounted⟩
  | true => exact ⟨e.countOn, by rw [State.secondEffect_counted hmatch huncounted, Entry.count_on (hends huncounted)]⟩

/-- R128: a second event that ends nothing, triggers nothing and frees no zone hands on what is kept for it alone. -/
theorem State.secondGroup_quiet
    (hquiet : ∀ (n : EntryIx) (e : Entry), s.table[n] = some e → s.matchesNow e = false ∧ (s.uncounted n = true → e.secondEnds = none))
    (hrests : ∀ (z : ZoneIx) (r : Nat), s.zones[z] = .resting r → 2 ≤ r) : s.secondGroup order = s.owed.underway.group := by
  have honly {n : EntryIx} {e : Entry} (he : s.table[n] = some e) : ∃ x, s.secondEffect order n e = Effect.only x :=
    State.secondEffect_quiet (hquiet n e he).1 (hquiet n e he).2
  have hgroups : (s.secondArrival order).groups = [] := by
    refine List.eq_nil_iff_forall_not_mem.mpr fun g hg => ?_
    obtain ⟨n, e, he, rfl, hmoves⟩ := State.mem_secondArrival_groups.mp hg
    obtain ⟨x, hx⟩ := honly he
    rw [hx] at hmoves
    exact nomatch hmoves
  have hnotFreed {running : Bool} {z : ZoneIx} (hz : s.zones[z] ≠ .free) : s.zones[z].countRest running ≠ .free := fun hfreed => by
    rcases Zone.countRest_frees hfreed with hfree | ⟨r, hr, hshort⟩
    · exact hz hfree
    · have := hrests z r hr
      omega
  have hfirst : someZoneFreed s.zones (s.restedFirst order).zones = false := by
    rw [← Bool.not_eq_true, someZoneFreed_iff]
    rintro ⟨z, hz, hfreed⟩
    by_cases h : s.restDue z ∧ order.restFirst.getLsbD z.val = true
    · rw [State.restedFirst_zone_counted h.1 h.2] at hfreed
      exact hnotFreed hz hfreed
    · rw [State.restedFirst_zone_kept (by rw [not_and_or, Bool.not_eq_true] at h; exact h)] at hfreed
      exact hz hfreed
  have harrival (z : ZoneIx) : (s.secondArrival order).state.zones[z] = (s.restedFirst order).zones[z] := by
    rcases (s.restedFirst order).apply_zones_cases (s.secondEffect order) z with ⟨n, e, he, hmoves, -⟩ | ⟨-, hkept⟩
    · obtain ⟨x, hx⟩ := honly he
      rw [hx] at hmoves
      exact absurd rfl hmoves
    · exact hkept
  have hlast : someZoneFreed (s.secondArrival order).state.zones (s.secondCounted order).zones = false := by
    rw [← Bool.not_eq_true, someZoneFreed_iff]
    rintro ⟨z, hz, hfreed⟩
    by_cases h : s.restDue z ∧ order.restFirst.getLsbD z.val = false
    · rw [State.secondCounted_zone_counted h.1 h.2] at hfreed
      rw [harrival, State.restedFirst_zone_kept (Or.inr h.2)] at hz hfreed
      exact hnotFreed hz hfreed
    · rw [State.secondCounted_zone_kept (by rw [not_and_or, Bool.not_eq_false] at h; exact h)] at hfreed
      exact hz hfreed
  unfold State.secondGroup
  rw [hgroups, hfirst, hlast, List.any_nil, List.flatMap_nil, List.append_nil, Bool.or_false, Bool.or_false, Bool.or_false]

end

end Sys2Proof.Machine
end

section
/-! ## SECOND_EVENT at the entries that it does not trigger (R68, R100 to R105, R112, R119, R128) -/
namespace Sys2Proof.Machine

section
variable {s : State} {order : SecondOrder} {n : EntryIx} {e : Entry} {z : ZoneIx} {o : EntryOutcome} {g : FollowGroup}

/-! ### What SECOND_EVENT leaves of the part -/

theorem State.afterSecond_empty (h : s.table[n] = none) : (s.afterSecond order).table[n] = none := by
  cases htakes : s.takesArrivals with
  | false => rw [(State.afterSecond_idle_parts htakes).1, h]
  | true => rw [State.afterSecond_table htakes, State.secondCounted_slot, h, Option.map_none]

theorem State.afterSecond_free (h : s.zones[z] = .free) : (s.afterSecond order).zones[z] = .free := by
  cases htakes : s.takesArrivals with
  | false => rw [(State.afterSecond_idle_parts htakes).2.1, h]
  | true =>
    rw [State.afterSecond_zones htakes, State.secondCounted_zone_unowned (by rw [h]; rfl), h]
    exact if_neg fun hdue => nomatch hdue.1

theorem State.afterSecond_timebase (s : State) (order : SecondOrder) :
    (s.afterSecond order).timebase = s.raised.timebase ∧ (s.afterSecond order).device = s.raised.device := by
  have htimebase := congrArg State.timebase (s.afterSecond_frame order)
  have hdevice := congrArg State.device (s.afterSecond_frame order)
  exact ⟨htimebase, hdevice⟩

theorem State.afterSecond_shape (s : State) (order : SecondOrder) : s.afterSecond order = { s with
    table := (s.afterSecond order).table, zones := (s.afterSecond order).zones, calendar := s.calendar.advance
    timebase := (s.afterSecond order).timebase, device := (s.afterSecond order).device, owed := (s.afterSecond order).owed } := by
  rw [(s.afterSecond_timebase order).1, (s.afterSecond_timebase order).2]
  exact s.afterSecond_frame order

/-! ### An entry that a second event ends -/

/-- The walk and the follow events of an entry that the count ends are part of the group. -/
theorem State.secondGroup_of_end (he : s.table[n] = some e) (hgroup : s.effectGroup n (s.secondEffect order n e) = g) :
    (∀ l, l ∈ g.events → l ∈ (s.secondGroup order).events) ∧ (g.walk = true → (s.secondGroup order).walk = true) := by
  subst hgroup
  refine ⟨fun l hl => ?_, fun hwalk => State.secondGroup_walk_iff.mpr (Or.inr (Or.inr (Or.inl ⟨n, e, he, hwalk⟩)))⟩
  obtain ⟨o, ho, hlink⟩ := State.mem_effectGroup_events.mp hl
  exact State.mem_secondGroup_events.mpr (Or.inr ⟨n, e, o, he, ho, hlink⟩)

/-- An unmatched entry that the count ends is resolved with the outcome of its count. -/
theorem State.secondEffect_ends (hmatch : s.matchesNow e = false) (huncounted : s.uncounted n = true) (ho : e.secondEnds = some o) :
    s.secondEffect order n e = e.resolve s.view o := by
  rw [State.secondEffect_counted hmatch huncounted, Entry.count_ends ho]

theorem State.mem_secondGroup_unmatched {l : FollowLink} (hl : l ∈ (s.secondGroup order).events) :
    l ∈ s.owed.underway.group.events ∨ ∃ e o, s.table[l.source] = some e ∧ s.uncounted l.source = true
      ∧ l ∈ s.followLinks l.source o ∧ (s.matchesNow e = false → e.secondEnds = some o) := by
  refine (State.mem_secondGroup_events.mp hl).imp_right ?_
  rintro ⟨n, e, o, he, ho, hlink⟩
  obtain rfl : l.source = n := (State.mem_followLinks.mp hlink).1
  obtain ⟨huncounted, hends⟩ := State.secondEffect_ended ho
  exact ⟨e, o, he, huncounted, hlink, hends⟩

end

/-- Settles O35: the entry by its one effect, each zone by its owner's effect and its rest, and the group by the effects of all. -/
theorem secondEventCounts : Obligations.SecondEventCounts := by
  refine ⟨fun s order hp => ⟨s.afterSecond order, exec_secondEvent hp, fun n => State.afterSecond_empty,
    fun z => State.afterSecond_free, fun hs n e z he ho => ⟨fun hz => ?_, fun hz => ?_⟩, fun hraised => ?_, fun hnone hunready => ?_,
    fun hnone x code quiet hready => ?_, State.afterSecond_idle_parts, s.afterSecond_shape order⟩,
    fun s order unmatched htakes hunmatched => ?_⟩
  · rw [State.afterSecond_zone_owned hs he ho (by rw [hz]; rfl) (by rw [hz]; rfl), hz]
  · rw [State.afterSecond_zone_owned hs he ho (by rw [hz]; rfl) (by rw [hz]; rfl), hz]
  · rw [(s.afterSecond_timebase order).1, (s.afterSecond_timebase order).2, State.raised_taken hraised]
    exact ⟨rfl, rfl⟩
  · rw [(s.afterSecond_timebase order).1, (s.afterSecond_timebase order).2, State.raised_none hnone]
    exact State.raiseSecond_unready hunready
  · rw [(s.afterSecond_timebase order).1, (s.afterSecond_timebase order).2, State.raised_none hnone]
    exact State.raiseSecond_ready_parts hready
  have hmatch (e : Entry) : unmatched e ↔ s.matchesNow e = false := (hunmatched e).trans State.matchesNow_eq_false.symm
  refine ⟨s.afterSecond order, s.secondGroup order, exec_secondEvent (State.takesArrivals_iff.mp htakes).1,
    State.afterSecond_handsOn htakes, fun hw => State.secondGroup_walk_iff.mpr (Or.inl hw),
    fun l hl => State.mem_secondGroup_events.mpr (Or.inl hl), fun l hl => ?_, State.secondGroup_nodup, fun hquiet hrests =>
      State.secondGroup_quiet (fun n e he => ⟨(hmatch e).mp (hquiet n e he).1, (hquiet n e he).2⟩) hrests, fun n e he hun => ?_⟩
  · refine (State.mem_secondGroup_unmatched hl).imp_right ?_
    rintro ⟨e, o, he, huncounted, hlink, hends⟩
    exact ⟨e, o, he, huncounted, hlink, fun hun => hends ((hmatch e).mp hun)⟩
  have hquiet := (hmatch e).mp hun
  refine ⟨fun hreached => ?_, fun huncounted hnone => ?_, fun huncounted o ho => ?_⟩
  · rw [State.afterSecond_slot htakes he, State.secondEffect_reached hquiet hreached]
    rfl
  · rw [State.afterSecond_slot htakes he, State.secondEffect_counted hquiet huncounted, Entry.count_on hnone]
    rfl
  have heffect : s.secondEffect order n e = e.resolve s.view o := State.secondEffect_ends hquiet huncounted ho
  obtain ⟨hlinks, hwalk⟩ := State.secondGroup_of_end (order := order) he
    ((congrArg (s.effectGroup n) heffect).trans (State.effectGroup_settle n))
  have hresolved := Entry.resolve_resolved s e (Entry.secondEnds_outcome ho)
  refine ⟨⟨_, State.afterSecond_slot htakes he, ?_⟩, hlinks, hwalk, fun hs hown z hclaim => ?_⟩
  · rw [heffect]
    exact ⟨hresolved.defn, hresolved.lastOutcome, hresolved.lastStart, hresolved.pending, hresolved.phase⟩
  have howner : s.zones[z].owner = some n := State.owner_of_owns hs he hown hclaim
  have hrelease : (s.secondEffect order n e).zones = .release := by
    rw [heffect, Entry.resolve_zones, if_pos hown]
  rw [State.afterSecond_zones htakes]
  refine ⟨fun hz => ?_, fun hz => ?_, fun r hz => State.secondCounted_zone_released_resting hs he hrelease hz⟩
  · rw [State.secondCounted_zone_released_unresting hs howner he hrelease (by rw [hz]; rfl), hz]
    rfl
  · rw [State.secondCounted_zone_released_unresting hs howner he hrelease (by rw [hz]; rfl), hz]
    rfl

end Sys2Proof.Machine
end

section
/-! ## A calendar match at one entry (R57, R59, R60) -/
namespace Sys2Proof.Machine

/-- What an end of its count leaves of an entry that no LEVEL re-check takes. -/
def Entry.endedBy (e : Entry) (o : EntryOutcome) : Entry :=
  { e with
    phase := e.defn.nextPhase o
    lastOutcome := some o
    pending := e.noted (if o = .skipped then .skip else .ending) }

/-- What a trigger leaves of an entry that drops it with OVERLAP, or restarts its run at it. -/
def Entry.matchLeaves (e u : Entry) : Prop :=
  (((∃ w, e.phase = .due w) ∨ (e.phase.ownsZones = true ∧ e.defn.retrigger = .ignore)) ∧ u = { e with pending := e.noted .overlap })
    ∨ ∃ r p, e.defn.retrigger = .restart ∧ ((e.phase = .running r ∧ p = Phase.running) ∨ (e.phase = .paused r ∧ p = Phase.paused))
      ∧ (e.defn.unit = .minutes → r.subMinute.isSome = true)
      ∧ u = { e with
          phase := p { r with
            counter := r.duration
            subMinute := if r.subMinute.isSome then some 0 else none
            capCount := if r.capCount.isSome then some { elapsed := 0, seconds := 0 } else none }
          snapshot := none }

/-! ### Counted and then restarted -/

theorem RunState.restarted_countCap (r : RunState) : r.countCap.restarted = r.restarted := by
  unfold RunState.countCap RunState.restarted
  cases r.capCount <;> rfl

/-- A restart takes back what a second event has counted, where the run state holds the counters of its unit. -/
theorem RunState.restarted_countSecond {r : RunState} {unit : RunUnit} (h : unit = .minutes → r.subMinute.isSome = true) :
    (r.countSecond unit).restarted = r.restarted := by
  cases unit with
  | seconds | pulses => rfl
  | minutes =>
    obtain ⟨c, hc⟩ := Option.isSome_iff_exists.mp (h rfl)
    unfold RunState.countSecond RunState.restarted
    simp only [hc]
    split <;> rfl

section
variable {s : State} {v : View} {e u : Entry} {o : EntryOutcome}

theorem Entry.countOn_noted (e : Entry) (c : Category) : e.countOn.noted c = e.noted c := by
  unfold Entry.countOn
  split <;> rfl

theorem Entry.countOn_due_phase (h : ∃ w, e.phase = .due w) : ∃ w, e.countOn.phase = .due w := by
  obtain ⟨w, hw⟩ := h
  exact ⟨w.next, by rw [Entry.countOn_due hw]⟩

theorem Entry.countOn_ownsZones (e : Entry) : e.countOn.phase.ownsZones = e.phase.ownsZones := by
  cases hphase : e.phase with
  | due w => rw [Entry.countOn_due hphase]; rfl
  | running r => rw [Entry.countOn_running hphase]; rfl
  | paused r => rw [Entry.countOn_paused hphase]; rfl
  | armed | held | confirming | spent => rw [Entry.countOn, hphase]; exact congrArg Phase.ownsZones hphase

/-! ### A trigger that is dropped, or restarts the run -/

theorem Entry.matchLeaves.trigger (h : e.matchLeaves u) (hl : v.live = true) : e.trigger v v.levels none = Effect.only u := by
  rcases h with ⟨hdue | ⟨howns, hignore⟩, rfl⟩ | ⟨r, p, hrestart, hphase, -, rfl⟩
  · exact Entry.trigger_dropped hl (Or.inl hdue)
  · exact Entry.trigger_ignored hl howns hignore
  · rw [← RunState.restarted_eq]
    rcases hphase with ⟨hrun, rfl⟩ | ⟨hrun, rfl⟩
    · exact Entry.trigger_restarts_running hl hrun hrestart
    · exact Entry.trigger_restarts_paused hl hrun hrestart

theorem Entry.matchLeaves.active (h : e.matchLeaves u) : e.phase.isActive = true := by
  rcases h with ⟨⟨w, hdue⟩ | ⟨howns, -⟩, -⟩ | ⟨r, p, -, ⟨hrun, -⟩ | ⟨hrun, -⟩, -, -⟩
  · rw [hdue]; rfl
  · by_contra hidle
    exact nomatch (Phase.ownsZones_of_isActive_false (Bool.eq_false_iff.mpr hidle)).symm.trans howns
  · rw [hrun]; rfl
  · rw [hrun]; rfl

theorem Entry.matchLeaves.defn (h : e.matchLeaves u) : u.defn = e.defn := by
  rcases h with ⟨-, rfl⟩ | ⟨r, p, -, -, -, rfl⟩ <;> rfl

theorem Entry.matchLeaves.ownsZones (h : e.matchLeaves u) : u.phase.ownsZones = e.phase.ownsZones := by
  rcases h with ⟨-, rfl⟩ | ⟨r, p, -, ⟨hrun, rfl⟩ | ⟨hrun, rfl⟩, -, rfl⟩
  · rfl
  · rw [hrun]; rfl
  · rw [hrun]; rfl

/-- R27, R28: an entry that has counted on drops the match as it would have before. -/
theorem Entry.matchLeaves.trigger_countOn_dropped (h : e.matchLeaves u) (hl : v.live = true)
    (hdrops : (∃ w, e.phase = .due w) ∨ e.defn.retrigger = .ignore) :
    e.countOn.trigger v v.levels none = Effect.only { e.countOn with pending := e.noted .overlap } := by
  rw [← Entry.countOn_noted]
  rcases hdrops with hdue | hignore
  · exact Entry.trigger_dropped hl (Or.inl (Entry.countOn_due_phase hdue))
  · rcases h with ⟨hdue | ⟨howns, -⟩, -⟩ | ⟨r, p, hrestart, -⟩
    · exact Entry.trigger_dropped hl (Or.inl (Entry.countOn_due_phase hdue))
    · exact Entry.trigger_ignored hl ((Entry.countOn_ownsZones e).trans howns) (by rwa [Entry.countOn_defn])
    · exact nomatch hignore.symm.trans hrestart

/-- R28: a restart forgets the second event that the run has counted. -/
theorem Entry.matchLeaves.trigger_countOn_restarts (h : e.matchLeaves u) (hl : v.live = true) (hr : e.defn.retrigger = .restart)
    (howns : e.phase.ownsZones = true) : e.countOn.trigger v v.levels none = Effect.only u := by
  rcases h with ⟨⟨w, hdue⟩ | ⟨-, hignore⟩, -⟩ | ⟨r, p, -, hphase, hminutes, rfl⟩
  · rw [hdue] at howns; exact nomatch howns
  · exact nomatch hignore.symm.trans hr
  · rw [← RunState.restarted_eq]
    rcases hphase with ⟨hrun, rfl⟩ | ⟨hrun, rfl⟩
    · rw [Entry.trigger_restarts_running hl (congrArg Entry.phase (Entry.countOn_running hrun)) ((Entry.countOn_defn e).symm ▸ hr),
        RunState.restarted_countCap, RunState.restarted_countSecond hminutes, Entry.countOn_running hrun]
    · rw [Entry.trigger_restarts_paused hl (congrArg Entry.phase (Entry.countOn_paused hrun)) ((Entry.countOn_defn e).symm ▸ hr),
        RunState.restarted_countCap, Entry.countOn_paused hrun]

/-! ### An end of a count at a CALENDAR entry -/

/-- A CALENDAR entry is not re-checked: it has no LEVEL pattern. -/
theorem State.not_levelHolds_of_calendar (hk : e.defn.kind = .calendar) : ¬ s.levelHolds e.defn := by
  rintro ⟨-, hpattern, -⟩
  exact nomatch hk.symm.trans hpattern

theorem Entry.settled_endedBy (h : o = .skipped ∨ o.isEnd = true) : e.settled o (e.defn.nextPhase o) = e.endedBy o := by
  rcases h with rfl | h
  · exact Entry.settled_of_skip (Or.inl rfl) _
  · rw [Entry.settled_of_end h, Entry.endedBy, if_neg (by rintro rfl; exact nomatch h)]

theorem Entry.resolve_endedBy (hk : e.defn.kind = .calendar) (h : e.secondEnds = some o) :
    (e.resolve s.view o).entry = e.endedBy o := by
  rw [Entry.resolve, (Entry.settle_passed fun hlevel => State.not_levelHolds_of_calendar hk hlevel.2).1,
    Entry.settled_endedBy (Entry.secondEnds_outcome h)]

end

/-! ### One arrival and then a trigger -/

section
variable {v : View} {a : Effect} {levels : Levels} {snapshot : Option Levels}

theorem Effect.andThen_trigger_entry : (a.andThen (Entry.trigger v levels snapshot)).entry = (a.entry.trigger v levels snapshot).entry := rfl

theorem Effect.andThen_trigger_walk :
    (a.andThen (Entry.trigger v levels snapshot)).walk = (a.walk || (a.entry.trigger v levels snapshot).walk) := rfl

theorem Effect.andThen_trigger_zones : (a.andThen (Entry.trigger v levels snapshot)).zones = a.zones :=
  if_pos (Entry.trigger_zones _ _ _ _)

theorem Effect.andThen_trigger_ended : (a.andThen (Entry.trigger v levels snapshot)).ended = a.ended := by
  show (a.entry.trigger v levels snapshot).ended.or a.ended = _
  rw [Entry.trigger_ended, Option.none_or]

end

end Sys2Proof.Machine
end

section
/-! ## SECOND_EVENT at an entry whose match takes the time (R57, R59, R60) -/
namespace Sys2Proof.Machine

section
variable {s : State} {order : SecondOrder} {n : EntryIx} {e u x : Entry} {z : ZoneIx} {o : EntryOutcome} {l : FollowLink}

theorem State.takesArrivals_of_isLive (h : s.isLive = true) : s.takesArrivals = true := by
  rw [State.isLive_iff] at h
  obtain ⟨-, hheld, hp⟩ := h
  exact State.takesArrivals_iff.mpr ⟨hp, hheld⟩

theorem State.matchesNow_iff : s.matchesNow e = true ↔ s.isLive = true ∧ s.timeValid = true ∧ e.defn.kind = .calendar
    ∧ e.defn.calendarMatch.matchesTime s.calendar.advance = true := by
  simp only [State.matchesNow, Bool.and_eq_true, beq_iff_eq, and_assoc]

/-! ### The match alone -/

theorem State.secondEffect_matched_inactive (hm : s.matchesNow e = true) (h : e.phase.isActive = false) :
    s.secondEffect order n e = e.trigger s.view s.levels none := by
  rw [State.secondEffect, hm, Entry.secondEvent_inactive h]
  rfl

theorem State.secondEffect_matched_reached (hm : s.matchesNow e = true) (hn : s.uncounted n = false) :
    s.secondEffect order n e = e.trigger s.view s.levels none := by
  have hskip : s.owed.underway.entries.getLsbD n.val = true := by
    rw [← Bool.not_eq_false, ← State.uncounted_iff, hn]
    exact Bool.false_ne_true
  rw [State.secondEffect, hm, hskip, Entry.secondEvent_reached]
  rfl

/-! ### The match before the count -/

theorem State.secondEffect_matched_first (hm : s.matchesNow e = true) (hu : e.matchLeaves u) (hl : s.isLive = true)
    (hn : s.uncounted n = true) (hfirst : order.matchFirst.getLsbD n.val = true) : s.secondEffect order n e = u.count s.view := by
  rw [State.secondEffect, hm, hfirst, State.uncounted_iff.mp hn, Entry.secondEvent_matchFirst hu.active, hu.trigger hl,
    Effect.only_andThen]

/-! ### The count before the match -/

theorem State.secondEffect_counted_first (hm : s.matchesNow e = true) (ha : e.phase.isActive = true)
    (hn : s.uncounted n = true) (hlast : order.matchFirst.getLsbD n.val = false) :
    s.secondEffect order n e = (e.count s.view).andThen (Entry.trigger s.view s.levels none) := by
  rw [State.secondEffect, hm, hlast, State.uncounted_iff.mp hn, Entry.secondEvent_countFirst ha]
  rfl

/-- An entry that counts on before the match finds it. -/
theorem State.secondEffect_counted_on (hm : s.matchesNow e = true) (ha : e.phase.isActive = true)
    (hn : s.uncounted n = true) (hlast : order.matchFirst.getLsbD n.val = false) (hnone : e.secondEnds = none) :
    s.secondEffect order n e = e.countOn.trigger s.view s.levels none := by
  rw [State.secondEffect_counted_first hm ha hn hlast, Entry.count_on hnone, Effect.only_andThen]

/-- An entry that the count ends before the match finds it in its next state. -/
theorem State.secondEffect_ended_first (hm : s.matchesNow e = true) (ha : e.phase.isActive = true)
    (hn : s.uncounted n = true) (hlast : order.matchFirst.getLsbD n.val = false) (ho : e.secondEnds = some o) :
    (s.secondEffect order n e).entry = ((e.endedBy o).trigger s.view s.levels none).entry
      ∧ (((e.endedBy o).trigger s.view s.levels none).walk = true → (s.secondEffect order n e).walk = true) := by
  rw [State.secondEffect_counted_first hm ha hn hlast, Entry.count_ends ho, Effect.andThen_trigger_entry, Effect.andThen_trigger_walk,
    Entry.resolve_endedBy (State.matchesNow_iff.mp hm).2.2.1 ho]
  exact ⟨rfl, fun h => Bool.or_eq_true_iff.mpr (Or.inr h)⟩

/-! ### What an end hands on -/

/-- The end of a count, before the match or after it, is the end that the second event makes of the entry. -/
theorem State.secondEffect_matched_ends (hm : s.matchesNow e = true) (hu : e.matchLeaves u) (hl : s.isLive = true)
    (hn : s.uncounted n = true)
    (hx : (order.matchFirst.getLsbD n.val = true ∧ x = u) ∨ (order.matchFirst.getLsbD n.val = false ∧ x = e))
    (ho : x.secondEnds = some o) : (s.secondEffect order n e).ended = (if o.isEnd then some o else none)
      ∧ (s.secondEffect order n e).zones = if e.phase.ownsZones then .release else .keep := by
  have hended (y : Entry) : (y.resolve s.view o).ended = if o.isEnd then some o else none := by
    rw [Entry.resolve, Entry.settle_ended]
    show (if s.isLive && o.isEnd then _ else _) = _
    rw [hl, Bool.true_and]
  rcases hx with ⟨hfirst, rfl⟩ | ⟨hlast, rfl⟩
  · rw [State.secondEffect_matched_first hm hu hl hn hfirst, Entry.count_ends ho, Entry.resolve_zones, hu.ownsZones]
    exact ⟨hended _, rfl⟩
  · rw [State.secondEffect_counted_first hm hu.active hn hlast, Entry.count_ends ho, Effect.andThen_trigger_ended,
      Effect.andThen_trigger_zones, Entry.resolve_zones]
    exact ⟨hended _, rfl⟩

/-! ### What a matched entry leaves in the group and at its slot -/

theorem State.afterSecond_walk_of_effect (hl : s.isLive = true) (he : s.table[n] = some e)
    (h : (s.secondEffect order n e).causesWalk = true) : s.walkCaused (s.afterSecond order) :=
  State.afterSecond_walkCaused (State.takesArrivals_of_isLive hl)
    (State.secondGroup_walk_iff.mpr (Or.inr (Or.inr (Or.inl ⟨n, e, he, h⟩))))

theorem State.afterSecond_slot_of_only (hl : s.isLive = true) (he : s.table[n] = some e)
    (h : s.secondEffect order n e = Effect.only x) : (s.afterSecond order).table[n] = some x := by
  rw [State.afterSecond_slot (State.takesArrivals_of_isLive hl) he, h]
  rfl

/-- The end of a count before the match: the match then finds the next state of the run or wait, a state in which nothing counts. -/
theorem State.afterSecond_ended_first (hm : s.matchesNow e = true) (hl : s.isLive = true) (he : s.table[n] = some e)
    (ha : e.phase.isActive = true) (hn : s.uncounted n = true) (hlast : order.matchFirst.getLsbD n.val = false)
    (ho : e.secondEnds = some o) (hx : x = e.endedBy o) :
    (x.phase = .spent → (s.afterSecond order).table[n] = some x)
    ∧ (x.phase = .confirming → (s.afterSecond order).table[n] = some { x with pending := x.noted .overlap })
    ∧ (x.phase = .armed → e.defn.permitHolds s.levels = true →
        (s.afterSecond order).table[n] = some { x with phase := .due freshWait, snapshot := none } ∧ s.walkCaused (s.afterSecond order))
    ∧ (x.phase = .armed → e.defn.permitHolds s.levels = false →
        (s.afterSecond order).table[n] = some { x with
          phase := if e.defn.rep = .once then .spent else .armed
          snapshot := none
          lastOutcome := some .blocked
          pending := x.noted .skip }) := by
  obtain ⟨hentry, hwalk⟩ := State.secondEffect_ended_first hm ha hn hlast ho
  rw [← hx] at hentry hwalk
  have hdefn : x.defn = e.defn := by rw [hx]; rfl
  have hslot {y : Entry} {b : Effect} (htrigger : x.trigger s.view s.levels none = b) (hb : b.entry = y) :
      (s.afterSecond order).table[n] = some y := by
    rw [State.afterSecond_slot (State.takesArrivals_of_isLive hl) he, hentry, htrigger, hb]
  refine ⟨fun hp => hslot (Entry.trigger_resting (Or.inr hp)) rfl, fun hp => hslot (Entry.trigger_dropped hl (Or.inr hp)) rfl,
    fun hp hpermit => ?_, fun hp hpermit => ?_⟩
  · rw [← hdefn] at hpermit
    have htrigger := Entry.trigger_due (v := s.view) (levels := s.levels) (snapshot := none) hl hp hpermit
    refine ⟨hslot htrigger rfl, State.afterSecond_walk_of_effect hl he ?_⟩
    rw [Effect.causesWalk, hwalk (by rw [htrigger]), Bool.true_or]
  · rw [← hdefn] at hpermit ⊢
    exact hslot (Entry.trigger_blocked hl hp hpermit) rfl

/-- R112, R120, R128: what an end at a matched entry hands on, and what becomes of the zones of its run. -/
theorem State.afterSecond_matched_ends (hm : s.matchesNow e = true) (hu : e.matchLeaves u) (hl : s.isLive = true)
    (he : s.table[n] = some e) (hn : s.uncounted n = true)
    (hx : (order.matchFirst.getLsbD n.val = true ∧ x = u) ∨ (order.matchFirst.getLsbD n.val = false ∧ x = e))
    (ho : x.secondEnds = some o) :
    (∀ l, l ∈ s.followLinks n o → o.isEnd = true → l ∈ (s.afterSecond order).links)
    ∧ (x.phase.ownsZones = true → e.defn.claim ≠ 0 → s.walkCaused (s.afterSecond order))
    ∧ (s.ownerLaw → ∀ z : ZoneIx, e.defn.claim.getLsbD z.val = true → s.zones[z] = .ownedOn n →
        (s.afterSecond order).zones[z] = if s.restTime z = 0 then .free else .resting (s.restTime z)) := by
  have htakes := State.takesArrivals_of_isLive hl
  obtain ⟨hended, hzones⟩ := State.secondEffect_matched_ends hm hu hl hn hx ho
  have howns : x.phase.ownsZones = e.phase.ownsZones := by
    rcases hx with ⟨-, rfl⟩ | ⟨-, rfl⟩
    · exact hu.ownsZones
    · rfl
  refine ⟨fun l hlink hend => ?_, fun hown hclaim => ?_, fun hs z hclaim hz => ?_⟩
  · rw [if_pos hend] at hended
    exact State.afterSecond_links htakes (State.mem_secondGroup_events.mpr (Or.inr ⟨n, e, o, he, hended, hlink⟩))
  · rw [← howns, if_pos hown] at hzones
    refine State.afterSecond_walk_of_effect hl he ?_
    rw [Effect.causesWalk, hzones, State.secondEffect_defn, Bool.or_eq_true]
    exact Or.inr (bne_iff_ne.mpr hclaim)
  · have howner : s.zones[z].owner = some n := by rw [hz]; rfl
    obtain ⟨e', he', hown, -⟩ := State.owns_of_owner hs howner
    obtain rfl : e = e' := Option.some.inj (he.symm.trans he')
    rw [if_pos hown] at hzones
    rw [State.afterSecond_zones htakes, State.secondCounted_zone_released_unresting hs howner he hzones (by rw [hz]; rfl), hz]
    rfl

end

/-- Settles O36, by the state that the match finds the entry in, and by the order of the match and the count. -/
theorem calendarMatchTriggers : Obligations.CalendarMatchTriggers := by
  intro s order n e hl htime he hk htaken
  have hm : s.matchesNow e = true := State.matchesNow_iff.mpr ⟨hl, htime, hk, htaken⟩
  have hslot {x : Entry} (h : s.secondEffect order n e = Effect.only x) : (s.afterSecond order).table[n] = some x :=
    State.afterSecond_slot_of_only hl he h
  have hinactive (hp : e.phase.isActive = false) := State.secondEffect_matched_inactive (order := order) (n := n) hm hp
  refine ⟨s.afterSecond order, exec_secondEvent (State.takesArrivals_iff.mp (State.takesArrivals_of_isLive hl)).1,
    fun hp hpermit => ?_, fun hp hpermit => ?_, fun hp => ?_, fun hp => ?_, fun u hu => ?_⟩
  · have heffect := (hinactive (by rw [hp]; rfl)).trans (Entry.trigger_due (v := s.view) hl hp hpermit)
    refine ⟨?_, State.afterSecond_walk_of_effect hl he (by rw [heffect]; rfl)⟩
    rw [State.afterSecond_slot (State.takesArrivals_of_isLive hl) he, heffect]
    rfl
  · exact hslot ((hinactive (by rw [hp]; rfl)).trans (Entry.trigger_blocked hl hp hpermit))
  · exact hslot ((hinactive (by rcases hp with hp | hp <;> rw [hp] <;> rfl)).trans (Entry.trigger_resting hp))
  · exact hslot ((hinactive (by rw [hp]; rfl)).trans (Entry.trigger_dropped hl (Or.inr hp)))
  replace hu : e.matchLeaves u := hu
  refine ⟨fun hn => hslot ((State.secondEffect_matched_reached hm hn).trans (hu.trigger hl)), fun hn hfirst => ?_, fun hn hlast => ?_,
    fun x o hn ho hx => State.afterSecond_matched_ends hm hu hl he hn hx ho⟩
  · have heffect := State.secondEffect_matched_first (order := order) hm hu hl hn hfirst
    refine ⟨fun hnone => hslot (heffect.trans (Entry.count_on hnone)), fun o ho => ?_⟩
    rw [State.afterSecond_slot (State.takesArrivals_of_isLive hl) he, heffect, Entry.count_ends ho,
      Entry.resolve_endedBy (by rw [hu.defn]; exact hk) ho]
    rfl
  · have hon (hnone : e.secondEnds = none) := State.secondEffect_counted_on (order := order) hm hu.active hn hlast hnone
    exact ⟨fun hnone hdrops => hslot ((hon hnone).trans (hu.trigger_countOn_dropped hl hdrops)),
      fun hnone hr howns => hslot ((hon hnone).trans (hu.trigger_countOn_restarts hl hr howns)),
      fun o x ho hx => State.afterSecond_ended_first hm hl he hu.active hn hlast ho hx⟩

end Sys2Proof.Machine
end
